-- ==== Sys2Proof/Word.lean ====
section
/-! DEFINITION. The plainest data of the model: bytes, fixed-size tables indexed by a number, counts per
denomination and marks per denomination. The controller is a block of tables of known size (12 denominations,
177 positions, 256 tills ...); a `Tab n α` is such a table, plain data whose length is part of its type. -/

namespace Sys2Proof

/-- One byte of a line. -/
abbrev Byte := BitVec 8

/-- A table of exactly `n` entries, numbered from 0. -/
structure Tab (n : Nat) (α : Type) where
  list : List α
  size : list.length = n
  deriving DecidableEq, Repr

/-- Entry `i`, or `d` where the table has no entry `i`. -/
def Tab.get {n : Nat} {α : Type} (d : α) (t : Tab n α) (i : Nat) : α := t.list.getD i d

/-- The table with entry `i` replaced; unchanged where the table has no entry `i`. -/
def Tab.set {n : Nat} {α : Type} (t : Tab n α) (i : Nat) (a : α) : Tab n α :=
  ⟨t.list.set i a, by rw [List.length_set, t.size]⟩

/-- The table whose every entry is `a`. -/
def Tab.fill (n : Nat) {α : Type} (a : α) : Tab n α := ⟨List.replicate n a, List.length_replicate⟩

/-- Each entry changed by `f`. -/
def Tab.map {n : Nat} {α β : Type} (f : α → β) (t : Tab n α) : Tab n β :=
  ⟨t.list.map f, by rw [List.length_map, t.size]⟩

/-- A list with each element changed by `f`, which is also given the element's number. -/
def mapFrom {α β : Type} (f : Nat → α → β) : Nat → List α → List β
  | _, [] => []
  | k, a :: l => f k a :: mapFrom f (k + 1) l

theorem length_mapFrom {α β : Type} (f : Nat → α → β) (k : Nat) (l : List α) :
    (mapFrom f k l).length = l.length := by
  induction l generalizing k with
  | nil => rfl
  | cons a l ih => simp [mapFrom, ih]

/-- Each entry changed by `f`, which is also given the entry's number. -/
def Tab.mapIdx {n : Nat} {α β : Type} (f : Nat → α → β) (t : Tab n α) : Tab n β :=
  ⟨mapFrom f 0 t.list, by rw [length_mapFrom, t.size]⟩

/-- The table whose entry `i` is `f i`. -/
def Tab.ofFn (n : Nat) {α : Type} (f : Nat → α) : Tab n α :=
  ⟨(List.range n).map f, by simp⟩

/-- One count per denomination index, 0 to 11. -/
abbrev Counts := Tab 12 Nat

/-- One mark per denomination index, set or clear. -/
abbrev Marks := Tab 12 Bool

/-- All twelve counts zero. -/
def Counts.zero : Counts := Tab.fill 12 0

/-- The count of denomination `d`. -/
def Counts.of (c : Counts) (d : Nat) : Nat := Tab.get 0 c d

/-- The counts with denomination `d` changed to `n`. -/
def Counts.put (c : Counts) (d n : Nat) : Counts := Tab.set c d n

/-- The counts with `n` more of denomination `d`. -/
def Counts.plus (c : Counts) (d n : Nat) : Counts := Counts.put c d (Counts.of c d + n)

/-- The counts with `n` fewer of denomination `d`. -/
def Counts.minus (c : Counts) (d n : Nat) : Counts := Counts.put c d (Counts.of c d - n)

/-- The sum of two sets of counts, denomination by denomination. -/
def Counts.add (a b : Counts) : Counts := Tab.ofFn 12 fun d => Counts.of a d + Counts.of b d

/-- The difference of two sets of counts, denomination by denomination, never below zero. -/
def Counts.sub (a b : Counts) : Counts := Tab.ofFn 12 fun d => Counts.of a d - Counts.of b d

/-- Every count is zero. -/
def Counts.isZero (c : Counts) : Bool := c.list.all (· == 0)

/-- The number of items of every denomination together. -/
def Counts.items (c : Counts) : Nat := c.list.foldr (· + ·) 0

/-- All twelve marks clear. -/
def Marks.clear : Marks := Tab.fill 12 false

/-- The mark of denomination `d`. -/
def Marks.has (m : Marks) (d : Nat) : Bool := Tab.get false m d

/-- The marks with that of denomination `d` set. -/
def Marks.mark (m : Marks) (d : Nat) : Marks := Tab.set m d true

/-- At least one mark is set. -/
def Marks.any (m : Marks) : Bool := m.list.any id

/-- The denominations whose mark is set, in ascending order. -/
def Marks.list' (m : Marks) : List Nat := (List.range 12).filter (Marks.has m)

/-- The denomination indices, in ascending order. -/
def denoms : List Nat := List.range 12

/-- The next number of a counter that runs from 1 to `top` and then from 1 again. -/
def nextNumber (top n : Nat) : Nat := if n ≥ top then 1 else n + 1

end Sys2Proof
end

