-- ==== Sys2Proof/Config.lean ====
section
/-! DEFINITION. The sizes, ranges and defaults the spec fixes for the controller, each with its rule. Nothing here is an
open choice: the spec gives every one of these figures. -/

namespace Sys2Proof.Config

/-- The largest count of one denomination in one position, Table 1-4. -/
def maxCount : Nat := 65535
/-- The largest value the controller forms, R1: 2^40 minor units. -/
def maxValue : Nat := 1099511627776
/-- The largest face value of a denomination, Table 1-1. -/
def maxFace : Nat := 1000000
/-- The largest number of the movement, posting and lot counters and of the clock, R26, R37, R99, R199. -/
def top32 : Nat := 4294967295
/-- The posting queue holds at most this many entries, R37. -/
def postingCap : Nat := 128
/-- POSTINGS_WAITING is sent when the depth passes above this, R41. -/
def waitingMark : Nat := 96
/-- The waiting notice is armed again when the depth falls below this, R41. -/
def rearmMark : Nat := 64
/-- The largest total length of the entries of one FETCH POSTINGS reply, R39. -/
def fetchBytes : Nat := 480
/-- Float value, pickups value, return value, target value and short tolerance go up to 2^37, Table 3-1 and R48. -/
def maxTillValue : Nat := 137438953472
/-- The sales figure lies within plus and minus 2^39, Table 3-1. -/
def maxSales : Int := 549755813888
/-- The greatest session number, Table 3-1. -/
def maxSession : Nat := 65535
/-- The greatest operator number, R26. -/
def maxOperator : Nat := 999999
/-- The greatest bag number, R171. -/
def maxBagNumber : Nat := 999999999
/-- The job queue holds at most this many jobs, R103. -/
def jobCap : Nat := 16
/-- The greatest coin declaration limit and its default, R108. -/
def maxCoinLimit : Nat := 1000000000
def defaultCoinLimit : Nat := 50000
/-- The recount count never exceeds this, R116. -/
def recountLimit : Nat := 3
/-- Line settings and their defaults, Table 4-1. -/
def defaultBitRate : Nat := 38400
def defaultRepeatLimit : Nat := 3
def defaultPollInterval : Nat := 20
/-- Consecutive misses that take a station out of use, R87, and fetches of one report, R92. -/
def missLimit : Nat := 3
def fetchLimit : Nat := 3
/-- Cassette capacity: its range and default, Table 6-3. -/
def minCapacity : Nat := 100
def maxCapacity : Nat := 2200
def defaultCapacity : Nat := 2000
/-- Fault bucket weights and ceiling, Table 8-1, R158. -/
def bucketTop : Nat := 255
def misfeedWeight : Nat := 1
def doubleWeight : Nat := 2
def jamWeight : Nat := 6
/-- Failed picks that leave a pick point, R140, and consecutive failures that strand a source, R166. -/
def pickLimit : Nat := 3
/-- Fault policy defaults, R160. -/
def defaultThreshold : Nat := 32
def defaultLeakNotes : Nat := 250
/-- Arbiter settings' defaults, Table 7-2. -/
def defaultRunLength : Nat := 25
def defaultRatio : Nat := 2
def defaultDecr : Nat := 1
def defaultLimit : Nat := 400
def defaultClip : Nat := 600
def defaultPatience : Nat := 8
/-- The skip count stays at this, R153. -/
def skipTop : Nat := 64
/-- Items of one consignment, R177. -/
def consignmentItems : Nat := 16
/-- The door-open limit, R182. -/
def minDoorLimit : Nat := 10
def maxDoorLimit : Nat := 300
def defaultDoorLimit : Nat := 60
/-- The courier door timeout, R185. -/
def courierTimeout : Nat := 120
/-- The safe relock time, R198. -/
def minRelock : Nat := 30
def maxRelock : Nat := 900
def defaultRelock : Nat := 120
/-- The notice queue and the owed LINK_BUSY replies, R206, R203. -/
def noticeCap : Nat := 32
def owedCap : Nat := 8
/-- The greatest notice number, R206. -/
def maxNoticeNumber : Nat := 65535
/-- The greatest reply body, R205, and frame body, R201. -/
def maxReplyBody : Nat := 512
/-- The bound on the follow-on reactions of one event (see `Machine.settle`). The spec gives none: every chain of
reactions it describes ends; the bound only makes the recursion structural. DESIGN CHOICE, log entry 4. -/
def reactionFuel : Nat := 4096

end Sys2Proof.Config
end

