-- ==== Sys2Proof/Syntax.lean ====
section
/-! DEFINITION. The commands the controller takes, one constructor of `Instr` for each row of spec/opcode_table.json,
with the operands their rules name. A host request carries the tag of its frame and a body: the fields its rule names,
or a body that does not decode into them (R203). A field outside its range is kept as it was sent (a plain number), and
a choice whose code names no value is `none`, so that the owning block refuses it as its rule states. The events of
the mechanism, the station line, the bay and the safe carry what R122 and Sections 4, 9 and 10 say they carry. -/

namespace Sys2Proof

/-- The body of a received request: its fields, or a body that does not decode into them by R201. -/
inductive Body (α : Type) where
  | good (fields : α)
  | bad
  deriving DecidableEq, Repr

/-- A (denomination, count) pair of a movement list, R9. -/
structure Pair where
  denom : Nat
  count : Nat
  deriving DecidableEq, Repr

/-- A cassette slot m.s as a request names it; R5. -/
structure SlotAddr where
  module : Nat
  slot : Nat
  deriving DecidableEq, Repr

/-- Denomination kinds, Table 1-1. -/
inductive DenomKind where
  | note | coin | roll
  deriving DecidableEq, Repr

/-- What SET DENOMINATION asks of a record, R3. -/
inductive DenomSpec where
  | note (face : Nat)
  | coin (face : Nat)
  | roll (coin size : Nat)
  | unknownKind
  deriving DecidableEq, Repr

structure SetDenominationReq where
  index : Nat
  spec : DenomSpec
  deriving DecidableEq, Repr

/-- The option of QUERY POSITION, R36. -/
inductive QueryOption where
  | peek | settle
  deriving DecidableEq, Repr

structure QueryPositionReq where
  position : Nat
  option : Option QueryOption
  deriving DecidableEq, Repr

/-- Posting modes, Table 1-4. -/
inductive PostingMode where
  | through | held
  deriving DecidableEq, Repr

structure SetPostingModeReq where
  position : Nat
  mode : Option PostingMode
  deriving DecidableEq, Repr

/-- The direction of an ADJUST: into the position or out of it, R43. -/
inductive Direction where
  | into | outOf
  deriving DecidableEq, Repr

structure AdjustReq where
  position : Nat
  direction : Option Direction
  pairs : List Pair
  op1 : Nat
  op2 : Nat
  deriving DecidableEq, Repr

structure OpeningReq where
  position : Nat
  pairs : List Pair
  op1 : Nat
  op2 : Nat
  deriving DecidableEq, Repr

/-- One entry of a float template, R48. -/
structure TemplateEntry where
  denom : Nat
  pref : Nat
  min : Nat
  max : Nat
  deriving DecidableEq, Repr

structure SetTemplateReq where
  cls : Nat
  target : Nat
  short : Nat
  pickupLimit : Nat
  tolOk : Nat
  tolReview : Nat
  entries : List TemplateEntry
  deriving DecidableEq, Repr

structure BuildFloatReq where
  till : Nat
  cls : Nat
  deriving DecidableEq, Repr

/-- A till and the operator who hands the float over, R63 and R64. -/
structure TillOpReq where
  till : Nat
  op : Nat
  deriving DecidableEq, Repr

structure ReportSalesReq where
  till : Nat
  figure : Int
  deriving DecidableEq, Repr

structure AcceptVarianceReq where
  till : Nat
  op1 : Nat
  op2 : Nat
  deriving DecidableEq, Repr

structure SetLineReq where
  bitRate : Nat
  repeatLimit : Nat
  pollInterval : Nat
  deriving DecidableEq, Repr

/-- The source of START COUNT with its detail, R100. -/
inductive CountSource where
  | pickup (till : Nat)
  | ret (till : Nat)
  | container (slot : Nat)
  | reserveRecount (denoms : List Nat)
  | purge (module : Nat)
  | stranded (lot : Nat)
  | unknown
  deriving DecidableEq, Repr

/-- Where a lot may be counted, Table 5-1: one station, any station, or none (a coin-only lot). -/
inductive StationSel where
  | one (station : Nat)
  | any
  | coinOnly
  deriving DecidableEq, Repr

structure StartCountReq where
  source : CountSource
  station : Option StationSel
  declared : Option Nat
  deriving DecidableEq, Repr

structure DeclareCoinReq where
  lot : Nat
  pairs : List Pair
  op1 : Nat
  op2 : Option Nat
  deriving DecidableEq, Repr

/-- The disposal named at ACCEPT COUNT, Table 5-1. -/
inductive Disposal where
  | deposit
  | reserve
  | container (slot : Nat)
  deriving DecidableEq, Repr

structure AcceptCountReq where
  lot : Nat
  disposal : Option Disposal
  op1 : Nat
  op2 : Option Nat
  deriving DecidableEq, Repr

structure DisposeLotReserveReq where
  lot : Nat
  op : Nat
  deriving DecidableEq, Repr

/-- Cassette roles, Table 6-3. -/
inductive Role where
  | unassigned | recycle | depositOnly | spare | retired
  deriving DecidableEq, Repr

structure SetCassetteReq where
  slot : SlotAddr
  role : Option Role
  denom : Option Nat
  capacity : Nat
  deriving DecidableEq, Repr

structure InsertCassetteReq where
  slot : SlotAddr
  tagNumber : Nat
  role : Option Role
  denom : Option Nat
  capacity : Nat
  deriving DecidableEq, Repr

/-- The option of REMOVE CASSETTE, R131. -/
inductive RemoveOption where
  | empty | forCollection | stranded
  deriving DecidableEq, Repr

structure RemoveCassetteReq where
  slot : SlotAddr
  option : Option RemoveOption
  op1 : Nat
  op2 : Nat
  deriving DecidableEq, Repr

/-- A routing range as SET ROUTE gives it, R133. -/
structure RangeReq where
  limit : Nat
  ways : List SlotAddr
  deriving DecidableEq, Repr

structure SetRouteReq where
  denom : Nat
  ranges : List RangeReq
  deriving DecidableEq, Repr

/-- Preemption settings, Table 7-2. -/
inductive Preemption where
  | never | inWindow | always
  deriving DecidableEq, Repr

structure SetArbiterReq where
  runLength : Nat
  ratio : Nat
  decr : Nat
  limit : Nat
  clip : Nat
  patience : Nat
  preemption : Option Preemption
  deriving DecidableEq, Repr

structure SetFaultPolicyReq where
  threshold : Nat
  leakNotes : Nat
  deriving DecidableEq, Repr

/-- A cassette slot and two operators: CLEAR BUCKET (R161), START EVACUATION (R164). -/
structure SlotOpsReq where
  slot : SlotAddr
  op1 : Nat
  op2 : Nat
  deriving DecidableEq, Repr

structure SetEvacuationReq where
  module : Nat
  enable : Option Bool
  deriving DecidableEq, Repr

/-- The sources of FILL BAG, R174. -/
inductive FillSource where
  | reserve | suspect | purge0 | purge1
  deriving DecidableEq, Repr

structure FillBagReq where
  slot : Nat
  source : Option FillSource
  pairs : List Pair
  op : Nat
  deriving DecidableEq, Repr

/-- Consignment kinds, Table 9-2. -/
inductive ConsKind where
  | collection | delivery
  deriving DecidableEq, Repr

structure DeliveryItemReq where
  number : Nat
  declaredValue : Nat
  pairs : List Pair
  deriving DecidableEq, Repr

structure CreateConsignmentReq where
  kind : Option ConsKind
  route : Nat
  windowOpen : Nat
  windowClose : Nat
  items : List DeliveryItemReq
  deriving DecidableEq, Repr

structure AddItemReq where
  consignment : Nat
  container : Nat
  deriving DecidableEq, Repr

structure EngageReq where
  consignment : Nat
  route : Nat
  op1 : Nat
  op2 : Nat
  deriving DecidableEq, Repr

/-- A set of operator roles, R195. -/
structure Roles where
  cashier : Bool
  supervisor : Bool
  custodian : Bool
  deriving DecidableEq, Repr

/-- What SET ROSTER ENTRY puts into an entry; `roles` is `none` where a role is unknown. -/
structure RosterContent where
  number : Nat
  roles : Option Roles
  active : Bool
  deriving DecidableEq, Repr

structure SetRosterReq where
  entry : Nat
  content : Option RosterContent
  op1 : Nat
  op2 : Nat
  deriving DecidableEq, Repr

structure OpenSafeReq where
  op1 : Nat
  op2 : Nat
  deriving DecidableEq, Repr

/-- Why a frame is dropped whole, R202. -/
inductive DropReason where
  | length | crc | kind
  deriving DecidableEq, Repr

/-- The two bay doors. -/
inductive Door where
  | office | courier
  deriving DecidableEq, Repr

/-- Mechanism states of a station, Table 4-3. -/
inductive MechState where
  | ready | feeding | reportReady | stackHold | jam | coverOpen
  deriving DecidableEq, Repr

/-- The points where the reader reads a note, R122. -/
inductive ReadPoint where
  | head (h : Fin 2)
  | tray
  deriving DecidableEq, Repr

/-- What the reader read: a denomination and a grade band, or nothing it could read (NO_READ). -/
inductive Reading where
  | note (denom : Nat) (band : Fin 4)
  | noRead
  deriving DecidableEq, Repr

/-- The points where a note arrives, Table 6-1. -/
inductive Arrival where
  | cassette (c : Fin 12)
  | tray
  | escrow
  | purge (m : Fin 2)
  deriving DecidableEq, Repr

/-- The points notes are picked from, R122. -/
inductive PickPoint where
  | head (h : Fin 2)
  | tray
  | cassette (c : Fin 12)
  deriving DecidableEq, Repr

/-- The points where a jam is reported, R122. -/
inductive JamPoint where
  | cassette (c : Fin 12)
  | branch (m : Fin 2)
  | common
  deriving DecidableEq, Repr

/-- The contents of a REPORT HEAD record, Table 4-3. -/
structure HeadRecord where
  job : Nat
  items : Nat
  notes : Nat
  suspects : Nat
  deriving DecidableEq, Repr

/-- The contents of a REPORT ITEM record, Table 4-3. -/
structure ItemRecord where
  denom : Nat
  band0 : Nat
  band1 : Nat
  band2 : Nat
  band3 : Nat
  suspects : Nat
  deriving DecidableEq, Repr

/-- The contents of a REPORT END record, Table 4-3. -/
structure EndRecord where
  job : Nat
  total : Nat
  deriving DecidableEq, Repr

/-- The commands, one for each row of the table. In a line event `signals` lists, character by character, how many
error signals were seen on the character (R81); `station` 0 to 3 stands for stations 1 to 4 of the line, `h` 0 and 1
for intake heads 1 and 2, `c` 0 to 11 for cassettes 0.0 to 1.5. -/
inductive Instr where
  -- Book unit
  | setDenomination (tag : Nat) (body : Body SetDenominationReq)
  | clearDenomination (tag : Nat) (body : Body Nat)
  | queryStock (tag : Nat) (body : Body Unit)
  | queryPosition (tag : Nat) (body : Body QueryPositionReq)
  | postPosition (tag : Nat) (body : Body Nat)
  | setPostingMode (tag : Nat) (body : Body SetPostingModeReq)
  | fetchPostings (tag : Nat) (body : Body Nat)
  | adjustPosition (tag : Nat) (body : Body AdjustReq)
  | opening (tag : Nat) (body : Body OpeningReq)
  -- Till desk
  | setTemplate (tag : Nat) (body : Body SetTemplateReq)
  | buildFloat (tag : Nat) (body : Body BuildFloatReq)
  | floatHanded (tag : Nat) (body : Body TillOpReq)
  | acceptShort (tag : Nat) (body : Body TillOpReq)
  | rebuild (tag : Nat) (body : Body Nat)
  | cancelBuild (tag : Nat) (body : Body Nat)
  | queryBuilds (tag : Nat) (body : Body Unit)
  | reportSales (tag : Nat) (body : Body ReportSalesReq)
  | acceptVariance (tag : Nat) (body : Body AcceptVarianceReq)
  | closeTill (tag : Nat) (body : Body Nat)
  | queryTill (tag : Nat) (body : Body Nat)
  -- Count unit
  | setLine (tag : Nat) (body : Body SetLineReq)
  | resetStation (tag : Nat) (body : Body Nat)
  | stationQuery (tag : Nat) (body : Body Nat)
  | startCount (tag : Nat) (body : Body StartCountReq)
  | declareCoin (tag : Nat) (body : Body DeclareCoinReq)
  | setCoinLimit (tag : Nat) (body : Body Nat)
  | acceptCount (tag : Nat) (body : Body AcceptCountReq)
  | rejectCount (tag : Nat) (body : Body Nat)
  | voidLot (tag : Nat) (body : Body Nat)
  | resumeDisposal (tag : Nat) (body : Body Nat)
  | disposeLotReserve (tag : Nat) (body : Body DisposeLotReserveReq)
  | queryLot (tag : Nat) (body : Body Nat)
  | queryJobs (tag : Nat) (body : Body Unit)
  -- Recycler controller
  | setCassette (tag : Nat) (body : Body SetCassetteReq)
  | insertCassette (tag : Nat) (body : Body InsertCassetteReq)
  | removeCassette (tag : Nat) (body : Body RemoveCassetteReq)
  | setRoute (tag : Nat) (body : Body SetRouteReq)
  | queryRecycler (tag : Nat) (body : Body Unit)
  | setArbiter (tag : Nat) (body : Body SetArbiterReq)
  | openFloatWindow (tag : Nat) (body : Body Nat)
  | closeFloatWindow (tag : Nat) (body : Body Unit)
  | queryArbiter (tag : Nat) (body : Body Unit)
  | setFaultPolicy (tag : Nat) (body : Body SetFaultPolicyReq)
  | clearBucket (tag : Nat) (body : Body SlotOpsReq)
  | setEvacuation (tag : Nat) (body : Body SetEvacuationReq)
  | startEvacuation (tag : Nat) (body : Body SlotOpsReq)
  | queryEvacuation (tag : Nat) (body : Body Unit)
  -- Bay controller
  | openBag (tag : Nat) (body : Body Nat)
  | fillBag (tag : Nat) (body : Body FillBagReq)
  | closeBag (tag : Nat) (body : Body Nat)
  | discardContainer (tag : Nat) (body : Body Nat)
  | createConsignment (tag : Nat) (body : Body CreateConsignmentReq)
  | addItem (tag : Nat) (body : Body AddItemReq)
  | stage (tag : Nat) (body : Body Nat)
  | engage (tag : Nat) (body : Body EngageReq)
  | retrieve (tag : Nat) (body : Body Unit)
  | lockBay (tag : Nat) (body : Body Unit)
  | abort (tag : Nat) (body : Body Nat)
  | setDoorLimit (tag : Nat) (body : Body Nat)
  | queryContainer (tag : Nat) (body : Body Nat)
  | queryConsignment (tag : Nat) (body : Body Nat)
  | queryBay (tag : Nat) (body : Body Unit)
  -- Office control
  | enterHold (tag : Nat) (body : Body Unit)
  | leaveHold (tag : Nat) (body : Body Unit)
  | setRosterEntry (tag : Nat) (body : Body SetRosterReq)
  | openSafe (tag : Nat) (body : Body OpenSafeReq)
  | closeSafe (tag : Nat) (body : Body Unit)
  | setSafeRelock (tag : Nat) (body : Body Nat)
  | setClock (tag : Nat) (body : Body Nat)
  | clearFaultRecord (tag : Nat) (body : Body Unit)
  -- Link unit
  | getStatus (tag : Nat) (body : Body Unit)
  | restart (tag : Nat) (body : Body Unit)
  | unknownRequest (code tag : Nat)
  | linkBusy (code tag : Nat)
  | droppedFrame (reason : DropReason)
  | byteGapTimeout
  | lineBreak
  | frameSent
  -- Power and time
  | powerOn (storeGood : Bool)
  | powerLoss
  | clockTick
  | windowOpen (consignment : Fin 8)
  | windowClose (consignment : Fin 8)
  | floatWindowExpiry
  | heldOpen (door : Door)
  | courierDoorTimeout
  | relockTime
  -- Safe and bay sensors and readers
  | safeSensorOpen
  | safeSensorClosed
  | officeDoorOpened
  | officeDoorClosed
  | courierDoorOpened
  | courierDoorClosed
  | officeSideRead (number : Nat)
  | courierSideRead (number : Nat)
  -- Station line (a STATE record whose mechanism code names no state of Table 4-3 carries `none`)
  | pollCycle
  | attachMark
  | recordSent (signals : List Nat)
  | replyTimeout
  | recordGapTimeout (signals : List Nat)
  | failedRecord (signals : List Nat)
  | stationState (station : Fin 4) (signals : List Nat) (mech : Option MechState) (stack : Nat)
  | reportHead (station : Fin 4) (signals : List Nat) (head : HeadRecord)
  | reportItem (station : Fin 4) (signals : List Nat) (item : ItemRecord)
  | reportEnd (station : Fin 4) (signals : List Nat) (last : EndRecord)
  | reportQuietTimeout
  | reportRecordTimeout
  -- Recycler mechanism
  | noteRead (point : ReadPoint) (reading : Reading)
  | noteArrived (dest : Arrival)
  | misfeed (point : PickPoint)
  | doublePick (point : PickPoint)
  | jam (point : JamPoint)
  | moduleFault (module : Fin 2)
  | moduleFaultCleared (module : Fin 2)
  | headEmpty (h : Fin 2)
  | headLoaded (h : Fin 2)
  | tagCheckDone (module : Fin 2) (tags : Tab 6 (Option Nat))
  | purgeEnded (clear : Bool) (notes : Nat)
  deriving DecidableEq, Repr

end Sys2Proof
end

