-- ==== Sys2Proof/Machine/State.lean ====
section
/-! DEFINITION. The state of the controller, as plain data: every table, record, queue, counter, mode, timer, door and
sensor the spec names, block by block (Table 0-1), and the queue of commands that wait. Each field cites the rule that
names it; what the model adds of its own is said so and logged. -/

namespace Sys2Proof.Machine

/-- Why the machine stops. No command of this block does: every rule of the spec gives its command an effect or a reply. -/
inductive Fault where
  /-- Raised by nothing: kept so that the type is not empty (safe: it never stands for an effect). -/
  | unreachable
  deriving DecidableEq, Repr

/-- Why a command has no meaning in the model. -/
inductive Refusal where
  /-- The command's meaning is not written yet; raised by exec's refused arms only. Safe. -/
  | notModelled (mnemonic : String)
  deriving DecidableEq, Repr

/-! ### Link unit: replies, notices, frames (Section 11) -/

/-- Reply status codes, Table 11-3. -/
inductive Status where
  | ok | accepted | unknownRequest | badField | wrongState | noSlot | queueFull | inHold | holdRequired | inUse
  | dualControl | role | stock | shortfall | over | capacity | denomination | notHeld | countRange | numberInUse
  | window | recountLimit | linkBusy
  deriving DecidableEq, Repr

/-- One field of a reply or notice body: a number in so many bytes, most significant first, two's complement where
negative. A choice, a presence byte and a list count are one-byte numbers (R201). -/
structure Field where
  bytes : Nat
  value : Int
  deriving DecidableEq, Repr

/-- A reply body: its status, the fields that follow, and the lists at which it may be cut where it would exceed 512 bytes
(R205), each as its items and the fields between it and the next, an optional field with its presence byte. -/
structure Reply where
  status : Status
  fields : List Field
  lists : List (List (List Field) × List (List Field))
  deriving DecidableEq, Repr

/-- The request in hand, R203, with the reply formed in the event that took it, how many owed LINK_BUSY replies arrived
before it (R204), and, for FETCH POSTINGS, how many entries leave the posting queue when the reply is sent (R39). -/
structure InHand where
  code : Nat
  tag : Nat
  reply : Reply
  busyAhead : Nat
  fetched : Option Nat
  deriving DecidableEq, Repr

/-- The office mode, R192. -/
inductive Mode where
  | trading | holdPending | hold
  deriving DecidableEq, Repr

/-- Why a build is short, R62. -/
inductive ShortCause where
  | withinTolerance | cut | unservable | restart
  deriving DecidableEq, Repr

/-- Why a count failed, R95, R106, R119. -/
inductive CountFailure where
  | line | mechanism | report | reset | stackLost | restart
  deriving DecidableEq, Repr

/-- Module states, R123. -/
inductive ModState where
  | offline | starting | inService | degraded | safeOpen | faulted
  deriving DecidableEq, Repr

/-- Station states, Table 4-5. -/
inductive StationState where
  | absent | attaching | idle | busy | reporting | stacked | faulted
  deriving DecidableEq, Repr

/-- Consignment states, Table 9-2. -/
inductive ConsState where
  | draft | loading | staged | waiting | engaged | transferring | complete | partly | expired | aborted | interrupted
  deriving DecidableEq, Repr

/-- Causes of READER_REJECT, R183, R186, R188. -/
inductive RejectCause where
  | notExpected | notActive | repeated
  | refused (code : Status)
  deriving DecidableEq, Repr

/-- The doors a DOOR_ALARM names, R182 and Table 10-4. -/
inductive AlarmDoor where
  | office | courier | safe
  deriving DecidableEq, Repr

/-- Causes of DOOR_ALARM, R182. -/
inductive AlarmCause where
  | forced | heldOpen | cleared
  deriving DecidableEq, Repr

/-- Variance bands, R75. -/
inductive Band where
  | balanced | review | exception
  deriving DecidableEq, Repr

/-- What a lot holds, Table 5-1. -/
inductive LotSource where
  | pickup (till : Nat)
  | ret (till : Nat)
  | container (slot : Nat)
  | reserveRecount (denoms : List Nat)
  | purge (module : Nat)
  | stranded (cassette : Nat)
  deriving DecidableEq, Repr

/-- The notices of Table 11-4 with the fields their rules name. Cassettes are numbered 0 to 11 (0.0 to 1.5),
positions as in Table 1-2, stations 1 to 4. -/
inductive NoticeBody where
  | started (restart storeGood : Bool) (mode : Mode) (clock : Nat)
  | pickupDue (till : Nat) (d : Int) (limit : Nat)
  | buildReady (slot till planned tray : Nat)
  | buildCancelled (slot till : Nat)
  | buildShort (slot till : Nat) (cause : ShortCause) (denom : Option Nat) (planned tray shortfall : Nat)
  | countDone (lot : Nat) (source : LotSource) (station : Option Nat) (notes suspects counted suspect : Nat)
      (declared : Option Nat)
  | countFailed (lot : Nat) (station : Option Nat) (cause : CountFailure)
  | lotDone (lot : Nat) (source : LotSource) (disposal : Option Disposal) (counted : Nat)
  | lotInterrupted (lot : Nat) (held : Counts)
  | cassetteFull (cassette : Nat) (denom : Option Nat) (count capacity level : Nat)
  | atThreshold (cassette : Nat) (role : Role) (denom : Option Nat) (bucket threshold count : Nat)
  | evacuationStarted (source spare : Nat) (denom : Option Nat) (atStart : Nat) (forced : Bool)
  | evacuationDone (source spare atStart moved ways : Nat)
  | evacuationStranded (source spare moved remaining : Nat)
  | moduleState (module : Nat) (now left : ModState)
  | stationState (station : Nat) (state : StationState) (mech : Option MechState) (stack : Nat)
  | consignmentState (slot : Nat) (kind : ConsKind) (route : Nat) (now left : ConsState) (items done : Nat)
  | readerReject (reader : Door) (number : Nat) (cause : RejectCause)
  | doorAlarm (door : AlarmDoor) (cause : AlarmCause) (clock : Nat)
  | safeRelocked (clock : Nat) (opened : Bool)
  | holdReached (clock : Nat)
  | postingsWaiting (depth : Nat)
  | varianceException (till session : Nat) (variance : Int) (band : Band)
  | purgeRecovered (bin : Nat) (booked : List (Nat × Counts)) (arrived : Nat) (numbers : List Nat)
  deriving DecidableEq, Repr

/-- A queued notice with the number and the clock it took when it arose, R206 and Table 11-5. -/
structure Notice where
  number : Nat
  clock : Nat
  body : NoticeBody
  deriving DecidableEq, Repr

/-- A frame on its way to the host, R204. -/
inductive Frame where
  | reply (code tag : Nat) (reply : Reply)
  | busy (code tag : Nat)
  | notice (n : Notice)
  deriving DecidableEq, Repr

/-- The receiver of the link unit, R202: hunting for a sync byte, or assembling a frame in the receive buffer. -/
inductive Receiver where
  | hunting
  | assembling (buffer : List Byte)
  deriving DecidableEq, Repr

/-- The link unit, Section 11. Nothing of it is retained. -/
structure Link where
  /-- The receiver and its buffer, R202. -/
  receiver : Receiver
  /-- The request in hand, at most one, R203. -/
  inHand : Option InHand
  /-- The owed LINK_BUSY replies (code, tag), oldest first, at most 8, R203. -/
  owed : List (Nat × Nat)
  /-- The frame being sent, R204. -/
  onLine : Option Frame
  /-- The notice queue, oldest first, at most 32, R206. -/
  notices : List Notice
  /-- The last notice number taken, 0 at a start, R206. -/
  noticeNumber : Nat
  /-- The condition NOTICE_LOST, R206. -/
  noticeLost : Bool
  /-- The OK reply of a RESTART has been sent, and the link stops when no LINK_BUSY reply is owed any more, R210. -/
  stopping : Bool
  /-- The MODEL's own field: the frames wholly sent to the host in the last step that sent any (log entry 6). -/
  lastSent : List Frame
  deriving DecidableEq, Repr

/-! ### Book unit (Sections 1 and 2) -/

/-- A denomination record, Table 1-1. A ROLL keeps the face value computed when it was set. -/
inductive DenomRec where
  | empty
  | note (face : Nat)
  | coin (face : Nat)
  | roll (coin size face : Nat)
  deriving DecidableEq, Repr

/-- A position record, Table 1-4, with the last movement number of R26. The posting state is UNPOSTED exactly when a
mark is set (`PosRec.unposted`), so it has no field of its own. -/
structure PosRec where
  inUse : Bool
  counts : Counts
  marks : Marks
  mode : PostingMode
  overdue : Bool
  inRun : Bool
  releasePending : Bool
  lastMove : Nat
  deriving DecidableEq, Repr

/-- Reasons of an EXTERNAL side, R7. -/
inductive Reason where
  | opening | adjustment | deliveryVariance
  deriving DecidableEq, Repr

/-- A side of a movement, R7: a custody position or a boundary counterpart. -/
inductive Side where
  | pos (position : Nat)
  | floor (till : Nat)
  | carrier (consignment : Nat)
  | external (reason : Reason)
  deriving DecidableEq, Repr

/-- Movement kinds, Table 2-2. -/
inductive MoveKind where
  | issue | intake | suspectAside | deposit | escrowReturn | dispense | trayReturn | evacuate | purge | fill
  | disposeReserve | handoverOut | deliveryIn | openForCount | deliveryVariance | strandedRecovery | adjust | opening
  deriving DecidableEq, Repr

/-- Settle reasons, Table 2-4. -/
inductive SettleReason where
  | post | modeChange | release | catchUp
  deriving DecidableEq, Repr

/-- The contents of a posting entry after its sequence number and clock, Table 2-5. `pairs` of a MOVE carry the
denomination, the count moved and the position's count after the movement. -/
inductive EntryBody where
  | move (position number : Nat) (kind : MoveKind) (src dst : Side) (ops : List Nat) (pairs : List (Pair × Nat))
  | settleOne (position : Nat) (reason : SettleReason) (last denom count : Nat)
  | settleFull (position : Nat) (reason : SettleReason) (last : Nat) (counts : Counts)
  | tillSummary (till session floatValue : Nat) (sales : Int) (pickups : Nat) (returned : Nat) (variance : Int)
      (band : Band)
  deriving DecidableEq, Repr

/-- A posting entry, R37, R38. -/
structure Entry where
  seq : Nat
  clock : Nat
  body : EntryBody
  deriving DecidableEq, Repr

/-- A reservation entry, R17. -/
structure ResEntry where
  slot : Nat
  till : Nat
  counts : Counts
  cut : Marks
  deriving DecidableEq, Repr

/-- The book unit. All of it is retained but `armed` (R41). -/
structure Book where
  /-- The denomination table, R2. -/
  denoms : Tab 12 DenomRec
  /-- The 177 position records, R5, R8. -/
  positions : Tab 177 PosRec
  /-- The custody totals, R14. -/
  totals : Counts
  /-- The reservation entries, oldest first, at most 4, R17. -/
  reservations : List ResEntry
  /-- The movement counter, R26. -/
  moveCounter : Nat
  /-- The posting queue, oldest first, at most 128, R37. -/
  queue : List Entry
  /-- The posting sequence number last given, R37. -/
  lastSeq : Nat
  /-- The waiting notice is armed, R41. Not retained. -/
  armed : Bool
  /-- The opening condition, R25. -/
  opening : Bool
  deriving DecidableEq, Repr

/-! ### Till desk (Section 3) -/

/-- Till states, Table 3-2. -/
inductive TillState where
  | closed | building | trading | pickup | returning | reconciled | exception | closing
  deriving DecidableEq, Repr

/-- A till record, Table 3-1. -/
structure TillRec where
  state : TillState
  cls : Nat
  session : Nat
  issued : Counts
  floatValue : Nat
  sales : Int
  pickups : Nat
  returned : Option Nat
  variance : Option Int
  band : Option Band
  accepted : Bool
  advised : Bool
  closingPending : Bool
  openLot : Option Nat
  deriving DecidableEq, Repr

/-- The fields of a DEFINED float template, R48. -/
structure Template where
  target : Nat
  short : Nat
  pickupLimit : Nat
  tolOk : Nat
  tolReview : Nat
  entries : List TemplateEntry
  deriving DecidableEq, Repr

/-- Build states, R50. -/
inductive BuildState where
  | planned | dispensing | short | awaitingHandover | cancelling
  deriving DecidableEq, Repr

/-- A build, R50. `shortDue` is what R60 and R61 leave waiting: the cause and denomination with which a DISPENSING build
becomes SHORT when the run in progress has ended. -/
structure Build where
  state : BuildState
  till : Nat
  age : Nat
  target : Nat
  short : Nat
  entries : List TemplateEntry
  plan : Counts
  dispensed : Counts
  remaining : Counts
  planned : Nat
  current : Option Nat
  cut : Marks
  shortCause : Option ShortCause
  shortDenom : Option Nat
  shortDue : Option (ShortCause × Nat)
  deriving DecidableEq, Repr

/-- The till desk. All of it is retained but the tray owner, which each start recomputes (R68). -/
structure Desk where
  tills : Tab 256 TillRec
  templates : Tab 8 (Option Template)
  builds : Tab 4 (Option Build)
  /-- The build slot that owns the dispense tray, R51. -/
  trayOwner : Option Nat
  deriving DecidableEq, Repr

/-! ### Count unit (Sections 4 and 5) -/

/-- Line settings, Table 4-1. -/
structure LineSettings where
  bitRate : Nat
  repeatLimit : Nat
  pollInterval : Nat
  deriving DecidableEq, Repr

/-- The records a pending command sends, Table 4-3. -/
inductive StationCommand where
  | beginCount (job : Nat)
  | fetchReport (job : Nat)
  | releaseIntake
  | releaseHand
  | returnStack
  | reset (keepStack : Bool)
  deriving DecidableEq, Repr

/-- The stack commands of R94. -/
inductive StackCommand where
  | releaseIntake | releaseHand | returnStack
  deriving DecidableEq, Repr

/-- A station record, Table 4-4. The type is fixed by the number (1 and 2 FEEDER, 3 and 4 BENCH). `mech` is `none` for
UNKNOWN. `lastStack` is the stack command last given for the stack the station holds, which R94 and R106 refer to. -/
structure StationRec where
  state : StationState
  mech : Option MechState
  stack : Nat
  misses : Nat
  pending : Option StationCommand
  job : Option (Nat × Nat)
  attempts : Nat
  stackLot : Option Nat
  repeated : Nat
  failed : Nat
  lastStack : Option StackCommand
  deriving DecidableEq, Repr

/-- Lot states, Table 5-2; a FREE lot is `none` in the table of lots. -/
inductive LotState where
  | waiting | counting | counted | disposing | disposed | void | disposeInterrupted
  deriving DecidableEq, Repr

/-- A lot record, Table 5-1. -/
structure LotRec where
  state : LotState
  creation : Nat
  source : LotSource
  station : Option StationSel
  counting : Option Nat
  band0 : Counts
  band1 : Counts
  band2 : Counts
  band3 : Counts
  suspects : Counts
  coin : Counts
  declared : Option Nat
  countedValue : Nat
  suspectValue : Nat
  recounts : Nat
  disposal : Option Disposal
  operator : Option Nat
  deriving DecidableEq, Repr

/-- The count unit. Of the stations only the stack lots are retained (R84). -/
structure CountUnit where
  settings : LineSettings
  stations : Tab 4 StationRec
  /-- The line job counter, R84. Not retained. -/
  jobCounter : Nat
  lots : Tab 64 (Option LotRec)
  /-- The lot counter, R99. -/
  lotCounter : Nat
  /-- The job queue: the lots of the jobs, in queue order, at most 16, R103. -/
  jobs : List Nat
  /-- The coin declaration limit, R108. -/
  coinLimit : Nat
  deriving DecidableEq, Repr

/-- The record sent to a station on its turn, R86. -/
inductive LineRecord where
  | attach | poll
  | command (c : StationCommand)
  deriving DecidableEq, Repr

/-- How far a turn has come, R86, R87, R92, R93. -/
inductive Phase where
  | sending
  | awaiting
  | report (head : HeadRecord) (items : List ItemRecord)
  | quiet
  deriving DecidableEq, Repr

/-- The turn a station has: its number, the record sent, and the repeat limit in force when the controller began to send
that record (R79). -/
structure Turn where
  station : Nat
  record : LineRecord
  limit : Nat
  phase : Phase
  deriving DecidableEq, Repr

/-- The line engine, R85: the present turn, the stations whose turn of this cycle is still to come, a cycle that fell due
while the last one went on, and an attach mark not yet served. Not retained. -/
structure Line where
  turn : Option Turn
  waiting : List Nat
  cycleDue : Bool
  attachDue : Bool
  deriving DecidableEq, Repr

/-! ### Recycler controller (Sections 6, 7 and 8) -/

/-- Start steps of a STARTING module, R123. -/
inductive StartStep where
  | tags | purgeWait | purging
  deriving DecidableEq, Repr

/-- A module record, R123. The start step is read in STARTING only. -/
structure ModRec where
  state : ModState
  step : StartStep
  fault : Bool
  deriving DecidableEq, Repr

/-- What INSERT CASSETTE announced for a slot, Table 6-3. -/
structure Announcement where
  tag : Nat
  role : Role
  denom : Option Nat
  capacity : Nat
  deriving DecidableEq, Repr

/-- The sensed tag, Table 6-3: absent, NONE, or a tag. -/
inductive Sensed where
  | absent | none
  | tag (t : Nat)
  deriving DecidableEq, Repr

/-- A cassette record, Table 6-3. -/
structure CasRec where
  present : Bool
  tag : Option Nat
  sensed : Sensed
  role : Role
  denom : Option Nat
  capacity : Nat
  bucket : Nat
  good : Nat
  atThreshold : Bool
  evacSource : Bool
  evacSpare : Bool
  stranded : Bool
  mismatch : Bool
  announced : Option Announcement
  deriving DecidableEq, Repr

/-- A routing range, R133. Ways are cassettes 0 to 11. -/
structure Range where
  limit : Nat
  ways : List Nat
  next : Nat
  deriving DecidableEq, Repr

/-- Run record states, Table 6-4. -/
inductive RunState where
  | idle | running | purging | unclosed
  deriving DecidableEq, Repr

/-- Run kinds, Table 6-4. -/
inductive RunKind where
  | deposit | dispense | trayReturn | evacuate
  deriving DecidableEq, Repr

/-- The requester of a run, Table 6-4: an intake head (0 or 1), a build slot, or the evacuation. -/
inductive Requester where
  | head (h : Nat)
  | slot (s : Nat)
  | evacuation
  deriving DecidableEq, Repr

/-- End causes, Table 6-5. -/
inductive EndCause where
  | limit | done | cut | sourceEmpty | noSource | pickFailed | jam | fault | door
  deriving DecidableEq, Repr

/-- Where a note in path is bound. -/
inductive PathDest where
  | pos (position : Nat)
  | escrow
  deriving DecidableEq, Repr

/-- A note picked and not yet arrived, R137, R138: its source position, denomination and destination. The list of them,
in pick order, holds the record's per-source in path counts. -/
structure PathNote where
  src : Nat
  denom : Nat
  dest : PathDest
  deriving DecidableEq, Repr

/-- An entry of the pair list, Table 6-4. -/
structure PairEntry where
  src : Nat
  dst : Nat
  counts : Counts
  deriving DecidableEq, Repr

/-- The run record, Table 6-4, in the retained store. `lot` is the lot a DEPOSIT run is made for; `pick` is the cassette a
DISPENSE run picks from (R136); `interrupted` marks a run cut off by power loss, whose requester does not learn of its
end (R144). -/
structure Run where
  state : RunState
  kind : RunKind
  requester : Requester
  lot : Option Nat
  denom : Option Nat
  limit : Nat
  moved : Nat
  pairs : List PairEntry
  path : List PathNote
  escrowed : Counts
  foreign : Nat
  left : List Nat
  failed : Nat
  pick : Option Nat
  bin : Option Nat
  cause : Option EndCause
  interrupted : Bool
  deriving DecidableEq, Repr

/-- A purge cycle in progress, R143: its bin, and whether it is that module's start-up cycle. -/
structure PurgeCycle where
  bin : Nat
  startUp : Bool
  deriving DecidableEq, Repr

/-- The recycler controller's own tables. The module records, head states and purge cycle are not retained. -/
structure Recycler where
  modules : Tab 2 ModRec
  cassettes : Tab 12 CasRec
  /-- The routing table: the ranges of each denomination, R133. -/
  routes : Tab 12 (List Range)
  run : Run
  /-- The head states: LOADED or not, R122. -/
  heads : Tab 2 Bool
  purge : Option PurgeCycle
  /-- The first tag check of the module after store loss is still to come, R128. -/
  freshTags : Tab 2 Bool
  deriving DecidableEq, Repr

/-- Arbiter settings, Table 7-2. -/
structure ArbSettings where
  runLength : Nat
  ratio : Nat
  decr : Nat
  limit : Nat
  clip : Nat
  patience : Nat
  preemption : Preemption
  deriving DecidableEq, Repr

/-- The dispense entry of the request table, Table 7-1. -/
structure DispenseReq where
  slot : Nat
  denom : Nat
  remaining : Nat
  deriving DecidableEq, Repr

/-- The deposit-class entries, R151. -/
inductive DepositEntry where
  | head (h : Nat)
  | trayReturn
  deriving DecidableEq, Repr

/-- The arbiter. Only the settings are retained. -/
structure Arbiter where
  settings : ArbSettings
  /-- The lots each intake head's entry names, oldest first; empty when the entry is not given, R146. -/
  heads : Tab 2 (List Nat)
  /-- The tray return entry, R146. -/
  trayReturn : Option Nat
  /-- The dispense entry, and its withdrawal while in service, R146. -/
  dispense : Option DispenseReq
  dispenseWithdrawn : Bool
  /-- The evacuate entry, and its withdrawal while in service, R146. -/
  evacuate : Bool
  evacuateWithdrawn : Bool
  /-- The deposit waiting order, R151. -/
  order : List DepositEntry
  /-- The deposit account A, R148. -/
  account : Nat
  /-- The skip count, R153. -/
  skips : Nat
  /-- The float window: its remaining seconds while OPEN, R154. -/
  window : Option Nat
  deriving DecidableEq, Repr

/-- Evacuation record states, Table 8-2. -/
inductive EvacState where
  | idle | active | paused | stranded
  deriving DecidableEq, Repr

/-- Pause causes, Table 8-2. -/
inductive PauseCause where
  | disabled | hold | module | spareFault | restart
  deriving DecidableEq, Repr

/-- The outcome of the last evacuation to end, Table 8-2. -/
inductive EvacResult where
  | done | stranded
  deriving DecidableEq, Repr

/-- The evacuation record, the enables and the fault policy, R160, R162. All retained. -/
structure Evacuation where
  state : EvacState
  source : Option Nat
  spare : Option Nat
  forced : Bool
  atStart : Nat
  moved : Nat
  failures : Nat
  pause : Option PauseCause
  /-- The MODEL's own field: the causes of Table 8-3 that stood when a PAUSED record was last examined, against which a cause
  that arises is told from one that stands (R166, R169, log entry 25). -/
  standing : List PauseCause
  last : Option EvacResult
  /-- The cassette last retired in each module, with its tag. -/
  retired : Tab 2 (Option (Nat × Option Nat))
  enables : Tab 2 Bool
  threshold : Nat
  leakNotes : Nat
  deriving DecidableEq, Repr

/-! ### Bay controller (Section 9) -/

/-- Container states, Table 9-1; a FREE record is `none` in the table of containers. -/
inductive ContState where
  | opened | closed | assigned | placed | received | releasing
  deriving DecidableEq, Repr

/-- Container types, R171. -/
inductive ContType where
  | bag | cassette
  deriving DecidableEq, Repr

/-- The side of the office-side door a container is on, R171. -/
inductive Location where
  | office | bay
  deriving DecidableEq, Repr

/-- A container record, R171. -/
structure ContRec where
  state : ContState
  number : Nat
  type : ContType
  location : Location
  consignment : Option Nat
  declared : Option Counts
  countLot : Option Nat
  deriving DecidableEq, Repr

/-- An item of a consignment, Table 9-2: a container slot once there is one, its number, the declared value and counts of
a delivery item, and whether it is done. -/
structure Item where
  container : Option Nat
  number : Nat
  value : Nat
  counts : List Pair
  done : Bool
  deriving DecidableEq, Repr

/-- A consignment record, Table 9-2. `engagedOnce` is set by a delivery's first accepted ENGAGE, from which it holds the
bay (R177). -/
structure ConsRec where
  kind : ConsKind
  state : ConsState
  route : Nat
  windowOpen : Nat
  windowClose : Nat
  items : List Item
  ops : Option (Nat × Nat)
  returnState : Option ConsState
  engagedOnce : Bool
  deriving DecidableEq, Repr

/-- The bay controller's registers. -/
structure Bay where
  containers : Tab 96 (Option ContRec)
  consignments : Tab 8 (Option ConsRec)
  /-- The door-open limit in seconds, R182. -/
  doorLimit : Nat
  deriving DecidableEq, Repr

/-- One bay door, R181, R182: its lock, its sensor as last reported, its lock due mark, its standing alarms, and the
seconds its sensor has read OPEN while that time is counted. -/
structure DoorRec where
  locked : Bool
  sensorOpen : Bool
  lockDue : Bool
  forced : Bool
  heldOpen : Bool
  openTime : Option Nat
  deriving DecidableEq, Repr

/-- The bay doors, the retrieval (R188), an office unlock the controller owes on its own account (R181, R189) and the
seconds left to an ENGAGED consignment's courier door (R185). Not retained. -/
structure Doors where
  office : DoorRec
  courier : DoorRec
  retrieval : Bool
  unlockOwed : Bool
  courierTimer : Option Nat
  deriving DecidableEq, Repr

/-! ### Office control (Section 10) -/

/-- A roster entry, R195. -/
structure RosterEntry where
  number : Nat
  roles : Roles
  active : Bool
  deriving DecidableEq, Repr

/-- Safe door states, Table 10-3. -/
inductive SafeState where
  | locked | pending | unlocked | opened | closed
  deriving DecidableEq, Repr

/-- The safe door, R197, R198: its state, sensor, lock due mark and forced mark, whether it was opened since the unlock
(carried by SAFE_RELOCKED), and the seconds left to the relock while the timer runs. Not retained. -/
structure Safe where
  state : SafeState
  sensorOpen : Bool
  lockDue : Bool
  forced : Bool
  wasOpened : Bool
  timer : Option Nat
  deriving DecidableEq, Repr

/-- Sources of the first fault record, R200. -/
inductive FaultSource where
  | cassette (c : Nat)
  | module (m : Nat)
  | common
  | head (h : Nat)
  | tray
  | station (n : Nat)
  | officeDoor
  | courierDoor
  | safeDoor
  deriving DecidableEq, Repr

/-- Kinds of the first fault record, R200. -/
inductive FaultKind where
  | misfeed | jam | module | purge | line | mechanism | forced | heldOpen
  deriving DecidableEq, Repr

/-- The first fault record while HELD, R200. -/
structure FaultRec where
  source : FaultSource
  kind : FaultKind
  clock : Nat
  run : Option RunKind
  later : Bool
  deriving DecidableEq, Repr

/-- Office control. All of it is retained but the safe door. -/
structure Office where
  mode : Mode
  roster : Tab 32 (Option RosterEntry)
  safe : Safe
  /-- The safe relock time, R198. -/
  relockTime : Nat
  clock : Nat
  firstFault : Option FaultRec
  deriving DecidableEq, Repr

/-! ### The whole machine -/

/-- The controller and the commands that wait for it, first in, first out. -/
structure State where
  pending : List Instr
  /-- Power is present, R208, R209. -/
  powered : Bool
  book : Book
  desk : Desk
  count : CountUnit
  line : Line
  recycler : Recycler
  arbiter : Arbiter
  evac : Evacuation
  bay : Bay
  doors : Doors
  office : Office
  link : Link
  deriving DecidableEq, Repr

/-! ### What store loss and a start leave -/

/-- A fixed position after store loss, R8, R24. -/
def PosRec.fixed : PosRec := ⟨true, Counts.zero, Marks.clear, .through, false, false, false, 0⟩

/-- A FREE slot after store loss, R8, R11. -/
def PosRec.free : PosRec := { PosRec.fixed with inUse := false }

/-- A till record after store loss, R45. -/
def TillRec.initial : TillRec :=
  ⟨.closed, 0, 0, Counts.zero, 0, 0, 0, none, none, none, false, false, false, none⟩

/-- A station record at a start, R84. -/
def StationRec.initial : StationRec := ⟨.absent, none, 0, 0, none, none, 0, none, 0, 0, none⟩

/-- A vacant cassette slot, R125, with no announcement and no sensed tag. -/
def CasRec.vacant : CasRec :=
  ⟨false, none, .absent, .unassigned, none, Config.defaultCapacity, 0, 0, false, false, false, false, false, none⟩

/-- The run record when IDLE, R137. -/
def Run.idle : Run :=
  ⟨.idle, .deposit, .head 0, none, none, 0, 0, [], [], Counts.zero, 0, [], 0, none, none, none, false⟩

/-- A bay door at a start with its sensor reading CLOSED, R181, R182. -/
def DoorRec.initial : DoorRec := ⟨true, false, false, false, false, none⟩

/-- The safe door at a start with its sensor reading CLOSED, R198. -/
def Safe.initial : Safe := ⟨.locked, false, false, false, false, none⟩

/-- The book after store loss, R24, Table 2-8. -/
def Book.initial : Book where
  denoms := Tab.fill 12 .empty
  positions := Tab.ofFn 177 fun p => if 14 ≤ p ∧ p ≤ 173 then PosRec.free else PosRec.fixed
  totals := Counts.zero
  reservations := []
  moveCounter := 0
  queue := []
  lastSeq := 0
  armed := true
  opening := true

/-- The till desk after store loss, R45, R48, R50. -/
def Desk.initial : Desk where
  tills := Tab.fill 256 TillRec.initial
  templates := Tab.fill 8 none
  builds := Tab.fill 4 none
  trayOwner := none

/-- The count unit after store loss, R79, R84, R99, R108. -/
def CountUnit.initial : CountUnit where
  settings := ⟨Config.defaultBitRate, Config.defaultRepeatLimit, Config.defaultPollInterval⟩
  stations := Tab.fill 4 StationRec.initial
  jobCounter := 0
  lots := Tab.fill 64 none
  lotCounter := 0
  jobs := []
  coinLimit := Config.defaultCoinLimit

/-- The line engine when the line starts: the first attach mark falls then, R85. -/
def Line.initial : Line := ⟨none, [], false, true⟩

/-- The recycler after store loss and its start-up, R123 to R125, R133, R137: both modules STARTING at TAGS. -/
def Recycler.initial : Recycler where
  modules := Tab.fill 2 ⟨.starting, .tags, false⟩
  cassettes := Tab.fill 12 CasRec.vacant
  routes := Tab.fill 12 []
  run := Run.idle
  heads := Tab.fill 2 false
  purge := none
  freshTags := Tab.fill 2 true

/-- The arbiter's settings after store loss, Table 7-2. -/
def ArbSettings.initial : ArbSettings :=
  ⟨Config.defaultRunLength, Config.defaultRatio, Config.defaultDecr, Config.defaultLimit, Config.defaultClip,
    Config.defaultPatience, .inWindow⟩

/-- The arbiter at a start with the settings `a`, R146, R148, R153, R154. -/
def Arbiter.start (a : ArbSettings) : Arbiter :=
  ⟨a, Tab.fill 2 [], none, none, false, false, false, [], 0, 0, none⟩

/-- The evacuation record, enables and fault policy after store loss, R160, R162. -/
def Evacuation.initial : Evacuation :=
  ⟨.idle, none, none, false, 0, 0, 0, none, [], none, Tab.fill 2 none, Tab.fill 2 false, Config.defaultThreshold,
    Config.defaultLeakNotes⟩

/-- The bay after store loss, R171, R177, R182. -/
def Bay.initial : Bay := ⟨Tab.fill 96 none, Tab.fill 8 none, Config.defaultDoorLimit⟩

/-- The bay doors at a start with both sensors reading CLOSED, R181, R190. -/
def Doors.initial : Doors := ⟨DoorRec.initial, DoorRec.initial, false, false, none⟩

/-- Office control after store loss, R194, R195, R198 to R200. -/
def Office.initial : Office := ⟨.hold, Tab.fill 32 none, Safe.initial, Config.defaultRelock, 0, none⟩

/-- The link unit right after a link start, before the notices of the start, R206, R209. -/
def Link.initial : Link := ⟨.hunting, none, [], none, [], 0, false, false, []⟩

/-- The notices of the first start of a controller whose store was never written, in the order of R209. -/
def resetNotices : List Notice :=
  [⟨1, 0, .started false false .hold 0⟩, ⟨2, 0, .holdReached 0⟩, ⟨3, 0, .moduleState 0 .starting .offline⟩,
    ⟨4, 0, .moduleState 1 .starting .offline⟩]

/-- The machine right after reset: the power-on start of a controller whose retained store has never been written, which
fails the store check and takes its store-loss state (R24, R209), with every door sensor reading CLOSED (DESIGN CHOICE,
log entry 1). The link has started: its notices are queued and the first is being sent. No command waits. -/
def State.reset : State where
  pending := []
  powered := true
  book := Book.initial
  desk := Desk.initial
  count := CountUnit.initial
  line := Line.initial
  recycler := Recycler.initial
  arbiter := Arbiter.start ArbSettings.initial
  evac := Evacuation.initial
  bay := Bay.initial
  doors := Doors.initial
  office := Office.initial
  link := { Link.initial with
    notices := resetNotices
    noticeNumber := 4
    onLine := some (.notice ⟨1, 0, .started false false .hold 0⟩) }

end Sys2Proof.Machine
end

