-- ==== Sys2Proof/Machine/Ops.lean ====
section
/-! DEFINITION. The named operations everything else is written with: reading and replacing one record of each table,
queuing a notice (R206), the transmitter (R204), and the gate every host request passes (R203). -/

namespace Sys2Proof.Machine

/-! ### One record of each table -/

/-- The denomination record of index `d`; EMPTY above 11. -/
def State.denom (s : State) (d : Nat) : DenomRec := s.book.denoms.get .empty d

/-- The position record of position `p`. -/
def State.posRec (s : State) (p : Nat) : PosRec := s.book.positions.get PosRec.fixed p

def State.setPosRec (s : State) (p : Nat) (r : PosRec) : State :=
  { s with book := { s.book with positions := s.book.positions.set p r } }

/-- The book count of denomination `d` in position `p`. -/
def State.held (s : State) (p d : Nat) : Nat := Counts.of (s.posRec p).counts d

def State.till (s : State) (t : Nat) : TillRec := s.desk.tills.get TillRec.initial t

def State.setTill (s : State) (t : Nat) (r : TillRec) : State :=
  { s with desk := { s.desk with tills := s.desk.tills.set t r } }

def State.template (s : State) (c : Nat) : Option Template := s.desk.templates.get none c

def State.build (s : State) (k : Nat) : Option Build := s.desk.builds.get none k

def State.setBuild (s : State) (k : Nat) (b : Option Build) : State :=
  { s with desk := { s.desk with builds := s.desk.builds.set k b } }

def State.setTrayOwner (s : State) (o : Option Nat) : State :=
  { s with desk := { s.desk with trayOwner := o } }

def State.lot (s : State) (n : Nat) : Option LotRec := s.count.lots.get none n

def State.setLot (s : State) (n : Nat) (l : Option LotRec) : State :=
  { s with count := { s.count with lots := s.count.lots.set n l } }

/-- The station record of station `n`, 1 to 4. -/
def State.station (s : State) (n : Nat) : StationRec := s.count.stations.get StationRec.initial (n - 1)

def State.setStation (s : State) (n : Nat) (r : StationRec) : State :=
  { s with count := { s.count with stations := s.count.stations.set (n - 1) r } }

def State.setJobs (s : State) (j : List Nat) : State := { s with count := { s.count with jobs := j } }

def State.module (s : State) (m : Nat) : ModRec := s.recycler.modules.get ⟨.offline, .tags, false⟩ m

def State.setModRec (s : State) (m : Nat) (r : ModRec) : State :=
  { s with recycler := { s.recycler with modules := s.recycler.modules.set m r } }

def State.cassette (s : State) (c : Nat) : CasRec := s.recycler.cassettes.get CasRec.vacant c

def State.setCassette (s : State) (c : Nat) (r : CasRec) : State :=
  { s with recycler := { s.recycler with cassettes := s.recycler.cassettes.set c r } }

/-- The routing ranges of denomination `d`. -/
def State.ranges (s : State) (d : Nat) : List Range := s.recycler.routes.get [] d

def State.setRanges (s : State) (d : Nat) (r : List Range) : State :=
  { s with recycler := { s.recycler with routes := s.recycler.routes.set d r } }

def State.setRun (s : State) (r : Run) : State := { s with recycler := { s.recycler with run := r } }

def State.headLoaded (s : State) (h : Nat) : Bool := s.recycler.heads.get false h

def State.setPurge (s : State) (p : Option PurgeCycle) : State :=
  { s with recycler := { s.recycler with purge := p } }

def State.container (s : State) (n : Nat) : Option ContRec := s.bay.containers.get none n

def State.setContainer (s : State) (n : Nat) (r : Option ContRec) : State :=
  { s with bay := { s.bay with containers := s.bay.containers.set n r } }

def State.consignment (s : State) (k : Nat) : Option ConsRec := s.bay.consignments.get none k

def State.setConsignment (s : State) (k : Nat) (r : Option ConsRec) : State :=
  { s with bay := { s.bay with consignments := s.bay.consignments.set k r } }

def State.clock (s : State) : Nat := s.office.clock

def State.setSafe (s : State) (d : Safe) : State := { s with office := { s.office with safe := d } }

def State.setMode (s : State) (m : Mode) : State := { s with office := { s.office with mode := m } }

/-- A fold of a state over a list of numbers: one operation done for each in turn. -/
def State.each (f : Nat → State → State) : List Nat → State → State
  | [], s => s
  | n :: ns, s => State.each f ns (f n s)

/-! ### Fields of replies and notices, R201 -/

def u1 (n : Nat) : Field := ⟨1, n⟩
def u2 (n : Nat) : Field := ⟨2, n⟩
def u3 (n : Nat) : Field := ⟨3, n⟩
def u4 (n : Nat) : Field := ⟨4, n⟩
def u5 (n : Nat) : Field := ⟨5, n⟩
def u6 (n : Nat) : Field := ⟨6, n⟩
/-- A signed value of the range of R1: 6 bytes. -/
def i6 (v : Int) : Field := ⟨6, v⟩
/-- A mark or condition that is "set or clear": a choice, numbered in that order. -/
def flag (b : Bool) : Field := u1 (if b then 1 else 2)
/-- An optional field: a presence byte, then the field where it is present. -/
def opt {α : Type} (o : Option α) (f : α → List Field) : List Field :=
  match o with
  | some a => u1 1 :: f a
  | none => [u1 0]
/-- The twelve counts of a position. -/
def countFields (c : Counts) : List Field := c.list.map u2
/-- A list: a one-byte count, then the items. -/
def listField {α : Type} (l : List α) (f : α → List Field) : List Field :=
  u1 l.length :: (l.map f).flatten

/-! ### Replies -/

/-- A reply that carries the fields its rule names. -/
def Reply.plain (st : Status) (fields : List Field) : Reply := ⟨st, fields, []⟩
def okReply (fields : List Field) : Reply := Reply.plain .ok fields
def acceptedReply (fields : List Field) : Reply := Reply.plain .accepted fields
/-- A refusal that names nothing, R205. -/
def refusal (st : Status) : Reply := Reply.plain st []
/-- A refusal that names a denomination, R205. -/
def refusalOf (st : Status) (d : Option Nat) : Reply :=
  Reply.plain st (match d with | some x => [u1 x] | none => [])
/-- An OK reply whose data ends in a list of items. -/
def okList (fields : List Field) (items : List (List Field)) : Reply := ⟨.ok, fields, [(items, [])]⟩
/-- An OK reply whose last list is followed by a further field. -/
def okListThen (fields : List Field) (items : List (List Field)) (after : List Field) : Reply :=
  ⟨.ok, fields, [(items, [after])]⟩

/-! ### Notices -/

/-- A notice arises, R206: it takes the next number; it joins the queue where there is room and is lost otherwise. -/
def notify (b : NoticeBody) (s : State) : State :=
  let n := nextNumber Config.maxNoticeNumber s.link.noticeNumber
  if s.link.notices.length < Config.noticeCap then
    { s with link := { s.link with notices := s.link.notices ++ [⟨n, s.clock, b⟩], noticeNumber := n } }
  else
    { s with link := { s.link with noticeNumber := n, noticeLost := true } }

/-- Each of the notices arises in turn. -/
def notifyAll : List NoticeBody → State → State
  | [], s => s
  | b :: bs, s => notifyAll bs (notify b s)

/-! ### The transmitter -/

/-- The frame a free transmitter sends next, R204. -/
def nextFrame (l : Link) : Option Frame :=
  match l.inHand with
  | some h =>
    match h.busyAhead, l.owed with
    | _ + 1, (c, t) :: _ => some (.busy c t)
    | _, _ => some (.reply h.code h.tag h.reply)
  | none =>
    match l.owed with
    | (c, t) :: _ => some (.busy c t)
    | [] => l.notices.head?.map Frame.notice

/-- A free transmitter begins the next frame; a busy one goes on, R204. -/
def transmit (s : State) : State :=
  match s.link.onLine with
  | some _ => s
  | none => { s with link := { s.link with onLine := nextFrame s.link } }

/-! ### The gate of a request, R203 -/

/-- The receiver has assembled a frame whole and hunts for the next, R202. -/
def heard (s : State) : State := { s with link := { s.link with receiver := .hunting } }

/-- A request received while another is in hand: an owed LINK_BUSY reply, up to 8, R203. -/
def owe (code tag : Nat) (s : State) : State :=
  if s.link.owed.length < Config.owedCap then
    transmit { s with link := { s.link with owed := s.link.owed ++ [(code, tag)] } }
  else s

/-- The request is in hand with the reply formed for it. -/
def respond (code tag : Nat) (r : Reply) (s : State) : State :=
  transmit { s with link := { s.link with inHand := some ⟨code, tag, r, s.link.owed.length, none⟩ } }

/-- A received request, R203: owed LINK_BUSY while another is in hand, BAD_FIELD for a body that does not decode, and
otherwise its owning block's outcome as the reply in the same event. Without power nothing is received (R209), and a
request received after the OK reply of a RESTART is dropped (R210). -/
def request {α : Type} (code tag : Nat) (body : Body α) (f : α → State → Reply × State) (s : State) : State :=
  match s.powered with
  | false => s
  | true =>
    match s.link.inHand with
    | some _ => owe code tag (heard s)
    | none =>
      match s.link.stopping, body with
      | true, _ => heard s
      | false, .bad => respond code tag (refusal .badField) (heard s)
      | false, .good a => respond code tag (f a (heard s)).1 (f a (heard s)).2

/-- An event that is not a request: taken while power is present, after which a free transmitter chooses its frame. -/
def event (f : State → State) (s : State) : State :=
  match s.powered with
  | false => s
  | true => transmit (f s)

end Sys2Proof.Machine
end

