-- ==== Sys2Proof/Machine/Operands.lean ====
section
/-! DEFINITION. The operands of the commands: ranges, position numbers, cassette slots, pair lists, and the operator checks
of Section 10. -/

namespace Sys2Proof.Machine

/-! ### Positions, Table 1-2 -/

def reservePos : Nat := 0
/-- Cassette `c` (0 to 11) has position number 1 + c. -/
def cassettePos (c : Nat) : Nat := 1 + c
def trayPos : Nat := 13
def lotPos (n : Nat) : Nat := 14 + n
def containerPos (n : Nat) : Nat := 78 + n
def suspectPos : Nat := 174
def purgePos (m : Nat) : Nat := 175 + m

/-- The kinds of custody position, Table 1-2. -/
inductive PosKind where
  | reserve
  | cassette (c : Nat)
  | tray
  | lot (n : Nat)
  | container (n : Nat)
  | suspect
  | purge (m : Nat)
  deriving DecidableEq, Repr

/-- The kind of position `p`, Table 1-2. -/
def posKind (p : Nat) : PosKind :=
  if p = 0 then .reserve
  else if p ≤ 12 then .cassette (p - 1)
  else if p = 13 then .tray
  else if p ≤ 77 then .lot (p - 14)
  else if p ≤ 173 then .container (p - 78)
  else if p = 174 then .suspect
  else .purge (p - 175)

/-- The position a PosKind stands for. -/
def posNumber : PosKind → Nat
  | .reserve => reservePos
  | .cassette c => cassettePos c
  | .tray => trayPos
  | .lot n => lotPos n
  | .container n => containerPos n
  | .suspect => suspectPos
  | .purge m => purgePos m

/-- Table 1-3: notes only, or every kind of item. -/
def notesOnly : PosKind → Bool
  | .cassette _ | .tray | .suspect | .purge _ => true
  | .reserve | .lot _ | .container _ => false

/-! ### Cassette slots, R5 -/

/-- The number 6m + s of slot m.s, or none for an unknown slot. -/
def slotIndex (a : SlotAddr) : Option Nat :=
  if a.module < 2 ∧ a.slot < 6 then some (6 * a.module + a.slot) else none

/-- The module of cassette `c`. -/
def moduleOf (c : Nat) : Nat := c / 6

/-- The cassettes of module `m`, in ascending slot order. -/
def moduleCassettes (m : Nat) : List Nat := (List.range 6).map (6 * m + ·)

/-- All cassettes, in ascending slot order. -/
def allCassettes : List Nat := List.range 12

/-- The other module. -/
def otherModule (m : Nat) : Nat := 1 - m

/-! ### Denominations -/

/-- The kind of a DEFINED record. -/
def DenomRec.kind : DenomRec → Option DenomKind
  | .empty => none
  | .note _ => some .note
  | .coin _ => some .coin
  | .roll _ _ _ => some .roll

/-- The face value of a record, 0 for an EMPTY one. -/
def DenomRec.face : DenomRec → Nat
  | .empty => 0
  | .note f => f
  | .coin f => f
  | .roll _ _ f => f

def State.face (s : State) (d : Nat) : Nat := (s.denom d).face
def State.isNote (s : State) (d : Nat) : Bool := (s.denom d).kind = some .note
def State.isCoin (s : State) (d : Nat) : Bool := (s.denom d).kind = some .coin
def State.isRoll (s : State) (d : Nat) : Bool := (s.denom d).kind = some .roll
def State.isDefined (s : State) (d : Nat) : Bool := (s.denom d).kind ≠ none

/-- The value of some counts at the present face values, R1. -/
def State.valueOf (s : State) (c : Counts) : Nat :=
  (denoms.map fun d => Counts.of c d * s.face d).foldr (· + ·) 0

/-- The counts with every denomination that fails `keep` at zero. -/
def countsOnly (keep : Nat → Bool) (c : Counts) : Counts :=
  c.mapIdx fun d n => if keep d then n else 0

def State.notesOf (s : State) (c : Counts) : Counts := countsOnly s.isNote c
def State.rollsOf (s : State) (c : Counts) : Counts := countsOnly s.isRoll c

/-! ### Pair lists -/

/-- The non-zero counts as (denomination, count) pairs, in ascending denomination order. -/
def pairsOf (c : Counts) : List Pair :=
  (denoms.map fun d => (⟨d, Counts.of c d⟩ : Pair)).filter fun q => q.count ≠ 0

/-- The counts a pair list adds up to. -/
def pairCounts : List Pair → Counts
  | [] => Counts.zero
  | q :: qs => Counts.plus (pairCounts qs) q.denom q.count

/-- No two numbers of the list are equal. -/
def distinct : List Nat → Bool
  | [] => true
  | a :: l => !l.contains a && distinct l

/-- The list checks of a request's pair list that R107 and R178 name as BAD_FIELD: 1 to 12 pairs, counts 1 to 65,535,
no denomination twice. -/
def pairsOk (l : List Pair) : Bool :=
  !l.isEmpty && l.length ≤ 12 && l.all (fun q => 1 ≤ q.count && q.count ≤ Config.maxCount)
    && distinct (l.map Pair.denom)

/-! ### Operators, R195, R196 -/

/-- An operator number within 1 to 999,999. -/
def opOk (n : Nat) : Bool := 1 ≤ n && n ≤ Config.maxOperator

/-- The active roster entry that holds the number, R196. -/
def State.activeEntry (s : State) (n : Nat) : Option RosterEntry :=
  (s.office.roster.list.filterMap id).find? fun e => e.number = n && e.active

/-- At least one role. -/
def rolesAny (r : Roles) : Bool := r.cashier || r.supervisor || r.custodian

/-- The one-operator check, R196. -/
def State.oneOperator (s : State) (n : Nat) : Bool :=
  match s.activeEntry n with
  | some e => rolesAny e.roles
  | none => false

/-- The role requirements a dual-control check may name, R196. -/
inductive Need where
  | supervisor | custodian | supervisorAndCustodian | twoSupervisors
  deriving DecidableEq, Repr

/-- The required roles can be given to the two operators, each role to a different one, R196. -/
def Need.met (n : Need) (a b : Roles) : Bool :=
  match n with
  | .supervisor => a.supervisor || b.supervisor
  | .custodian => a.custodian || b.custodian
  | .supervisorAndCustodian => (a.supervisor && b.custodian) || (b.supervisor && a.custodian)
  | .twoSupervisors => a.supervisor && b.supervisor

/-- The dual-control check, R196: none when it passes, or the status it fails with. -/
def State.dualControl (s : State) (need : Need) (a b : Nat) : Option Status :=
  if a = b then some .dualControl
  else
    match s.activeEntry a, s.activeEntry b with
    | some x, some y => if need.met x.roles y.roles then none else some .role
    | _, _ => some .dualControl

/-- Every roster entry is EMPTY, R196. -/
def State.rosterEmpty (s : State) : Bool := s.office.roster.list.all (· == none)

/-! ### Clamping -/

/-- The value itself within `lo` to `hi`, and the nearer end otherwise. -/
def clamp (lo hi v : Nat) : Nat := if v < lo then lo else if v > hi then hi else v

end Sys2Proof.Machine
end

