-- ==== Sys2Proof/Machine/Flags.lean ====
section
/-! DEFINITION. The conditions the spec computes from the state: eligible, reserved and available stock, who is in service,
whether grants are open, the spine is idle, the evacuation is promoted, the hold conditions hold, and the conditions GET
STATUS reports. None of them is stored. -/

namespace Sys2Proof.Machine

/-! ### Positions and stock -/

/-- UNPOSTED exactly when at least one unposted mark is set, Table 1-4. -/
def PosRec.unposted (r : PosRec) : Bool := Marks.any r.marks

/-- A module is in service while IN_SERVICE or DEGRADED, R123. -/
def State.inService (s : State) (m : Nat) : Bool :=
  (s.module m).state = .inService || (s.module m).state = .degraded

/-- Cassette `c` is eligible for denomination `d`, R15. -/
def State.eligibleCassette (s : State) (d c : Nat) : Bool :=
  let r := s.cassette c
  r.role = .recycle && r.denom = some d && s.inService (moduleOf c) && !r.stranded && !r.mismatch

/-- The evacuation has a pair: ACTIVE or PAUSED. -/
def State.evacPair (s : State) : Option (Nat × Nat) :=
  match s.evac.state, s.evac.source, s.evac.spare with
  | .active, some a, some b => some (a, b)
  | .paused, some a, some b => some (a, b)
  | _, _, _ => none

/-- The part of the eligible stock that lies in the spare of an evacuating pair, R15. -/
def State.spareStock (s : State) (d : Nat) : Nat :=
  match s.evacPair with
  | some (a, b) => if s.eligibleCassette d a then s.held (cassettePos b) d else 0
  | none => 0

/-- The eligible stock of denomination `d`, R15 and R16. -/
def State.eligible (s : State) (d : Nat) : Nat :=
  match s.denom d with
  | .empty => 0
  | .note _ =>
    (allCassettes.map fun c => if s.eligibleCassette d c then s.held (cassettePos c) d else 0).foldr (· + ·) 0
      + s.spareStock d
  | _ => s.held reservePos d

/-- The reserved count of denomination `d`, R17. -/
def State.reserved (s : State) (d : Nat) : Nat :=
  (s.book.reservations.map fun e => Counts.of e.counts d).foldr (· + ·) 0

/-- The available stock of denomination `d`: eligible minus reserved. -/
def State.available (s : State) (d : Nat) : Nat := s.eligible d - s.reserved d

/-- The reservation entry of a build slot. -/
def State.resEntry (s : State) (k : Nat) : Option ResEntry :=
  s.book.reservations.find? fun e => e.slot = k

/-- The count of `d` that the entry of build slot `k` holds. -/
def State.resCount (s : State) (k d : Nat) : Nat :=
  match s.resEntry k with
  | some e => Counts.of e.counts d
  | none => 0

/-- The reserved count of `d` of the builds other than that of slot `k`, R16. -/
def State.reservedByOthers (s : State) (k d : Nat) : Nat :=
  ((s.book.reservations.filter fun e => e.slot ≠ k).map fun e => Counts.of e.counts d).foldr (· + ·) 0

/-! ### Posting -/

def State.queueFull (s : State) : Bool := Config.postingCap ≤ s.book.queue.length

/-- The condition POSTINGS_OVERDUE, R42. -/
def State.postingsOverdue (s : State) : Bool :=
  s.book.positions.list.any (·.overdue) || s.desk.tills.list.any fun t => t.state = .closing

/-! ### Denominations in use, R3 -/

def Build.plans (d : Nat) : Option Build → Bool
  | some b => Counts.of b.plan d ≠ 0
  | none => false

/-- The first four uses of R3: counts, cassettes, build plans, issued counts of tills that are not CLOSED. -/
def State.denomInUse (s : State) (d : Nat) : Bool :=
  s.book.positions.list.any (fun r => Counts.of r.counts d ≠ 0)
    || s.recycler.cassettes.list.any (fun r => r.denom = some d)
    || s.desk.builds.list.any (Build.plans d)
    || s.desk.tills.list.any (fun t => t.state ≠ .closed && Counts.of t.issued d ≠ 0)

/-- A DEFINED ROLL record names `d` as its coin index. -/
def State.coinNamed (s : State) (d : Nat) : Bool :=
  s.book.denoms.list.any fun r => match r with | .roll c _ _ => c = d | _ => false

/-! ### Builds -/

/-- The counts of a build's plan and of what it has dispensed are of notes somewhere: a tray build, R50. -/
def State.isTrayBuild (s : State) (b : Build) : Bool :=
  !(s.notesOf b.plan).isZero || !b.dispensed.isZero

/-- The build slots, 0 to 3. -/
def buildSlots : List Nat := List.range 4

/-- The slot of the build of a till, R63. -/
def State.buildOf (s : State) (t : Nat) : Option Nat :=
  buildSlots.find? fun k => match s.build k with | some b => b.till = t | none => false

/-! ### The spine -/

/-- The spine is idle, R156: the run record IDLE or UNCLOSED and no purge cycle in progress. -/
def State.spineIdle (s : State) : Bool :=
  (s.recycler.run.state = .idle || s.recycler.run.state = .unclosed) && s.recycler.purge = none

/-- A run is RUNNING, and is no record of a run that power loss cut off (R144). -/
def Run.live (r : Run) : Bool := r.state = .running && !r.interrupted

/-- A run is RUNNING or in its purge cycle, and is no record of a run that power loss cut off. This is the model's reading
of a run in progress (R60, R61, R157): an UNCLOSED record is none (DESIGN CHOICE, log entry 63). -/
def Run.inProgress (r : Run) : Bool := (r.state = .running || r.state = .purging) && !r.interrupted

/-- A run of this kind is RUNNING. -/
def State.runningKind (s : State) (k : RunKind) : Bool := s.recycler.run.live && s.recycler.run.kind = k

/-- A run of the evacuation is in service: RUNNING, or being cleared by its purge cycle (R166). -/
def State.evacRunInService (s : State) : Bool := s.recycler.run.kind = .evacuate && s.recycler.run.inProgress

/-- A run of the evacuation is not yet closed. -/
def State.evacRunOpen (s : State) : Bool :=
  s.recycler.run.kind = .evacuate && s.recycler.run.state ≠ .idle

/-- The dispense run of build slot `k` is in progress (R60, R61): RUNNING or in its purge cycle (log entry 63). -/
def State.dispenseInProgress (s : State) (k : Nat) : Bool :=
  s.recycler.run.kind = .dispense && s.recycler.run.requester = .slot k && s.recycler.run.inProgress

/-- The modules. -/
def allModules : List Nat := [0, 1]

/-- Grants are open, R149. -/
def State.grantsOpen (s : State) : Bool :=
  s.office.mode = .trading && s.office.safe.state = .locked && !s.office.safe.sensorOpen
    && allModules.all (fun m => (s.module m).state ≠ .offline && (s.module m).state ≠ .starting)
    && s.recycler.run.state = .idle && s.recycler.purge = none

/-- Notes of the run in path from position `p` of denomination `d`. -/
def Run.pathFrom (r : Run) (p d : Nat) : Nat := (r.path.filter fun n => n.src = p && n.denom = d).length

/-- Notes of the run in path from position `p`. -/
def Run.pathFromAny (r : Run) (p : Nat) : Nat := (r.path.filter fun n => n.src = p).length

/-- Notes of the run in path to position `p`. -/
def Run.pathTo (r : Run) (p : Nat) : Nat := (r.path.filter fun n => n.dest = .pos p).length

/-- Booked escrow notes of denomination `d` in path. -/
def Run.pathEscrow (r : Run) (d : Nat) : Nat := (r.path.filter fun n => n.dest = .escrow && n.denom = d).length

/-- Cassette `c` can dispense denomination `d` with the cassettes `left` left, R136. -/
def State.canDispense (s : State) (d c : Nat) (left : List Nat) : Bool :=
  let r := s.cassette c
  r.present && r.role = .recycle && r.denom = some d && !r.evacSource && !r.evacSpare && !r.stranded && !r.mismatch
    && s.inService (moduleOf c) && !left.contains c
    && s.recycler.run.pathFrom (cassettePos c) d < s.held (cassettePos c) d

/-- The evacuation is promoted, R152. -/
def State.promoted (s : State) : Bool :=
  s.arbiter.evacuate &&
    match s.arbiter.dispense, s.evac.source with
    | some q, some src =>
      (s.cassette src).denom = some q.denom && allCassettes.all fun c => !s.canDispense q.denom c []
    | _, _ => false

/-- The float window is OPEN: it has remaining time, R154. -/
def State.windowIsOpen (s : State) : Bool :=
  match s.arbiter.window with
  | some n => 0 < n
  | none => false

/-- The dispense entry is grantable, R149. -/
def State.dispenseGrantable (s : State) : Bool :=
  s.arbiter.dispense ≠ none && !s.runningKind .dispense && !s.promoted

/-- The evacuate entry is grantable, R149. -/
def State.evacGrantable (s : State) : Bool := s.arbiter.evacuate && !s.runningKind .evacuate

/-! ### Hold, R193 -/

def StationRec.working (r : StationRec) : Bool := r.state = .busy || r.state = .reporting

def ConsRec.engagedNow : Option ConsRec → Bool
  | some c => c.state = .engaged || c.state = .transferring
  | none => false

/-- The conditions of HOLD, R193. -/
def State.holdConditions (s : State) : Bool :=
  s.spineIdle && !s.count.stations.list.any StationRec.working
    && !s.bay.consignments.list.any ConsRec.engagedNow
    && allModules.all fun m => (s.module m).state ≠ .starting

/-! ### Modules -/

/-- A cassette that degrades its module, R124. -/
def CasRec.degrades (r : CasRec) : Bool :=
  r.present && (r.role = .retired || r.stranded || r.mismatch || r.evacSource || r.evacSpare)

/-- The state of a module in service, by its cassettes, R124. -/
def State.serviceState (s : State) (m : Nat) : ModState :=
  if (moduleCassettes m).any fun c => (s.cassette c).degrades then .degraded else .inService

/-! ### Evacuation candidates, R163 -/

def CasRec.noFlags (r : CasRec) : Bool :=
  !r.atThreshold && !r.evacSource && !r.evacSpare && !r.stranded && !r.mismatch

/-- Cassette `b` is a qualifying spare for cassette `c`, R163. -/
def State.qualifyingSpare (s : State) (c b : Nat) : Bool :=
  let r := s.cassette b
  r.present && r.role = .spare && (s.posRec (cassettePos b)).counts.isZero && r.noFlags
    && (s.posRec (cassettePos c)).counts.items + s.recycler.run.pathTo (cassettePos c) ≤ r.capacity

/-- The lowest-numbered qualifying spare in the module of `c`. -/
def State.spareFor (s : State) (c : Nat) : Option Nat :=
  (moduleCassettes (moduleOf c)).find? fun b => s.qualifyingSpare c b

/-- Cassette `c` is a candidate source, R163. -/
def State.isCandidate (s : State) (c : Nat) : Bool :=
  let r := s.cassette c
  r.present && (r.role = .recycle || r.role = .depositOnly) && r.atThreshold
    && !r.evacSource && !r.evacSpare && !r.stranded && !r.mismatch
    && s.inService (moduleOf c) && s.evac.enables.get false (moduleOf c) && (s.spareFor c).isSome

/-- Puts a cassette into a list ordered by descending bucket, after those of an equal bucket. -/
def State.byBucket (s : State) (c : Nat) : List Nat → List Nat
  | [] => [c]
  | x :: l => if (s.cassette x).bucket < (s.cassette c).bucket then c :: x :: l else x :: s.byBucket c l

/-- The candidates of a module, highest bucket first, equal buckets by slot. -/
def State.moduleCandidates (s : State) (m : Nat) : List Nat :=
  ((moduleCassettes m).filter s.isCandidate).foldl (fun l c => s.byBucket c l) []

/-- The candidates in the order of R163: module 0 before module 1. -/
def State.candidates (s : State) : List Nat := s.moduleCandidates 0 ++ s.moduleCandidates 1

/-! ### Evacuation pause, R166 -/

/-- The pause causes that hold now, in the order of Table 8-3. -/
def State.pauseCauses (s : State) : List PauseCause :=
  match s.evac.source, s.evac.spare with
  | some a, some b =>
    (if s.evac.enables.get false (moduleOf a) then [] else [.disabled])
      ++ (if s.office.mode = .trading then [] else [.hold])
      ++ (if s.inService (moduleOf a) then [] else [.module])
      ++ (if (s.cassette b).atThreshold then [.spareFault] else [])
  | _, _ => []

/-- The place of a cause in Table 8-3; RESTART stands in no row of it and is never replaced. -/
def PauseCause.place : PauseCause → Nat
  | .disabled => 1
  | .hold => 2
  | .module => 3
  | .spareFault => 4
  | .restart => 0

/-! ### Stations and jobs -/

/-- A FEEDER station, Table 4-4. -/
def isFeeder (n : Nat) : Bool := n = 1 || n = 2

def stationNumbers : List Nat := [1, 2, 3, 4]

/-- A station is offerable, R104. -/
def State.offerable (s : State) (n : Nat) : Bool :=
  (s.station n).state = .idle && (s.station n).mech = some .ready && (s.station n).stack = 0

/-! ### Conditions of GET STATUS, R207 -/

def DoorRec.alarm (d : DoorRec) : Bool := d.forced || d.heldOpen

/-- The DOOR_ALARM condition. -/
def State.doorAlarmCondition (s : State) : Bool :=
  s.doors.office.alarm || s.doors.courier.alarm || s.office.safe.forced

/-- The SAFE_OPEN condition, R198. -/
def State.safeOpenCondition (s : State) : Bool := s.office.safe.state ≠ .locked || s.office.safe.sensorOpen

/-- A lot's genuine notes of denomination `d`: the sum of its four bands. -/
def LotRec.genuine (l : LotRec) (d : Nat) : Nat :=
  Counts.of l.band0 d + Counts.of l.band1 d + Counts.of l.band2 d + Counts.of l.band3 d

/-- The genuine notes of a lot as counts. -/
def LotRec.genuineCounts (l : LotRec) : Counts := Tab.ofFn 12 l.genuine

/-- The genuine notes and the declared coin of a lot: what is counted, R105, R107. R111 to R113 take the band counts of a
NOTE and the declared count of a COIN or ROLL; a figure of a denomination whose kind has changed since counts on as it was
counted (DESIGN CHOICE, log entry 83). -/
def LotRec.counted (l : LotRec) : Counts := Counts.add l.genuineCounts l.coin

/-- A lot holds at least one genuine note. -/
def LotRec.hasNotes (l : LotRec) : Bool := !l.genuineCounts.isZero

/-- A lot's job is one that keeps its queue place: WAITING, COUNTING or COUNTED, R102, R103. -/
def LotRec.inCount (l : LotRec) : Bool := l.state = .waiting || l.state = .counting || l.state = .counted

/-! ### Bay -/

def containerSlots : List Nat := List.range 96
def consignmentSlots : List Nat := List.range 8

/-- A consignment holds the bay, R177. -/
def ConsRec.holdsBay (c : ConsRec) : Bool :=
  match c.kind with
  | .collection =>
    match c.state with
    | .loading | .staged | .waiting | .engaged | .transferring | .partly | .interrupted | .expired => true
    | .draft | .complete | .aborted => false
  | .delivery =>
    c.engagedOnce && match c.state with
      | .complete | .aborted | .expired => false
      | _ => true

/-- A consignment is finished, R177. -/
def ConsRec.finished (c : ConsRec) : Bool :=
  c.state = .complete || c.state = .aborted || (c.kind = .delivery && c.state = .expired)

/-- The consignment that holds the bay, if any. -/
def State.bayHolder (s : State) : Option Nat :=
  consignmentSlots.find? fun k => match s.consignment k with | some c => c.holdsBay | none => false

/-- A consignment other than `k` holds the bay. -/
def State.bayHeldByOther (s : State) (k : Nat) : Bool :=
  consignmentSlots.any fun j => j ≠ k && match s.consignment j with | some c => c.holdsBay | none => false

/-- The delivery items still expected, R172. -/
def ConsRec.expected (c : ConsRec) : List Item :=
  match c.kind with
  | .collection => []
  | .delivery =>
    match c.state with
    | .complete | .aborted | .expired => []
    | _ => c.items.filter fun i => !i.done

/-- A number is in the container register, R172. -/
def State.inRegister (s : State) (n : Nat) : Bool :=
  s.bay.containers.list.any (fun r => match r with | some c => c.number = n | none => false)
    || s.bay.consignments.list.any fun r => match r with
        | some c => c.expected.any fun i => i.number = n
        | none => false

/-- A number is the tag or the announced tag of a cassette record other than `except`, R130, R172. -/
def State.isCassetteTag (s : State) (n : Nat) (except : Option Nat) : Bool :=
  allCassettes.any fun c => some c ≠ except &&
    ((s.cassette c).tag = some n || match (s.cassette c).announced with | some a => a.tag = n | none => false)

/-- The FREE container slots. -/
def State.freeContainers (s : State) : List Nat :=
  containerSlots.filter fun n => !(s.posRec (containerPos n)).inUse

/-- The FREE lot slots. -/
def State.freeLots (s : State) : List Nat :=
  (List.range 64).filter fun n => !(s.posRec (lotPos n)).inUse

/-- The container slots reserved for an engaged delivery, R184. -/
def State.slotsReserved (s : State) : Nat :=
  (consignmentSlots.map fun k => match s.consignment k with
    | some c =>
      if c.kind = .delivery ∧ (c.state = .engaged ∨ c.state = .transferring) then
        (c.items.filter fun i => !i.done).length else 0
    | none => 0).foldr (· + ·) 0

/-- A container is retrievable, R188: CLOSED or RECEIVED, in the bay, held by no collection. A CLOSED or RECEIVED
container is an item of no collection, so the last condition is that its consignment, if any, is no collection. -/
def State.retrievable (s : State) (n : Nat) : Bool :=
  match s.container n with
  | some c =>
    (c.state = .closed || c.state = .received) && c.location = .bay &&
      match c.consignment with
      | none => true
      | some k => match s.consignment k with
        | some q => q.kind ≠ .collection
        | none => true
  | none => false

/-- At least one container is retrievable. -/
def State.anyRetrievable (s : State) : Bool := containerSlots.any s.retrievable

/-- The consignment that is LOADING, ENGAGED, TRANSFERRING ... -/
def State.consIn (s : State) (st : ConsState) : Option Nat :=
  consignmentSlots.find? fun k => match s.consignment k with | some c => c.state = st | none => false

/-- A door is locked with its sensor reading CLOSED, R181. -/
def DoorRec.secure (d : DoorRec) : Bool := d.locked && !d.sensorOpen

end Sys2Proof.Machine
end

