-- ==== Sys2Proof/Machine/Money.lean ====
section
/-! DEFINITION. The position book at work (Sections 1 and 2): checking movements, changing counts and totals, posting,
settling positions, claiming and releasing slots, reservations and the walk of the availability cut, catch-up. -/

namespace Sys2Proof.Machine

/-! ### The posting queue, R37, R41 -/

/-- An entry joins the posting queue with the next sequence number; passing from 96 to 97 entries sends POSTINGS_WAITING
where the notice is armed (R37, R41). Where the queue is full nothing is queued. -/
def queueEntry (b : EntryBody) (s : State) : State :=
  if s.queueFull then s
  else
    let n := nextNumber Config.top32 s.book.lastSeq
    let q := s.book.queue ++ [⟨n, s.clock, b⟩]
    let s1 := { s with book := { s.book with queue := q, lastSeq := n } }
    if q.length = Config.waitingMark + 1 ∧ s.book.armed then
      notify (.postingsWaiting q.length) { s1 with book := { s1.book with armed := false } }
    else s1

/-- The oldest `n` entries leave the queue; the waiting notice is armed again as the depth falls below 64 (R39, R41). -/
def dropEntries (n : Nat) (s : State) : State :=
  let q := s.book.queue.drop n
  let rearm := Config.rearmMark ≤ s.book.queue.length && q.length < Config.rearmMark
  { s with book := { s.book with queue := q, armed := s.book.armed || rearm } }

/-! ### Settling and releasing, R12, R34 -/

/-- A slot becomes FREE and its owner clears the lot or container record (R12). -/
def completeRelease (p : Nat) (s : State) : State :=
  let r := s.posRec p
  let s1 := s.setPosRec p
    { r with inUse := false, marks := Marks.clear, overdue := false, inRun := false, releasePending := false }
  match posKind p with
  | .lot n => s1.setLot n none
  | .container n => s1.setContainer n none
  | _ => s1

/-- The marks of a position are cleared and it becomes CLEAN; a pending release then completes (R34, R36). -/
def clearMarks (p : Nat) (s : State) : State :=
  let r := s.posRec p
  let s1 := s.setPosRec p { r with marks := Marks.clear, overdue := false }
  if r.releasePending then completeRelease p s1 else s1

/-- The settle entry of a position: none, one count or all twelve, by how many marks are set (R34). -/
def settleEntry (p : Nat) (reason : SettleReason) (r : PosRec) : Option EntryBody :=
  match Marks.list' r.marks with
  | [] => none
  | [d] => some (.settleOne p reason r.lastMove d (Counts.of r.counts d))
  | _ => some (.settleFull p reason r.lastMove r.counts)

/-- A settle needs a place in a full queue. -/
def State.settleBlocked (s : State) (p : Nat) : Bool := (s.posRec p).unposted && s.queueFull

/-- A settle of position `p` (R34); the caller has seen that it is not blocked and carries no in-run mark. -/
def settlePosition (p : Nat) (reason : SettleReason) (s : State) : State :=
  match settleEntry p reason (s.posRec p) with
  | some e => clearMarks p (queueEntry e s)
  | none => clearMarks p s

/-- The release of a slot whose release is pending and which carries no in-run mark is tried: at once when it is CLEAN, by
a settle with reason RELEASE otherwise; a full queue leaves it pending and overdue (R12). -/
def tryRelease (p : Nat) (s : State) : State :=
  let r := s.posRec p
  if !r.releasePending || r.inRun then s
  else if s.settleBlocked p then s.setPosRec p { r with overdue := true }
  else settlePosition p .release s

/-- The owning block asks for the release of a slot: refused with any count non-zero; a second request for a slot whose
release is pending changes nothing (R11). -/
def requestRelease (p : Nat) (s : State) : State :=
  let r := s.posRec p
  if !r.counts.isZero || r.releasePending then s
  else tryRelease p (s.setPosRec p { r with releasePending := true })

/-- A claimed slot: IN_USE, empty, unmarked, THROUGH, with last movement number 0 (R10, R26). -/
def claimSlot (p : Nat) (s : State) : State := s.setPosRec p PosRec.fixed

/-! ### Movements -/

/-- A movement as a block hands it to the book, R26; `slot` is the build slot an ISSUE names (R16). -/
structure Movement where
  kind : MoveKind
  src : Side
  dst : Side
  pairs : List Pair
  ops : List Nat
  slot : Option Nat
  deriving DecidableEq, Repr

/-- A refusal of the book: its status and the denomination it names, R9. -/
structure Refused where
  status : Status
  denom : Option Nat
  deriving DecidableEq, Repr

def refuseWith (st : Status) : Option Refused := some ⟨st, none⟩
def refuseDenom (st : Status) (d : Nat) : Option Refused := some ⟨st, some d⟩

/-- The first refusal of two checks made in order. -/
def orElse' (a b : Option Refused) : Option Refused :=
  match a with
  | some r => some r
  | none => b

/-- The position a side names, none for a counterpart. -/
def Side.position : Side → Option Nat
  | .pos p => some p
  | _ => none

/-- A side outside its range, R7. -/
def Side.outOfRange : Side → Bool
  | .pos p => 176 < p
  | .floor t => 255 < t
  | .carrier c => 7 < c
  | .external _ => false

/-- A custody side that is FREE or whose release is pending, R7. -/
def State.sideClosed (s : State) (x : Side) : Bool :=
  match x with
  | .pos p => !(s.posRec p).inUse || (s.posRec p).releasePending
  | _ => false

def State.sideInRun (s : State) (x : Side) : Bool :=
  match x with
  | .pos p => (s.posRec p).inRun
  | _ => false

/-- The side checks of R7; `ofRun` says that the movement is a booking of the run that set the in-run marks. -/
def checkSides (m : Movement) (ofRun : Bool) (s : State) : Option Refused :=
  if m.src.outOfRange || m.dst.outOfRange then refuseWith .badField
  else if m.src.position = none ∧ m.dst.position = none then refuseWith .badField
  else if m.src.position ≠ none ∧ m.src.position = m.dst.position then refuseWith .badField
  else if s.sideClosed m.src || s.sideClosed m.dst then refuseWith .wrongState
  else if !ofRun && (s.sideInRun m.src || s.sideInRun m.dst) then refuseWith .wrongState
  else none

/-- The denomination may be held at a side, R6. -/
def State.sideHolds (s : State) (x : Side) (d : Nat) : Bool :=
  match x with
  | .pos p => !notesOnly (posKind p) || s.isNote d
  | _ => true

/-- A custody side holds fewer than `n` items of denomination `d`. -/
def State.sideLacks (s : State) (x : Side) (d n : Nat) : Bool :=
  match x with
  | .pos p => decide (s.held p d < n)
  | _ => false

/-- A custody side would hold more than 65,535 items of `d` with `n` more. -/
def State.sideOver (s : State) (x : Side) (d n : Nat) : Bool :=
  match x with
  | .pos p => decide (Config.maxCount < s.held p d + n)
  | _ => false

/-- The checks of one pair, R9. -/
def checkPair (m : Movement) (s : State) (q : Pair) : Option Refused :=
  if !s.isDefined q.denom || !s.sideHolds m.src q.denom || !s.sideHolds m.dst q.denom then
    refuseDenom .denomination q.denom
  else if s.sideLacks m.src q.denom q.count then refuseDenom .notHeld q.denom
  else if s.sideOver m.dst q.denom q.count then refuseDenom .countRange q.denom
  else none

/-- The first refusal along a list. -/
def firstRefusal (f : Pair → Option Refused) : List Pair → Option Refused
  | [] => none
  | q :: qs => orElse' (f q) (firstRefusal f qs)

/-- The list checks of R9. A zero count is BAD_FIELD and names no denomination (DESIGN CHOICE, log entry 27): R9 names the
denomination of its other refusals. -/
def checkList (m : Movement) (s : State) : Option Refused :=
  if m.pairs.isEmpty || 12 < m.pairs.length || m.pairs.any (fun q => q.count = 0)
      || !distinct (m.pairs.map Pair.denom) then refuseWith .badField
  else firstRefusal (checkPair m s) m.pairs

def Side.isReserve : Side → Bool
  | .pos p => p = reservePos
  | _ => false
def Side.isTray : Side → Bool
  | .pos p => p = trayPos
  | _ => false
def Side.isSuspect : Side → Bool
  | .pos p => p = suspectPos
  | _ => false
def Side.isLot : Side → Bool
  | .pos p => match posKind p with | .lot _ => true | _ => false
  | _ => false
def Side.isContainer : Side → Bool
  | .pos p => match posKind p with | .container _ => true | _ => false
  | _ => false
def Side.isPurge : Side → Bool
  | .pos p => match posKind p with | .purge _ => true | _ => false
  | _ => false
/-- The cassette a side names. -/
def Side.cassette : Side → Option Nat
  | .pos p => match posKind p with | .cassette c => some c | _ => none
  | _ => none
def Side.isCassette (x : Side) : Bool := x.cassette.isSome
def Side.isFloor : Side → Bool
  | .floor _ => true
  | _ => false
def Side.isCarrier : Side → Bool
  | .carrier _ => true
  | _ => false
def Side.isCustody (x : Side) : Bool := x.position.isSome

/-- The sides each kind of movement may have, Table 2-2. -/
def MoveKind.sidesOk (k : MoveKind) (a b : Side) : Bool :=
  match k with
  | .issue => (a.isTray || a.isReserve) && b.isFloor
  | .intake => a.isFloor && b.isLot
  | .suspectAside => (a.isFloor || a.isContainer) && b.isSuspect
  | .deposit => a.isLot && b.isCassette
  | .escrowReturn => a.isLot && b.isReserve
  | .dispense => a.isCassette && b.isTray
  | .trayReturn => a.isTray && (b.isCassette || b.isReserve)
  | .evacuate => a.isCassette && b.isCassette
  | .purge => (a.isCassette || a.isLot || a.isTray) && b.isPurge
  | .fill => (a.isLot || a.isReserve || a.isSuspect || a.isPurge) && b.isContainer
  | .disposeReserve => a.isLot && b.isReserve
  | .handoverOut => a.isContainer && b.isCarrier
  | .deliveryIn => a.isCarrier && b.isContainer
  | .openForCount => a.isContainer && b.isLot
  | .deliveryVariance => (a = .external .deliveryVariance && b.isLot) || (a.isLot && b = .external .deliveryVariance)
  | .strandedRecovery => a.isCassette && b.isLot
  | .adjust => (a = .external .adjustment && b.isCustody) || (a.isCustody && b = .external .adjustment)
  | .opening => a = .external .opening && b.isCustody

/-- The numbers of operators each kind may carry, Table 2-2. -/
def MoveKind.opsOk (k : MoveKind) (n : Nat) : Bool :=
  match k with
  | .issue | .intake | .suspectAside | .openForCount | .deliveryVariance => n = 1
  | .deposit | .escrowReturn | .dispense | .trayReturn | .evacuate | .purge => n = 0
  | .fill | .disposeReserve => n = 0 || n = 1
  | .handoverOut | .deliveryIn | .strandedRecovery | .opening => n = 2
  | .adjust => n = 1 || n = 2

/-- The kind's code: the row of Table 2-2. -/
def MoveKind.code : MoveKind → Nat
  | .issue => 1 | .intake => 2 | .suspectAside => 3 | .deposit => 4 | .escrowReturn => 5 | .dispense => 6
  | .trayReturn => 7 | .evacuate => 8 | .purge => 9 | .fill => 10 | .disposeReserve => 11 | .handoverOut => 12
  | .deliveryIn => 13 | .openForCount => 14 | .deliveryVariance => 15 | .strandedRecovery => 16 | .adjust => 17
  | .opening => 18

/-- The check of R27. -/
def checkKind (m : Movement) : Option Refused :=
  if m.kind.sidesOk m.src m.dst && m.kind.opsOk m.ops.length then none else refuseWith .badField

/-- A movement of `n` items into cassette `c` would take the two counts of the evacuating pair past the spare's capacity,
R165. A STRANDED record makes no such check: R165 names it too, but its spare is absent by R168, so there is no pair (DESIGN
CHOICE, log entry 74). -/
def State.pairOver (s : State) (c : Nat) (n : Nat) : Bool :=
  match s.evacPair with
  | some (a, b) =>
    (c = a || c = b) &&
      (s.cassette b).capacity
        < (s.posRec (cassettePos a)).counts.items + (s.posRec (cassettePos b)).counts.items + n
  | none => false

/-- The number of items a pair list names. -/
def pairItems : List Pair → Nat
  | [] => 0
  | q :: qs => q.count + pairItems qs

/-- The cassette conditions of a movement into cassette `c`, R126 and R165. Where several fail, DENOMINATION comes first, then
CAPACITY, and WRONG_STATE for a RETIRED cassette last (DESIGN CHOICE, log entry 75). -/
def checkInto (m : Movement) (s : State) (c : Nat) : Option Refused :=
  let r := s.cassette c
  let n := pairItems m.pairs
  if !r.present then refuseWith .wrongState
  else
    match m.pairs.find? fun q => r.denom ≠ some q.denom with
    | some q => refuseDenom .denomination q.denom
    | none =>
      if r.capacity < (s.posRec (cassettePos c)).counts.items + n then refuseWith .capacity
      else if s.pairOver c n then refuseWith .capacity
      else if r.role = .retired then refuseWith .wrongState
      else none

/-- The cassette conditions of both sides, R126. -/
def checkCassettes (m : Movement) (s : State) : Option Refused :=
  orElse' (match m.dst.cassette with | some c => checkInto m s c | none => none)
    (match m.src.cassette with
      | some c => if (s.cassette c).present then none else refuseWith .wrongState
      | none => none)

/-- The kind conditions of Table 2-3. An ISSUE from RESERVE that names no build slot fails its condition for its first
pair's denomination. -/
def checkConditions (m : Movement) (s : State) : Option Refused :=
  orElse' (if !m.ops.all opOk || !distinct m.ops then refuseWith .badField else none) <|
  orElse' (if m.kind = .issue ∧ m.src.isReserve then
      match m.slot with
      | none => m.pairs.head?.bind fun q => refuseDenom .stock q.denom
      | some k => firstRefusal (fun q =>
          if s.held reservePos q.denom - s.reservedByOthers k q.denom < q.count then refuseDenom .stock q.denom
          else none) m.pairs
    else none) <|
  orElse' (if m.kind = .fill ∧ m.src.isReserve then
      firstRefusal (fun q =>
        if !s.isNote q.denom && s.held reservePos q.denom - q.count < s.reserved q.denom then
          refuseDenom .stock q.denom
        else none) m.pairs
    else none) <|
  orElse' (checkCassettes m s) <|
  orElse' (if m.kind = .evacuate ∧ m.src.cassette.map moduleOf ≠ m.dst.cassette.map moduleOf then refuseWith .badField
    else none)
    (if m.kind = .opening ∧ !s.book.opening then refuseWith .wrongState else none)

/-- Every check of a movement, in order: R7, R9, R27, R28. -/
def checkMovement (m : Movement) (ofRun : Bool) (s : State) : Option Refused :=
  orElse' (checkSides m ofRun s) <| orElse' (checkList m s) <| orElse' (checkKind m) (checkConditions m s)

/-! ### Applying a movement -/

/-- A custody side loses the pairs' counts. -/
def takeFrom (x : Side) (qs : List Pair) (s : State) : State :=
  match x with
  | .pos p =>
    s.setPosRec p { s.posRec p with counts := qs.foldl (fun c q => Counts.minus c q.denom q.count) (s.posRec p).counts }
  | _ => s

/-- A custody side gains the pairs' counts. -/
def giveTo (x : Side) (qs : List Pair) (s : State) : State :=
  match x with
  | .pos p =>
    s.setPosRec p { s.posRec p with counts := qs.foldl (fun c q => Counts.plus c q.denom q.count) (s.posRec p).counts }
  | _ => s

/-- The custody totals after a movement, R14: up from a counterpart, down to one, unchanged between positions. -/
def moveTotals (m : Movement) (s : State) : State :=
  match m.src.position, m.dst.position with
  | none, some _ =>
    { s with book := { s.book with totals := m.pairs.foldl (fun c q => Counts.plus c q.denom q.count) s.book.totals } }
  | some _, none =>
    { s with book := { s.book with totals := m.pairs.foldl (fun c q => Counts.minus c q.denom q.count) s.book.totals } }
  | _, _ => s

/-- The entry of build slot `k` changed by `f`. -/
def changeEntry (k : Nat) (f : ResEntry → ResEntry) (s : State) : State :=
  { s with book := { s.book with
      reservations := s.book.reservations.map fun e => if e.slot = k then f e else e } }

/-- An ISSUE from RESERVE booked for a build lowers its entry by the issued counts, down to zero (R18). -/
def issueFromEntry (m : Movement) (s : State) : State :=
  match m.kind, m.src.isReserve, m.slot with
  | .issue, true, some k =>
    changeEntry k (fun e => { e with counts := Counts.sub e.counts (pairCounts m.pairs) }) s
  | _, _, _ => s

/-- The number the next applied movement takes, R26. -/
def State.nextMove (s : State) : Nat := nextNumber Config.top32 s.book.moveCounter

/-- A touched custody position's last movement number becomes that of the movement (R26, R28). -/
def stampSide (x : Side) (n : Nat) (s : State) : State :=
  match x with
  | .pos p => s.setPosRec p { s.posRec p with lastMove := n }
  | _ => s

/-- The marks of the moved denominations are set. -/
def markPairs (qs : List Pair) (m : Marks) : Marks := qs.foldl (fun m q => Marks.mark m q.denom) m

/-- A movement is posted to a side: a MOVE entry for a THROUGH position that is not overdue where the queue has room;
unposted marks otherwise, with the overdue mark where the queue was full (R31, R32). -/
def postSide (x : Side) (m : Movement) (n : Nat) (s : State) : State :=
  match x with
  | .pos p =>
    let r := s.posRec p
    if r.mode = .through ∧ !r.overdue then
      if s.queueFull then s.setPosRec p { r with marks := markPairs m.pairs r.marks, overdue := true }
      else
        queueEntry (.move p n m.kind m.src m.dst m.ops
          (m.pairs.map fun q => (q, Counts.of r.counts q.denom))) s
    else s.setPosRec p { r with marks := markPairs m.pairs r.marks }
  | _ => s

/-- A movement that has changed its counts is numbered and posted, source side first (R26, R28, R31). -/
def numberAndPost (m : Movement) (s : State) : State :=
  let n := s.nextMove
  let s1 := { s with book := { s.book with moveCounter := n } }
  postSide m.dst m n (postSide m.src m n (stampSide m.dst n (stampSide m.src n s1)))

/-- The 90 % mark of a capacity: the smallest count not below nine tenths of it (R126). -/
def mark90 (capacity : Nat) : Nat := (9 * capacity + 9) / 10

/-- CASSETTE_FULL where a cassette's count has risen from `before` across its 90 % mark or its capacity (R126). -/
def noticeFull (c before : Nat) (s : State) : State :=
  let r := s.cassette c
  let now := (s.posRec (cassettePos c)).counts.items
  let a := if before < mark90 r.capacity ∧ mark90 r.capacity ≤ now then
      [NoticeBody.cassetteFull c r.denom now r.capacity 90] else []
  let b := if before < r.capacity ∧ r.capacity ≤ now then
      [NoticeBody.cassetteFull c r.denom now r.capacity 100] else []
  notifyAll (a ++ b) s

/-- The movements of a list that carry a pair. -/
def withPairs (l : List Movement) : List Movement := l.filter fun m => !m.pairs.isEmpty

/-- The reply to a refused group: the place of the failing movement and the denomination it names, R29, R205. -/
def groupRefusal (k : Nat) (r : Refused) : Reply :=
  Reply.plain r.status (u1 k :: match r.denom with | some d => [u1 d] | none => [])

/-- The numbers of `n` movements applied one after another from the counter `c`. -/
def moveNumbers : Nat → Nat → List Nat
  | _, 0 => []
  | c, n + 1 => nextNumber Config.top32 c :: moveNumbers (nextNumber Config.top32 c) n

/-! ### Reservations, R17 to R19 -/

/-- The first denomination, in index order, whose new count exceeds the stock open to slot `k`: the available stock and
what the slot's own entry holds (R17, R19). -/
def State.overReserved (s : State) (k : Nat) (c : Counts) : Option Nat :=
  denoms.find? fun d => s.available d + s.resCount k d < Counts.of c d

/-- A reservation is taken or, where the slot holds an entry, replaced in its place (R17, R19). -/
def reserve (k till : Nat) (c : Counts) (s : State) : State :=
  match s.resEntry k with
  | some _ => changeEntry k (fun e => { e with counts := c, cut := Marks.clear }) s
  | none =>
    { s with book := { s.book with reservations := s.book.reservations ++ [⟨k, till, c, Marks.clear⟩] } }

/-- The entry of a build slot is released (R18). -/
def releaseEntry (k : Nat) (s : State) : State :=
  { s with book := { s.book with reservations := s.book.reservations.filter fun e => e.slot ≠ k } }

/-! ### The availability cut, R20, R21 -/

/-- The walk of a cut of denomination `d` by the excess `x`, along entries youngest first: the entries after it and the
build slots reduced, in the order of the walk. -/
def cutWalk (d : Nat) : List ResEntry → Nat → List ResEntry × List Nat
  | [], _ => ([], [])
  | e :: es, x =>
    let k := Nat.min (Counts.of e.counts d) x
    if k = 0 then
      let (r, l) := cutWalk d es x
      (e :: r, l)
    else
      let (r, l) := cutWalk d es (x - k)
      ({ e with counts := Counts.minus e.counts d k, cut := Marks.mark e.cut d } :: r, e.slot :: l)

/-- The excess of the reserved count over the eligible stock. -/
def State.excess (s : State) (d : Nat) : Nat := s.reserved d - s.eligible d

/-- The cut of denomination `d`, and the builds it reduced, youngest first. -/
def cutEntries (d : Nat) (s : State) : State × List Nat :=
  let (r, l) := cutWalk d s.book.reservations.reverse (s.excess d)
  ({ s with book := { s.book with reservations := r.reverse } }, l)

/-! ### Till summaries and catch-up, R40, R42 -/

/-- The TILL_SUMMARY of a till record. -/
def summaryOf (t : Nat) (r : TillRec) : EntryBody :=
  .tillSummary t r.session r.floatValue r.sales r.pickups (r.returned.getD 0) (r.variance.getD 0)
    (r.band.getD .balanced)

/-- A till's summary is queued and the till is CLOSED (R42). -/
def queueSummary (t : Nat) (s : State) : State :=
  let r := s.till t
  (queueEntry (summaryOf t r) s).setTill t { r with state := .closed, closingPending := false }

/-- Catch-up over the overdue positions, in ascending position order: none where it stops for want of a place (R40). -/
def catchUpPositions : List Nat → State → State × Bool
  | [], s => (s, true)
  | p :: ps, s =>
    let r := s.posRec p
    if !r.overdue || r.inRun then catchUpPositions ps s
    else if s.settleBlocked p then (s, false)
    else catchUpPositions ps (settlePosition p .catchUp s)

/-- Catch-up over the closing tills, in ascending till number (R40). -/
def catchUpTills : List Nat → State → State
  | [], s => s
  | t :: ts, s =>
    if (s.till t).state = .closing then
      if s.queueFull then s else catchUpTills ts (queueSummary t s)
    else catchUpTills ts s

/-- Catch-up after a FETCH POSTINGS reply, R40. -/
def catchUp (s : State) : State :=
  match catchUpPositions (List.range 177) s with
  | (s1, true) => catchUpTills (List.range 256) s1
  | (s1, false) => s1

end Sys2Proof.Machine
end

