-- ==== Sys2Proof/Machine/Makeup.lean ====
section
/-! DEFINITION. The float make-up computation, R52 to R55. -/

namespace Sys2Proof.Machine

/-- A template entry with its availability a_d, its face value f_d and its kind. -/
structure MakeLine where
  denom : Nat
  pref : Nat
  min : Nat
  max : Nat
  avail : Nat
  face : Nat
  roll : Bool
  deriving DecidableEq, Repr

/-- `a` comes before `b` in make-up order: descending face value, then NOTE before ROLL, then lower index (R52). -/
def MakeLine.before (a b : MakeLine) : Bool :=
  b.face < a.face || (a.face = b.face && ((!a.roll && b.roll) || (a.roll = b.roll && a.denom < b.denom)))

def insertLine (a : MakeLine) : List MakeLine → List MakeLine
  | [] => [a]
  | b :: l => if a.before b then a :: b :: l else b :: insertLine a l

/-- The lines in make-up order. -/
def makeupOrder : List MakeLine → List MakeLine
  | [] => []
  | a :: l => insertLine a (makeupOrder l)

/-- The entry as a line with availability `a`. -/
def State.makeLine (s : State) (a : Nat) (e : TemplateEntry) : MakeLine :=
  ⟨e.denom, e.pref, e.min, e.max, a, s.face e.denom, s.isRoll e.denom⟩

/-- The availability of R52 with what slot `k` itself holds added (R19); nothing of a denomination that is no NOTE or
ROLL any more can be planned (log entry 12). -/
def State.makeAvail (s : State) (own : Nat → Nat) (d : Nat) : Nat :=
  if s.isNote d || s.isRoll d then s.available d + own d else 0

/-- The seed of a line, R53. -/
def MakeLine.seed (l : MakeLine) : Nat := Nat.min (clamp l.min l.max l.pref) l.avail

/-- Lines with their present counts. -/
abbrev MakePlan := List (MakeLine × Nat)

/-- The total T. -/
def planTotal : MakePlan → Nat
  | [] => 0
  | (l, c) :: p => c * l.face + planTotal p

/-- The reduce pass over a total above the target by `x`, R54. -/
def reducePass : Nat → MakePlan → MakePlan
  | _, [] => []
  | x, (l, c) :: p =>
    let k := Nat.min (x / l.face) (c - l.min)
    (l, c - k) :: reducePass (x - k * l.face) p

/-- The fill pass over a total below the target by `x`, R54. -/
def fillPass : Nat → MakePlan → MakePlan
  | _, [] => []
  | x, (l, c) :: p =>
    let k := Nat.min (Nat.min (x / l.face) (l.max - c)) (l.avail - c)
    (l, c + k) :: fillPass (x - k * l.face) p

/-- The plan's counts. -/
def planCounts : MakePlan → Counts
  | [] => Counts.zero
  | (l, c) :: p => Counts.plus (planCounts p) l.denom c

/-- Outcomes of the computation, R53 and R55: `short` is V − T of an accepted plan, 0 when EXACT. -/
inductive MakeResult where
  | accepted (plan : Counts) (total short : Nat)
  | stock (denom : Nat)
  | shortfall (by' : Nat)
  | over (by' : Nat)
  deriving DecidableEq, Repr

/-- The passes' outcome against target `v` and tolerance `tol`, R55. -/
def makeOutcome (v tol : Nat) (p : MakePlan) : MakeResult :=
  let t := planTotal p
  if v < t then .over (t - v)
  else if v - t ≤ tol then .accepted (planCounts p) t (v - t)
  else .shortfall (v - t)

/-- The computation on lines in make-up order, R53 to R55. -/
def makeUp (v tol : Nat) (lines : List MakeLine) : MakeResult :=
  match lines.find? fun l => l.avail < l.min with
  | some l => .stock l.denom
  | none =>
    let p := lines.map fun l => (l, l.seed)
    let t := planTotal p
    if v < t then makeOutcome v tol (reducePass (t - v) p)
    else makeOutcome v tol (fillPass (v - t) p)

/-- BUILD FLOAT's computation on a template, R52. -/
def State.makeUpFor (s : State) (t : Template) : MakeResult :=
  makeUp t.target t.short
    (makeupOrder (t.entries.map fun e => s.makeLine (s.makeAvail (fun _ => 0) e.denom) e))

/-- An entry with its limits lowered by what has been dispensed of it, R65. -/
def lowerEntry (disp : Counts) (e : TemplateEntry) : TemplateEntry :=
  ⟨e.denom, e.pref - Counts.of disp e.denom, e.min - Counts.of disp e.denom, e.max - Counts.of disp e.denom⟩

/-- REBUILD's computation on a build's plan copy, R65. -/
def State.makeUpAgain (s : State) (k : Nat) (b : Build) : MakeResult :=
  makeUp (b.target - s.valueOf b.dispensed) b.short
    (makeupOrder ((b.entries.map (lowerEntry b.dispensed)).map fun e =>
      s.makeLine (s.makeAvail (s.resCount k) e.denom) e))

/-- The denominations of some entries in make-up order. -/
def State.orderOf (s : State) (es : List TemplateEntry) : List Nat :=
  (makeupOrder (es.map fun e => s.makeLine 0 e)).map MakeLine.denom

end Sys2Proof.Machine
end

