-- ==== Sys2Proof/Machine/Requests.lean ====
section
/-! DEFINITION. The arbiter's request table (R146, R151, R153): giving, updating and withdrawing the requests of the count
unit, the till desk and the evacuation. -/

namespace Sys2Proof.Machine

def State.setArbiter (s : State) (a : Arbiter) : State := { s with arbiter := a }

/-- A deposit-class entry joins the tail of the waiting order where it does not stand in it (R151). -/
def Arbiter.join (a : Arbiter) (e : DepositEntry) : Arbiter :=
  if a.order.contains e then a else { a with order := a.order ++ [e] }

/-- A deposit-class entry leaves the waiting order (R151). -/
def Arbiter.leave (a : Arbiter) (e : DepositEntry) : Arbiter := { a with order := a.order.filter (· ≠ e) }

/-- A deposit-class entry moves to the tail of the waiting order (R151). -/
def Arbiter.toTail (a : Arbiter) (e : DepositEntry) : Arbiter := (a.leave e).join e

/-- The RUNNING run stops picking with cause CUT where it has no cause yet (R139). -/
def cutRun (s : State) : State :=
  let r := s.recycler.run
  if r.live ∧ r.cause = none then s.setRun { r with cause := some .cut } else s

/-- The count unit gives the deposit request of head `h` for lot `n` (R146). -/
def giveHead (h n : Nat) (s : State) : State :=
  let l := s.arbiter.heads.get [] h
  if l.contains n then s
  else s.setArbiter (Arbiter.join { s.arbiter with heads := s.arbiter.heads.set h (l ++ [n]) } (.head h))

/-- A DEPOSIT run for lot `n` is RUNNING. -/
def State.depositInService (s : State) (n : Nat) : Bool := s.runningKind .deposit && s.recycler.run.lot = some n

/-- The lot leaves the list of head `h`; an emptied entry is no longer given (R146). -/
def dropHead (h n : Nat) (s : State) : State :=
  let l := (s.arbiter.heads.get [] h).filter (· ≠ n)
  let a := { s.arbiter with heads := s.arbiter.heads.set h l }
  s.setArbiter (if l = [] then Arbiter.leave a (.head h) else a)

/-- The till desk gives the tray return request of build slot `k` (R66, R146). -/
def giveTrayReturn (k : Nat) (s : State) : State :=
  s.setArbiter (Arbiter.join { s.arbiter with trayReturn := some k } .trayReturn)

/-- The tray return entry is no longer given. -/
def dropTrayReturn (s : State) : State :=
  s.setArbiter (Arbiter.leave { s.arbiter with trayReturn := none } .trayReturn)

/-- The till desk gives or updates the dispense request (R57, R58, R146). -/
def giveDispense (k d n : Nat) (s : State) : State :=
  s.setArbiter { s.arbiter with dispense := some ⟨k, d, n⟩, dispenseWithdrawn := false }

/-- The dispense entry is no longer given. -/
def dropDispense (s : State) : State := s.setArbiter { s.arbiter with dispense := none, dispenseWithdrawn := false }

/-- The till desk withdraws the dispense request: at once while it waits; by a CUT of its run, and when that has closed,
while it is in service (R146). -/
def withdrawDispense (s : State) : State :=
  match s.arbiter.dispense with
  | none => s
  | some _ =>
    if s.runningKind .dispense then cutRun (s.setArbiter { s.arbiter with dispenseWithdrawn := true })
    else dropDispense s

/-- The evacuation gives its request (R165, R166). -/
def giveEvac (s : State) : State := s.setArbiter { s.arbiter with evacuate := true, evacuateWithdrawn := false }

/-- The evacuate entry is no longer given, and the skip count clears (R153). -/
def dropEvac (s : State) : State :=
  s.setArbiter { s.arbiter with evacuate := false, evacuateWithdrawn := false, skips := 0 }

/-- The evacuation withdraws its request (R146, R166). -/
def withdrawEvac (s : State) : State :=
  if !s.arbiter.evacuate then s
  else if s.runningKind .evacuate then cutRun (s.setArbiter { s.arbiter with evacuateWithdrawn := true })
  else dropEvac s

end Sys2Proof.Machine
end

