-- ==== Sys2Proof/Machine/Builds.lean ====
section
/-! DEFINITION. Builds on their way (R50 to R62): tray ownership, the dispense request of the owner, cuts and shortness. -/

namespace Sys2Proof.Machine

/-- The value now in the tray for a build. -/
def State.trayValue (s : State) (b : Build) : Nat := s.valueOf b.dispensed

/-- The value of the rolls that build slot `k` has reserved. -/
def State.reservedRolls (s : State) (k : Nat) : Nat :=
  match s.resEntry k with
  | some e => s.valueOf (s.rollsOf e.counts)
  | none => 0

/-- A build's dispense request is withdrawn where it is the one given. -/
def withdrawFor (k : Nat) (s : State) : State :=
  match s.arbiter.dispense with
  | some q => if q.slot = k then withdrawDispense s else s
  | none => s

/-- A build becomes SHORT and sends BUILD_SHORT (R62). -/
def becomeShort (k : Nat) (cause : ShortCause) (d : Nat) (s : State) : State :=
  match s.build k with
  | none => s
  | some b =>
    let s1 := withdrawFor k (s.setBuild k (some { b with
      state := .short, current := none, shortCause := some cause, shortDenom := some d, shortDue := none }))
    notify (.buildShort k b.till cause (some d) b.planned (s.trayValue b)
      (b.planned - (s.trayValue b + s.reservedRolls k))) s1

/-- The next NOTE denomination, in make-up order, with a remaining count above zero. -/
def State.nextDenom (s : State) (b : Build) : Option Nat :=
  (s.orderOf b.entries).find? fun d => Counts.of b.remaining d ≠ 0

/-- The first roll, in make-up order, that the build's cut set names. -/
def State.cutRoll (s : State) (b : Build) : Option Nat :=
  (s.orderOf b.entries).find? fun d => s.isRoll d && Marks.has b.cut d

/-- A build whose notes are all dispensed, or that has none, R59. -/
def notesDone (k : Nat) (b : Build) (s : State) : State :=
  match s.cutRoll b with
  | some d => becomeShort k .cut d s
  | none =>
    notify (.buildReady k b.till b.planned (s.trayValue b))
      (s.setBuild k (some { b with state := .awaitingHandover, current := none, shortDue := none }))

/-- The tray owner goes on to its next denomination, R57, R58, R60. -/
def nextDispense (k : Nat) (b : Build) (s : State) : State :=
  match s.nextDenom b with
  | none => notesDone k b s
  | some d =>
    if Marks.has b.cut d then becomeShort k .cut d s
    else
      giveDispense k d (Counts.of b.remaining d)
        (s.setBuild k (some { b with state := .dispensing, current := some d }))

/-- The oldest of some builds. -/
def oldest : List (Nat × Build) → Option (Nat × Build)
  | [] => none
  | (k, b) :: l =>
    match oldest l with
    | none => some (k, b)
    | some (j, c) => if b.age < c.age then some (k, b) else some (j, c)

/-- The occupied build slots with their builds. -/
def State.occupied (s : State) : List (Nat × Build) :=
  buildSlots.filterMap fun k => (s.build k).map fun b => (k, b)

/-- The oldest tray build, R51. -/
def State.oldestTrayBuild (s : State) : Option Nat :=
  (oldest (s.occupied.filter fun q => s.isTrayBuild q.2)).map Prod.fst

/-- A build's place in the order of acceptance among the occupied slots, from 1 for the oldest. -/
def State.agePlace (s : State) (b : Build) : Nat := (s.occupied.filter fun q => q.2.age < b.age).length + 1

/-- The age of the next accepted build: one above the greatest held. -/
def State.nextAge (s : State) : Nat := (s.occupied.map fun q => q.2.age).foldr Nat.max 0 + 1

/-- The book reports a cut of denomination `d` for the build of slot `k`, R21 and R60. A build that is to become SHORT
already keeps the cause it has (DESIGN CHOICE, log entry 64). -/
def cutReport (d : Nat) (k : Nat) (s : State) : State :=
  match s.build k with
  | none => s
  | some b0 =>
    let b := { b0 with cut := Marks.mark b0.cut d }
    let s1 := s.setBuild k (some b)
    match b.state with
    | .planned => becomeShort k .cut d s1
    | .awaitingHandover => becomeShort k .cut d s1
    | .dispensing =>
      if b.current = some d ∧ b.shortDue = none then
        withdrawFor k (s1.setBuild k (some { b with shortDue := some (.cut, d) }))
      else s1
    | .short => s1
    | .cancelling => s1

/-- The recycler reports denomination `d` unservable for the owner of slot `k`, R61. A cut of it that came first stays the
cause (DESIGN CHOICE, log entry 64). -/
def unservable (k d : Nat) (s : State) : State :=
  match s.build k with
  | some b =>
    if b.state = .dispensing ∧ b.current = some d ∧ b.shortDue = none ∧ Counts.of b.remaining d ≠ 0 then
      withdrawFor k (s.setBuild k (some { b with shortDue := some (.unservable, d) }))
    else s
  | none => s

/-- The builds' slot is freed and its till keeps its other fields (R66, R67). -/
def freeBuild (k : Nat) (s : State) : State := s.setBuild k none

/-- A note of denomination `d` is booked into TRAY for the owner of slot `k`, R18 and R58. -/
def noteForBuild (k d : Nat) (s : State) : State :=
  match s.build k with
  | some b =>
    changeEntry k (fun e => { e with counts := Counts.minus e.counts d 1 })
      (s.setBuild k (some { b with
        dispensed := Counts.plus b.dispensed d 1, remaining := Counts.minus b.remaining d 1 }))
  | none => s

/-- Notes of some counts leave TRAY: the CANCELLING owner's dispensed counts fall by them (R67). -/
def trayNotesLeft (c : Counts) (s : State) : State :=
  match s.desk.trayOwner with
  | some k =>
    match s.build k with
    | some b =>
      if b.state = .cancelling then s.setBuild k (some { b with dispensed := Counts.sub b.dispensed c }) else s
    | none => s
  | none => s

/-- A CANCELLING build whose notes have all left the tray, R67: the slot FREE, the till CLOSED, BUILD_READY. -/
def finishCancel (k : Nat) (b : Build) (s : State) : State :=
  notify (.buildCancelled k b.till)
    (freeBuild k ((dropTrayReturn s).setTill b.till { s.till b.till with state := .closed }))

/-! ### Builds that move of themselves -/

/-- The tray owner is freed: its slot is FREE or its build is no tray build any more (R51). -/
def trayFreed (s : State) : Option State :=
  match s.desk.trayOwner with
  | none => none
  | some k =>
    match s.build k with
    | none => some (s.setTrayOwner none)
    | some b => if s.isTrayBuild b then none else some (s.setTrayOwner none)

/-- The oldest tray build takes a tray without an owner (R51). -/
def trayTaken (s : State) : Option State :=
  match s.desk.trayOwner, s.oldestTrayBuild with
  | none, some k => some (s.setTrayOwner (some k))
  | _, _ => none

/-- A build's own next change, if one is due: a PLANNED build proceeds by R57; a DISPENSING one becomes SHORT when that is
due, or goes on when its current denomination is dispensed, once no run is in progress (R58, R60, R61). -/
def buildStep (k : Nat) (s : State) : Option State :=
  match s.build k with
  | none => none
  | some b =>
    match b.state with
    | .planned =>
      if !s.isTrayBuild b then some (notesDone k b s)
      else if s.desk.trayOwner = some k then some (nextDispense k b s)
      else none
    | .dispensing =>
      if s.dispenseInProgress k then none
      else
        match b.shortDue, b.current with
        | some (c, d), _ => some (becomeShort k c d s)
        | none, some d => if Counts.of b.remaining d = 0 then some (nextDispense k b s) else none
        | none, none => some (nextDispense k b s)
    | _ => none

/-- The first build, in slot order, with a change due. -/
def buildsStep : List Nat → State → Option State
  | [], _ => none
  | k :: ks, s =>
    match buildStep k s with
    | some t => some t
    | none => buildsStep ks s

end Sys2Proof.Machine
end

