-- ==== Sys2Proof/Machine/Movements.lean ====
section
/-! DEFINITION. Applying movements and groups of movements (R28, R29), with the availability cut that an application brings
about (R20, R21). -/

namespace Sys2Proof.Machine

/-! ### The availability cut, R20, R21 -/

/-- The cut of denomination `d`, where its reserved count exceeds its eligible stock, with one report to the till desk for
each entry reduced, in the order of the walk. -/
def cutDenom (d : Nat) (s : State) : State :=
  if s.excess d = 0 then s
  else
    let q := cutEntries d s
    State.each (cutReport d) q.2 q.1

/-- Every cut that is due, in ascending denomination order (log entry 50). -/
def cutDue (s : State) : State := State.each cutDenom denoms s

/-! ### Movements, R28 -/

/-- What a movement changes of counts, custody totals and reservation entries (R9, R14, R18). -/
def moveCounts (m : Movement) (s : State) : State :=
  issueFromEntry m (moveTotals m (giveTo m.dst m.pairs (takeFrom m.src m.pairs s)))

/-- CASSETTE_FULL for a movement into a cassette that held `before` items (R126). -/
def noticeInto (x : Side) (before : Nat) (s : State) : State :=
  match x.cassette with
  | some c => noticeFull c before s
  | none => s

/-- The items a cassette side holds. -/
def State.sideItems (s : State) (x : Side) : Nat :=
  match x.cassette with
  | some c => (s.posRec (cassettePos c)).counts.items
  | none => 0

/-- A checked movement is applied whole, R28: counts, custody totals and reservation entries; the availability cut; its
number and its posting; CASSETTE_FULL. No rule orders CASSETTE_FULL among the notices of the event: it is sent last, after
POSTINGS_WAITING and a BUILD_SHORT of the cut (DESIGN CHOICE, log entry 79). -/
def applyMovement (m : Movement) (s : State) : State :=
  noticeInto m.dst (s.sideItems m.dst) (numberAndPost m (cutDue (moveCounts m s)))

/-- A group of movements, R29: each is checked against what the earlier ones leave; all are applied or none is. A failure
names its place in the group, and the caller starts the count at 1: R29, R109 and R205 do not say from which number places
count (DESIGN CHOICE, log entry 69). -/
def applyGroup : Nat → List Movement → State → Except (Nat × Refused) State
  | _, [], s => .ok s
  | k, m :: ms, s =>
    match checkMovement m false s with
    | some r => .error (k, r)
    | none => applyGroup (k + 1) ms (applyMovement m s)

end Sys2Proof.Machine
end

