-- ==== Sys2Proof/Machine/Faults.lean ====
section
/-! DEFINITION. The first fault record, R200. -/

namespace Sys2Proof.Machine

/-- The kind of the run in progress, if one is RUNNING or in its purge cycle. -/
def State.runInProgress (s : State) : Option RunKind :=
  if s.recycler.run.inProgress then some s.recycler.run.kind else none

/-- A fault is handed to office control: it fills an EMPTY record, and sets later faults in a HELD one (R200). -/
def handFault (src : FaultSource) (kind : FaultKind) (s : State) : State :=
  { s with office := { s.office with
      firstFault := match s.office.firstFault with
        | none => some ⟨src, kind, s.clock, s.runInProgress, false⟩
        | some f => some { f with later := true } } }

end Sys2Proof.Machine
end

