-- ==== Sys2Proof/Machine/Lots.lean ====
section
/-! DEFINITION. Lots, count jobs and the stations that count them (Sections 4 and 5): a station's changes and notices, a
lot's way back to WAITING, stack commands, a stack that has left, the report taken, the end of a disposal, and the
assignment of jobs. -/

namespace Sys2Proof.Machine

/-! ### Stations -/

/-- The mechanism state is JAM or COVER_OPEN. -/
def mechAlarm (m : Option MechState) : Bool := m = some .jam || m = some .coverOpen

/-- STATION_STATE of station `n`, R98. -/
def noteStation (n : Nat) (s : State) : State :=
  notify (.stationState n (s.station n).state (s.station n).mech (s.station n).stack) s

/-- What an event does to station `n`, followed by one STATION_STATE where its state changed or its mechanism state came
into or out of JAM or COVER_OPEN (R98). A notice that `f` itself sends, such as COUNT_FAILED, comes before it: R87 and R91
name the station's change first and R95 the notice (DESIGN CHOICE, log entry 70). -/
def withStation (n : Nat) (f : State → State) (s : State) : State :=
  let t := f s
  if (t.station n).state ≠ (s.station n).state ∨ mechAlarm (t.station n).mech ≠ mechAlarm (s.station n).mech then
    noteStation n t
  else t

/-- Station `n` with its record changed by `f`. -/
def changeStation (n : Nat) (f : StationRec → StationRec) (s : State) : State := s.setStation n (f (s.station n))

/-- A command waits for the station's next turn. -/
def makePending (n : Nat) (c : StationCommand) (s : State) : State :=
  changeStation n (fun r => { r with pending := some c }) s

def StationRec.resetPending (r : StationRec) : Bool :=
  match r.pending with
  | some (.reset _) => true
  | _ => false

def StackCommand.record : StackCommand → StationCommand
  | .releaseIntake => .releaseIntake
  | .releaseHand => .releaseHand
  | .returnStack => .returnStack

/-- A stack command is given to station `n`, R94: it replaces a pending one. A station that is not attached takes none,
since its attachment gives the command that its lot's state calls for then (R88), and a pending STATION RESET stands (DESIGN
CHOICE, log entry 14). A lot rejected meanwhile and COUNTED elsewhere calls for none: the RETURN STACK of its REJECT COUNT is
then never given (DESIGN CHOICE, log entry 85). -/
def giveStack (n : Nat) (c : StackCommand) (s : State) : State :=
  let r := s.station n
  if r.state = .absent ∨ r.state = .attaching ∨ r.resetPending then s
  else s.setStation n { r with pending := some c.record, lastStack := some c }

/-- The lowest-numbered station whose stack lot is lot `n`. A stack returned for recount keeps its lot until it has left, so
a lot counted again elsewhere may be named by more than one (R117). -/
def State.stackStation (s : State) (n : Nat) : Option Nat :=
  stationNumbers.find? fun k => (s.station k).stackLot = some n

/-- The counting station of lot `n`, while it holds the lot's stack. -/
def State.countingHolder (s : State) (n : Nat) (l : LotRec) : Option Nat :=
  l.counting.filter fun k => (s.station k).stackLot = some n

/-- The station whose stack of lot `n` DISPOSE LOT RESERVE releases (R120): its counting station, or else the lowest-numbered
one that names it (DESIGN CHOICE, log entry 55). -/
def State.stackHolder (s : State) (n : Nat) (l : LotRec) : Option Nat :=
  (s.countingHolder n l).or (s.stackStation n)

/-- The FEEDER station whose stack of lot `n` RESUME DISPOSAL releases to its intake head, chosen in the same way (R94,
R120). -/
def State.feederHolder (s : State) (n : Nat) (l : LotRec) : Option Nat :=
  (s.countingHolder n l).or (stationNumbers.find? fun k => isFeeder k && (s.station k).stackLot = some n)

/-! ### Lots -/

/-- A lot with its report, its declared coin and its values at zero. -/
def LotRec.blank (l : LotRec) : LotRec :=
  { l with band0 := Counts.zero, band1 := Counts.zero, band2 := Counts.zero, band3 := Counts.zero,
           suspects := Counts.zero, coin := Counts.zero, countedValue := 0, suspectValue := 0 }

/-- The counted and suspect values of a lot at the present face values, R99. -/
def State.revalue (s : State) (l : LotRec) : LotRec :=
  { l with countedValue := s.valueOf l.counted, suspectValue := s.valueOf l.suspects }

/-- A lot's job moves to the head of the queue (R103). -/
def jobToHead (n : Nat) (s : State) : State :=
  if s.count.jobs.contains n then s.setJobs (n :: s.count.jobs.filter (· ≠ n)) else s

/-- A lot's job leaves the queue (R103). -/
def jobLeaves (n : Nat) (s : State) : State := s.setJobs (s.count.jobs.filter (· ≠ n))

/-- A lot goes back for recount: WAITING, its report and coin zero, its counting station absent, its recount count risen
where `bump` says so and never above 3, its job at the head (R105, R106, R117). -/
def recountLot (n : Nat) (bump : Bool) (s : State) : State :=
  match s.lot n with
  | some l =>
    jobToHead n (s.setLot n (some { l.blank with
      state := .waiting, counting := none,
      recounts := if bump then Nat.min Config.recountLimit (l.recounts + 1) else l.recounts }))
  | none => s

/-- The job of station `n` ends before its report is taken, R95 and R105. -/
def endJob (n : Nat) (cause : CountFailure) (s : State) : State :=
  match (s.station n).job with
  | some (_, l) =>
    notify (.countFailed l (some n) cause)
      (recountLot l (decide (cause ≠ .reset)) (changeStation n (fun r => { r with job := none }) s))
  | none => s

/-- A job ends with cause REPORT: the station is STACKED with no stack lot and RETURN STACK pending (R95). -/
def endJobReport (n : Nat) (s : State) : State :=
  endJob n .report (changeStation n (fun r => { r with
    state := .stacked, stackLot := none, pending := some .returnStack, lastStack := some .returnStack }) s)

/-- A job ends with cause MECHANISM: the station is FAULTED, and the fault is handed over (R95, R200). A command that still
waits, as a BEGIN COUNT does when JAM answers a POLL sent before the job was assigned, is dropped (DESIGN CHOICE, log entry
45). -/
def endJobMechanism (n : Nat) (s : State) : State :=
  endJob n .mechanism (handFault (.station n) .mechanism
    (changeStation n (fun r => { r with state := .faulted, pending := none }) s))

/-- The number of genuine notes and of suspects of a lot. -/
def LotRec.noteTotal (l : LotRec) : Nat := l.genuineCounts.items
def LotRec.suspectTotal (l : LotRec) : Nat := l.suspects.items

/-- COUNT_DONE of lot `n`, R105. -/
def countDone (n : Nat) (l : LotRec) : NoticeBody :=
  .countDone n l.source l.counting l.noteTotal l.suspectTotal l.countedValue l.suspectValue l.declared

/-- A VOID lot is released once no station's stack lot names it, R118. -/
def voidRelease (n : Nat) (s : State) : State :=
  match s.lot n with
  | some l => if l.state = .void ∧ s.stackStation n = none then requestRelease (lotPos n) s else s
  | none => s

/-- A lot whose book counts are all zero after acceptance: DISPOSED, LOT_DISPOSED, its release asked (R115). -/
def finishLot (n : Nat) (s : State) : State :=
  match s.lot n with
  | some l =>
    requestRelease (lotPos n)
      (notify (.lotDone n l.source l.disposal l.countedValue) (s.setLot n (some { l with state := .disposed })))
  | none => s

/-- A disposal stops: DISPOSE_INTERRUPTED, and LOT_DISPOSED with the counts still held (R114). -/
def interruptLot (n : Nat) (s : State) : State :=
  match s.lot n with
  | some l =>
    notify (.lotInterrupted n (s.posRec (lotPos n)).counts)
      (s.setLot n (some { l with state := .disposeInterrupted }))
  | none => s

/-- A COUNTED lot whose stack has gone without a command goes back for recount, R106. -/
def stackLost (n station : Nat) (s : State) : State :=
  notify (.countFailed n (some station) .stackLost) (recountLot n true s)

/-- A head's deposit entry names lot `n`. -/
def State.headNames (s : State) (n : Nat) : Bool := s.arbiter.heads.list.any fun l => l.contains n

/-- What becomes of the lot of a stack that has left a STACKED station, R94, R106, R114, R118; `cmd` is the command last
given. The station's stack lot is already absent. A COUNTED lot's notes are at its counting station alone (R106). A DISPOSING
lot whose stack leaves without RELEASE STACK INTAKE gets no deposit request and is not interrupted: it stays DISPOSING (DESIGN
CHOICE, log entry 84). -/
def lotStackLeft (n station : Nat) (cmd : Option StackCommand) (s : State) : State :=
  match s.lot n with
  | none => s
  | some l =>
    match l.state with
    | .counted => if l.hasNotes ∧ l.counting = some station ∧ cmd = none then stackLost n station s else s
    | .disposing => if cmd = some .releaseIntake then giveHead (station - 1) n s else s
    | .void => voidRelease n s
    | _ => s

/-- What becomes of the lot of a stack found gone at attachment, R88, R106, R114, R118. A DISPOSING lot is interrupted when
the station is its counting station, or when its counting station has given up its stack and no intake head has it yet, so
that this station's stack was the one to be released (log entry 55). -/
def lotStackGone (n station : Nat) (s : State) : State :=
  match s.lot n with
  | none => s
  | some l =>
    match l.state with
    | .counted => if l.hasNotes ∧ l.counting = some station then stackLost n station s else s
    | .disposing =>
      if l.counting = some station ∨ (s.countingHolder n l = none ∧ s.headNames n = false) then interruptLot n s else s
    | .void => voidRelease n s
    | _ => s

/-- The stack command that the state of lot `n` calls for at the attachment of station `k`, R88. RELEASE STACK with
destination INTAKE is given to FEEDER stations only (R94). R88 does not name a lot that is COUNTING, because it is being
recounted at another station: its earlier stack is returned, as for the WAITING lot it was (DESIGN CHOICE, log entry 54).
Nor does it name a DISPOSED or FREE lot, for which no command is made pending (DESIGN CHOICE, log entry 54). For a COUNTED
lot it makes none pending, also at a station that is not its counting station (log entry 85). -/
def State.attachCommand (s : State) (k n : Nat) : Option StackCommand :=
  match s.lot n with
  | some l =>
    match l.state with
    | .disposing => if isFeeder k then some .releaseIntake else none
    | .waiting | .counting | .void => some .returnStack
    | .counted | .disposed | .disposeInterrupted => none
  | none => none

/-! ### The report, R93, R105 -/

def bandOf (f : ItemRecord → Nat) (l : List ItemRecord) : Counts := pairCounts (l.map fun i => ⟨i.denom, f i⟩)

def ItemRecord.notes (i : ItemRecord) : Nat := i.band0 + i.band1 + i.band2 + i.band3

/-- The contents of a whole report pass the checks of R93. -/
def State.reportGood (s : State) (job : Nat) (h : HeadRecord) (items : List ItemRecord) (e : EndRecord) : Bool :=
  h.job = job && e.job = job && 1 ≤ h.items && h.items ≤ 12 && items.length = h.items
    && items.all (fun i => i.denom < 12 && s.isNote i.denom) && distinct (items.map ItemRecord.denom)
    && h.notes = (items.map ItemRecord.notes).foldr (· + ·) 0
    && h.suspects = (items.map ItemRecord.suspects).foldr (· + ·) 0
    && e.total = h.notes + h.suspects

/-- The report of station `n` is taken into lot `l`, R93 and R105. -/
def takeReport (n l : Nat) (items : List ItemRecord) (s : State) : State :=
  let s1 := changeStation n (fun r => { r with
    job := none, stackLot := some l, pending := none, misses := 0, state := .stacked, lastStack := none }) s
  match s1.lot l with
  | some r =>
    let r1 := s1.revalue { r with
      state := .counted, band0 := bandOf ItemRecord.band0 items, band1 := bandOf ItemRecord.band1 items,
      band2 := bandOf ItemRecord.band2 items, band3 := bandOf ItemRecord.band3 items,
      suspects := bandOf ItemRecord.suspects items }
    notify (countDone l r1) (s1.setLot l (some r1))
  | none => s1

/-! ### The end of a deposit run, R114 -/

/-- The count unit examines lot `n` at the end of a run from intake head `h`: the lot that the run was made for, and none
that waits behind it in the head's entry (DESIGN CHOICE, log entry 65). -/
def depositEnd (h n : Nat) (s : State) : State :=
  match s.lot n with
  | some l =>
    if l.state ≠ .disposing then s
    else if (s.notesOf (s.posRec (lotPos n)).counts).isZero then finishLot n (dropHead h n s)
    else if !s.headLoaded h then interruptLot n (dropHead h n s)
    else s
  | none => s

/-! ### Assignment, R104 -/

/-- A lot may be counted at station `n`. -/
def LotRec.mayUse (l : LotRec) (n : Nat) : Bool :=
  match l.station with
  | some (.one k) => k = n
  | some .any => true
  | _ => false

/-- The lowest-numbered offerable station that the waiting job of lot `n` may use. A station whose STATION RESET is still
to be sent gets no job, so that the reset is sent on its next turn as R96 says; R104 does not name it (DESIGN CHOICE, log
entry 14). -/
def State.stationFor (s : State) (n : Nat) : Option Nat :=
  match s.lot n with
  | some l =>
    if l.state = .waiting then
      stationNumbers.find? fun k => l.mayUse k && s.offerable k && !(s.station k).resetPending
    else none
  | none => none

/-- A job is given to a station: the lot COUNTING, the station BUSY with BEGIN COUNT pending (R90, R104). -/
def assignJob (n station : Nat) (s : State) : State :=
  let j := nextNumber 255 s.count.jobCounter
  let s1 := { s with count := { s.count with jobCounter := j } }
  let s2 := match s1.lot n with
    | some l => s1.setLot n (some { l with state := .counting, counting := some station })
    | none => s1
  withStation station (changeStation station fun r => { r with
    state := .busy, job := some (j, n), pending := some (.beginCount j), attempts := 0 }) s2

/-- The first waiting job, in queue order, that a station can take. -/
def State.nextAssignment (s : State) : List Nat → Option (Nat × Nat)
  | [] => none
  | n :: ns =>
    match s.stationFor n with
    | some k => some (n, k)
    | none => s.nextAssignment ns

/-- Assignment gives out one job where one can be given (R104); it does not run while the office is not TRADING. -/
def assignStep (s : State) : Option State :=
  if s.office.mode = .trading then (s.nextAssignment s.count.jobs).map fun q => assignJob q.1 q.2 s else none

end Sys2Proof.Machine
end

