-- ==== Sys2Proof/Machine/Recycler.lean ====
section
/-! DEFINITION. The recycler's modules and cassettes (Sections 6 and 8): module states, fault buckets, placement and
dispense selection, the evacuation's start, pause, completion and stranding. -/

namespace Sys2Proof.Machine

/-! ### Modules, R123, R124 -/

/-- A module takes a state and start step; a change of state sends MODULE_STATE (R123). -/
def enterModule (m : Nat) (st : ModState) (step : StartStep) (s : State) : State :=
  let r := s.module m
  let s1 := s.setModRec m { r with state := st, step := step }
  if r.state = st then s1 else notify (.moduleState m st r.state) s1

/-- A module in service becomes FAULTED. -/
def faultModule (m : Nat) (s : State) : State := if s.inService m then enterModule m .faulted .tags s else s

/-- Both modules, where in service, become FAULTED. -/
def faultBoth (s : State) : State := faultModule 1 (faultModule 0 s)

/-- A module in service is DEGRADED or IN_SERVICE by its cassettes, R124. -/
def gradeModule (m : Nat) (s : State) : State :=
  if s.inService m then enterModule m (s.serviceState m) .tags s else s

/-- A module whose grade has changed. -/
def gradeStep (s : State) : Option State :=
  (allModules.find? fun m => s.inService m && decide ((s.module m).state ≠ s.serviceState m)).map fun m =>
    gradeModule m s

def State.faultPresent (s : State) (m : Nat) : Bool := (s.module m).fault

/-- Every module in SAFE_OPEN enters STARTING at TAGS (R124, R198). -/
def startModules (s : State) : State :=
  State.each (fun m s => if (s.module m).state = .safeOpen then enterModule m .starting .tags s else s) allModules s

/-! ### Buckets, R158, R159 -/

def changeCassette (c : Nat) (f : CasRec → CasRec) (s : State) : State := s.setCassette c (f (s.cassette c))

/-- AT_THRESHOLD is set on a cassette, and its notice sent (R159). -/
def setThreshold (c : Nat) (s : State) : State :=
  let r := s.cassette c
  notify (.atThreshold c r.role r.denom r.bucket s.evac.threshold (s.posRec (cassettePos c)).counts.items)
    (s.setCassette c { r with atThreshold := true })

/-- AT_THRESHOLD is due on a cassette: its bucket has reached the threshold and the flag is clear. -/
def State.thresholdDue (s : State) (c : Nat) : Bool :=
  s.evac.threshold ≤ (s.cassette c).bucket && !(s.cassette c).atThreshold

/-- The bucket of a present cassette rises by a weight (Table 8-1, R159). -/
def raiseBucket (c w : Nat) (s : State) : State :=
  if !(s.cassette c).present then s
  else
    let s1 := changeCassette c (fun r => { r with bucket := Nat.min Config.bucketTop (r.bucket + w) }) s
    if s1.thresholdDue c then setThreshold c s1 else s1

/-- A good note at a cassette, R158. -/
def goodNote (c : Nat) (s : State) : State :=
  changeCassette c (fun r =>
    if s.evac.leakNotes ≤ r.good + 1 then { r with bucket := r.bucket - 1, good := 0 }
    else { r with good := r.good + 1 }) s

/-! ### Placement, R134 -/

/-- A way is eligible for a note of denomination `d`. -/
def State.wayEligible (s : State) (d c : Nat) : Bool :=
  let r := s.cassette c
  r.present && (r.role = .recycle || r.role = .depositOnly) && r.denom = some d && r.noFlags
    && s.inService (moduleOf c)
    && (s.posRec (cassettePos c)).counts.items + s.recycler.run.pathTo (cassettePos c) < r.capacity

/-- The indices of a range's ways in circular order from its pointer. -/
def Range.circle (r : Range) : List Nat := (List.range r.ways.length).map fun i => (r.next + i) % r.ways.length

/-- The index of the first eligible way of a range. -/
def State.wayOf (s : State) (d : Nat) (r : Range) : Option Nat :=
  r.circle.find? fun i => match r.ways[i]? with | some c => s.wayEligible d c | none => false

/-- The first of some ranges that takes a note, trying each lower one until a range without ways: the range's index
(from `k`), the way's index and the cassette. -/
def State.placeIn (s : State) (d : Nat) : Nat → List Range → Option (Nat × Nat × Nat)
  | _, [] => none
  | k, r :: rs =>
    if r.ways = [] then none
    else
      match s.wayOf d r with
      | some i => match r.ways[i]? with
        | some c => some (k, i, c)
        | none => none
      | none => s.placeIn d (k + 1) rs

/-- The number of ranges above the one that covers band `g`. -/
def rangesAbove (g : Nat) (l : List Range) : Nat := (l.takeWhile fun r => g < r.limit).length

/-- Where a note of denomination `d` and band `g` is placed; none for escrow. -/
def State.place (s : State) (d g : Nat) : Option (Nat × Nat × Nat) :=
  let l := s.ranges d
  s.placeIn d (rangesAbove g l) (l.drop (rangesAbove g l))

/-- The pointer of range `k` of `d` moves to the way after `i`. -/
def movePointer (d k i : Nat) (s : State) : State :=
  s.setRanges d (mapFrom (fun j r => if j = k then { r with next := (i + 1) % r.ways.length } else r) 0 (s.ranges d))

/-! ### Dispense selection, R136 -/

/-- The better of two cassettes to dispense from: the higher book count, then the lower slot. -/
def State.richer (s : State) (d : Nat) : List Nat → Option Nat
  | [] => none
  | c :: l =>
    match s.richer d l with
    | none => some c
    | some b => if s.held (cassettePos c) d < s.held (cassettePos b) d then some b else some c

/-- The cassette a DISPENSE run picks `d` from. -/
def State.chooseCassette (s : State) (d : Nat) (left : List Nat) : Option Nat :=
  s.richer d (allCassettes.filter fun c => s.canDispense d c left)

/-! ### The evacuation, R163 to R168 -/

def State.setEvac (s : State) (e : Evacuation) : State := { s with evac := e }

/-- A way that names the source is rewritten to name the spare, or removed where the range already names it (R167). -/
def rewriteRange (src spare : Nat) (r : Range) : Range :=
  if !r.ways.contains src then r
  else if r.ways.contains spare then
    let i := r.ways.idxOf src
    let ways := r.ways.filter (· ≠ src)
    let next := if i < r.next then r.next - 1 else r.next
    { r with ways := ways, next := if next = ways.length then 0 else next }
  else { r with ways := r.ways.map fun c => if c = src then spare else c }

/-- The number of ways that name a cassette. -/
def State.waysNaming (s : State) (c : Nat) : Nat :=
  (s.recycler.routes.list.map fun l => (l.filter fun r => r.ways.contains c).length).foldr (· + ·) 0

def rewriteWays (src spare : Nat) (s : State) : State :=
  { s with recycler := { s.recycler with
      routes := s.recycler.routes.map fun l => l.map (rewriteRange src spare) } }

/-- The last retired cassette of a module. -/
def setRetired (src : Nat) (tag : Option Nat) (e : Evacuation) : Evacuation :=
  { e with retired := e.retired.set (moduleOf src) (some (src, tag)) }

/-- The spare takes the source's role (R167, R168). -/
def spareTakesRole (src spare : Nat) (s : State) : State :=
  changeCassette spare (fun r => { r with role := (s.cassette src).role, evacSpare := false }) s

/-- An evacuation completes, R167. -/
def completeEvac (src spare : Nat) (s : State) : State :=
  let e := s.evac
  let ways := s.waysNaming src
  let s1 := rewriteWays src spare (spareTakesRole src spare s)
  let s2 := changeCassette src (fun r => { r with role := .retired, evacSource := false, atThreshold := false }) s1
  let s3 := dropEvac (s2.setEvac (setRetired src (s.cassette src).tag
    { e with state := .idle, source := none, spare := none, pause := none, standing := [], last := some .done }))
  notify (.evacuationDone src spare e.atStart e.moved ways) s3

/-- An evacuation strands, R168. -/
def strandEvac (src spare : Nat) (s : State) : State :=
  let e := s.evac
  let s1 := rewriteWays src spare (spareTakesRole src spare s)
  let s2 := changeCassette src (fun r => { r with role := .retired, evacSource := false, stranded := true }) s1
  let s3 := dropEvac (s2.setEvac (setRetired src (s.cassette src).tag
    { e with state := .stranded, spare := none, pause := none, standing := [], last := some .stranded }))
  notify (.evacuationStranded src spare e.moved (s.posRec (cassettePos src)).counts.items) s3

/-- The evacuation completes where its source's count is 0 and no run of it is in service: examined at a run's closing, at
an ADJUST and at its start (R165, R166). -/
def evacExamine (s : State) : State :=
  match s.evacPair with
  | some (a, b) =>
    if (s.posRec (cassettePos a)).counts.isZero ∧ !s.evacRunInService then completeEvac a b s else s
  | none => s

/-- What the evacuation does when its run has closed: it completes, strands when that is due, or goes on (R166, R168).
`due` says that the request was withdrawn at the third consecutive failure. A source that is empty completes it also where a
strand is due: R166 and R168 both apply there (DESIGN CHOICE, log entry 90). -/
def evacRunClosed (due : Bool) (s : State) : State :=
  match s.evacPair with
  | some (a, b) =>
    if (s.posRec (cassettePos a)).counts.isZero then completeEvac a b s
    else if due || Config.pickLimit ≤ s.evac.failures then strandEvac a b s
    else s
  | none => s

/-- A DISPENSE run that picks from cassette `a` leaves it at once, with no pick point until it chooses again (R136, R165). -/
def leaveSource (a : Nat) (s : State) : State :=
  let r := s.recycler.run
  if r.live ∧ r.kind = .dispense ∧ r.cause = none ∧ r.pick = some a then
    s.setRun { r with left := r.left ++ [a], pick := none, failed := 0 }
  else s

/-- An evacuation of cassette `a` into spare `b` starts, R165. -/
def startEvac (a b : Nat) (forced : Bool) (s : State) : State :=
  let n := (s.posRec (cassettePos a)).counts.items
  let d := (s.cassette a).denom
  let s1 := changeCassette a (fun r => { r with evacSource := true })
    (changeCassette b (fun r => { r with denom := d, evacSpare := true }) s)
  let s2 := s1.setEvac { s1.evac with
    state := .active, source := some a, spare := some b, forced := forced, atStart := n, moved := 0, failures := 0,
    pause := none, standing := [] }
  let s3 := notify (.evacuationStarted a b d n forced) (gradeModule (moduleOf a) (leaveSource a s2))
  evacExamine (giveEvac s3)

/-- An automatic start, R163. -/
def autoEvac (s : State) : Option State :=
  if s.evac.state = .idle ∧ s.office.mode = .trading then
    match s.candidates with
    | c :: _ => (s.spareFor c).map fun b => startEvac c b false s
    | [] => none
  else none

/-- A strand is due at the closing of the run that is open. -/
def State.strandDue (s : State) : Bool := s.arbiter.evacuateWithdrawn && s.evacRunOpen

/-- The cause a PAUSED record carries when the causes `now` stand: the first that has arisen since the last examination and
comes before the recorded cause in Table 8-3, and otherwise the recorded cause (R166). -/
def Evacuation.causeNow (e : Evacuation) (now : List PauseCause) : Option PauseCause :=
  match e.pause with
  | some p => (now.find? fun c => !e.standing.contains c && c.place < p.place).or (some p)
  | none => none

/-- An ACTIVE evacuation pauses once no run of it is in service; a PAUSED one takes a cause that arises, where it comes
earlier, or resumes when no cause stands (R166). A cause that arose and ended again while the run was in service does not
pause it (DESIGN CHOICE, log entry 25). -/
def pauseStep (s : State) : Option State :=
  match s.evac.state, s.pauseCauses with
  | .active, c :: cs =>
    if s.evacRunInService || s.strandDue then none
    else some (dropEvac (s.setEvac { s.evac with state := .paused, pause := some c, standing := c :: cs }))
  | .paused, c :: cs =>
    if s.evac.standing = c :: cs then none
    else some (s.setEvac { s.evac with pause := s.evac.causeNow (c :: cs), standing := c :: cs })
  | .paused, [] => some (giveEvac (s.setEvac { s.evac with state := .active, pause := none, standing := [] }))
  | _, _ => none

end Sys2Proof.Machine
end

