-- ==== Sys2Proof/Machine/Runs.lean ====
section
/-! DEFINITION. Transport runs (Sections 6 and 7): the grant, the booking of each note, the end causes, the closing group,
the purge cycle, and what each requester does when its run has closed. -/

namespace Sys2Proof.Machine

/-! ### The deposit account, R148 -/

/-- A note counted in notes moved changes the deposit account. -/
def accountNote (k : RunKind) (s : State) : State :=
  let a := s.arbiter
  let up := if k = .deposit then Nat.min a.settings.clip (a.account + a.settings.ratio) else a.account
  s.setArbiter { a with account := up - a.settings.decr }

/-! ### Booking a note, R13, R138 -/

/-- The position carries the in-run mark from now on. -/
def markInRun (p : Nat) (s : State) : State := s.setPosRec p { s.posRec p with inRun := true }

/-- A note joins the pair list: the entry of its source and destination, created at the first note (R30, R137). -/
def addPair (src dst d : Nat) : List PairEntry → List PairEntry
  | [] => [⟨src, dst, Counts.plus Counts.zero d 1⟩]
  | e :: l =>
    if e.src = src ∧ e.dst = dst then { e with counts := Counts.plus e.counts d 1 } :: l
    else e :: addPair src dst d l

/-- The destination is a purge position. -/
def isPurgePos (p : Nat) : Bool := match posKind p with | .purge _ => true | _ => false

/-- The cassettes a booked note moved through cleanly, R158. -/
def goodNotes (src dst : Nat) (s : State) : State :=
  let f := fun p s => match posKind p with | .cassette c => goodNote c s | _ => s
  f dst (f src s)

/-- What the requester learns of a note booked for it: the build of a DISPENSE run, the evacuation, the tray of a
TRAY_RETURN run (R58, R67, R166). -/
def tellNote (r : Run) (d : Nat) (s : State) : State :=
  match r.kind, r.requester with
  | .dispense, .slot k => noteForBuild k d s
  | .evacuate, _ => s.setEvac { s.evac with moved := s.evac.moved + 1, failures := 0 }
  | .trayReturn, _ => trayNotesLeft (Counts.plus Counts.zero d 1) s
  | _, _ => s

/-- Where a run books its notes: a cassette, the tray or a purge position (R138, R140). -/
def isRunDest (p : Nat) : Bool :=
  match posKind p with
  | .cassette _ | .tray => true
  | .purge m => m < 2
  | .reserve | .lot _ | .container _ | .suspect => false

/-- A cassette can take one more note from position `src`: it is there and of the note's denomination, it is below its
capacity (R126), and where it is of the evacuation's pair the pair's notes still fit the spare (R162; log entry 20). -/
def State.cassetteTakes (s : State) (src d c : Nat) : Bool :=
  let r := s.cassette c
  r.present && r.denom = some d && (s.posRec (cassettePos c)).counts.items < r.capacity &&
    (match s.evacPair with
      | some (a, b) => !(c = a || c = b) || src = cassettePos a || src = cassettePos b ||
          (s.posRec (cassettePos a)).counts.items + (s.posRec (cassettePos b)).counts.items < (s.cassette b).capacity
      | none => true)

/-- The book can take the note: its source holds one, and its destination takes notes of runs and has room for one (log
entry 20). -/
def State.canBook (s : State) (n : PathNote) (dst : Nat) : Bool :=
  0 < s.held n.src n.denom && s.held dst n.denom < Config.maxCount && isRunDest dst &&
    (match posKind dst with
      | .cassette c => s.cassetteTakes n.src n.denom c
      | _ => true)

/-- A note from position `n.src` is booked into position `dst`: in-run marks, counts, pair list, CASSETTE_FULL, and for
a note counted in notes moved the good-note counters, the account and its requester (R13, R126, R138, R148, R158). -/
def bookNote (n : PathNote) (dst : Nat) (s : State) : State :=
  let r := s.recycler.run
  let before := (s.posRec dst).counts.items
  let s1 := markInRun dst (markInRun n.src s)
  let s2 := giveTo (.pos dst) [⟨n.denom, 1⟩] (takeFrom (.pos n.src) [⟨n.denom, 1⟩] s1)
  let s3 := s2.setRun { s2.recycler.run with pairs := addPair n.src dst n.denom r.pairs }
  let s4 := match posKind dst with
    | .cassette c => noticeFull c before s3
    | _ => s3
  if isPurgePos dst then
    trayNotesLeft (if n.src = trayPos then Counts.plus Counts.zero n.denom 1 else Counts.zero) s4
  else
    let s5 := s4.setRun { s4.recycler.run with moved := r.moved + 1 }
    tellNote r n.denom (accountNote r.kind (goodNotes n.src dst s5))

/-- A booked escrow note arrives in the pocket, R135. -/
def escrowNote (d : Nat) (s : State) : State :=
  let r := s.recycler.run
  accountNote r.kind
    (s.setRun { r with escrowed := Counts.plus r.escrowed d 1, moved := r.moved + 1 })

/-- A foreign note is diverted at the reader, R135. -/
def foreignNote (s : State) : State :=
  let r := s.recycler.run
  accountNote r.kind (s.setRun { r with foreign := r.foreign + 1, moved := r.moved + 1, failed := 0 })

/-- A note arrives: it leaves the path and is booked (R138). -/
def arriveNote (n : PathNote) (s : State) : State :=
  let s1 := s.setRun { s.recycler.run with path := s.recycler.run.path.erase n }
  match n.dest with
  | .escrow => escrowNote n.denom s1
  | .pos p => if s.canBook n p then bookNote n p s1 else s1

/-- The run picks a note into the path; failed picks become 0 (R138, R140). -/
def pickNote (n : PathNote) (s : State) : State :=
  let r := s.recycler.run
  s.setRun { r with path := r.path ++ [n], failed := 0 }

/-! ### Picks -/

/-- A further note may be picked within the note limit, R138. -/
def Run.roomToPick (r : Run) : Bool := r.moved + r.path.length < r.limit

/-- The cassette a run picks from now. -/
def State.pickCassette (s : State) : Option Nat :=
  match s.recycler.run.kind with
  | .dispense => s.recycler.run.pick
  | .evacuate => s.evac.source
  | _ => none

/-- The present pick of a cassette run: the note it would send, where picking goes on (R138). -/
def State.cassettePick (s : State) : Option PathNote :=
  let r := s.recycler.run
  if r.live && r.cause = none && r.roomToPick then
    match s.pickCassette with
    | some c =>
      match (s.cassette c).denom with
      | some d =>
        if r.pathFrom (cassettePos c) d < s.held (cassettePos c) d then
          match r.kind, s.evac.spare with
          | .dispense, _ => some ⟨cassettePos c, d, .pos trayPos⟩
          | .evacuate, some b => some ⟨cassettePos c, d, .pos (cassettePos b)⟩
          | _, _ => none
        else none
      | none => none
    | none => none
  else none

/-! ### End causes, R139 -/

/-- The run's request is satisfied. -/
def State.runDone (s : State) : Bool :=
  let r := s.recycler.run
  match r.kind, r.requester with
  | .dispense, .slot k =>
    match s.build k, r.denom with
    | some b, some d => Counts.of b.remaining d = 0
    | _, _ => false
  | .trayReturn, _ => denoms.all fun d => s.held trayPos d ≤ Counts.of r.escrowed d
  | .evacuate, _ => match s.evac.source with
    | some a => (s.posRec (cassettePos a)).counts.isZero
    | none => false
  | _, _ => false

/-- A RUNNING run takes an end cause where it has none. -/
def endRun (c : EndCause) (s : State) : State :=
  let r := s.recycler.run
  if r.live ∧ r.cause = none then s.setRun { r with cause := some c } else s

/-- A DISPENSE run that has a pick to make and no cassette to make it from chooses one, or ends (R136). With no room in the
note limit it has no pick to make: a last pick that empties the only cassette ends the run LIMIT or DONE, and the
denomination is reported unservable at the next grant only (DESIGN CHOICE, log entry 72). -/
def chooseStep (s : State) : Option State :=
  let r := s.recycler.run
  match r.denom with
  | some d =>
    let good := match r.pick with
      | some c => s.canDispense d c r.left
      | none => false
    if r.kind = .dispense && r.roomToPick && !good then
      match s.chooseCassette d r.left with
      | some c => some (s.setRun { r with pick := some c, failed := 0 })
      | none => some (endRun .noSource s)
    else none
  | none => none

/-- The causes a run comes to of itself: DONE, LIMIT, NO_SOURCE (R136, R139). -/
def causeStep (s : State) : Option State :=
  let r := s.recycler.run
  if r.live ∧ r.cause = none then
    if s.runDone then some (endRun .done s)
    else if r.limit ≤ r.moved then some (endRun .limit s)
    else chooseStep s
  else none

/-! ### The closing group, R30, R139, R143 -/

/-- The kind of a run-end movement. -/
def runMoveKind (k : RunKind) (dst : Nat) : MoveKind :=
  if isPurgePos dst then .purge
  else match k with
    | .deposit => .deposit
    | .dispense => .dispense
    | .trayReturn => .trayReturn
    | .evacuate => .evacuate

/-- The run-end movement of a pair list entry. -/
def runEndMove (k : RunKind) (e : PairEntry) : Movement :=
  ⟨runMoveKind k e.dst, .pos e.src, .pos e.dst, pairsOf e.counts, [], none⟩

/-- The escrow movement of a run: from its lot, or from the tray, to RESERVE. -/
def escrowMove (r : Run) : Option Movement :=
  match pairsOf r.escrowed, r.kind, r.lot with
  | [], _, _ => none
  | q :: qs, .deposit, some n => some ⟨.escrowReturn, .pos (lotPos n), .pos reservePos, q :: qs, [], none⟩
  | q :: qs, .trayReturn, _ => some ⟨.trayReturn, .pos trayPos, .pos reservePos, q :: qs, [], none⟩
  | _, _, _ => none

/-- The counts in path from position `p`. -/
def Run.pathCounts (r : Run) (p : Nat) : Counts := Tab.ofFn 12 (r.pathFrom p)

/-- The sources of the notes in path, each once, in ascending order. -/
def Run.pathSources (r : Run) : List Nat := (List.range 177).filter fun p => r.path.any fun n => n.src = p

/-- The PURGE movements of the notes in path, into bin `m`: one for each source, which R143 and R144 do not order; the model
takes them in ascending position number (DESIGN CHOICE, log entry 78). -/
def purgeMoves (r : Run) (m : Nat) : List Movement :=
  r.pathSources.map fun p => ⟨.purge, .pos p, .pos (purgePos m), pairsOf (r.pathCounts p), [], none⟩

/-- A run-end movement of notes already booked is numbered and posted (R30). -/
def postRunEnd (s : State) (m : Movement) : State := numberAndPost m s

/-- A movement of the closing group applied in full; the notes it takes from the tray leave the CANCELLING build. -/
def closeMove (m : Movement) (s : State) : State :=
  let s1 := applyMovement m s
  if m.src.isTray then trayNotesLeft (pairCounts m.pairs) s1 else s1

/-- The movements of a closing group that are checked and applied in full (R30): all of them, or none where one fails. -/
def closeMoves : List Movement → State → Option State
  | [], s => some s
  | m :: ms, s =>
    match checkMovement m true s with
    | some _ => none
    | none => closeMoves ms (closeMove m s)

/-- The in-run mark of a position clears, and its pending release completes where it can (R12, R13). -/
def clearInRun (p : Nat) (s : State) : State :=
  let r := s.posRec p
  if r.inRun then tryRelease p (s.setPosRec p { r with inRun := false }) else s

/-- The movements a run's closing adds to its run-end movements: escrow, then the notes in path purged into `bin` where one
is given (R30, R139, R143). -/
def Run.addedMoves (r : Run) (bin : Option Nat) : List Movement :=
  (escrowMove r).toList ++ (match bin with | some m => purgeMoves r m | none => [])

/-- The closing group: the run-end movements and the added ones as one group of R29, of which nothing is numbered or applied
where a checked movement fails (log entry 21); then the in-run marks clear and the pending releases complete. -/
def closingGroup (bin : Option Nat) (s : State) : State :=
  let r := s.recycler.run
  let s1 := (r.pairs.map (runEndMove r.kind)).foldl postRunEnd s
  State.each clearInRun (List.range 177) ((closeMoves (r.addedMoves bin) s1).getD s)

/-- How many movements the group numbered: the counter's steps from `a` to `b`. -/
def stepsBetween (a b : Nat) : Nat := if a ≤ b then b - a else b + Config.top32 - a

/-! ### The requester and the arbiter when a run has closed, R58, R67, R114, R156 -/

/-- A deposit-class entry still given goes to the tail of the waiting order. -/
def entryToTail (e : DepositEntry) (s : State) : State :=
  if s.arbiter.order.contains e then s.setArbiter (s.arbiter.toTail e) else s

/-- The dispense entry after a dispense run: not given when it was withdrawn or is satisfied, and otherwise for the
remaining count; a NO_SOURCE end with a remaining count is reported as unservable (R58, R61, R136, R146). -/
def dispenseClosed (k : Nat) (r : Run) (s : State) : State :=
  let s1 :=
    if s.arbiter.dispenseWithdrawn then dropDispense s
    else
      match s.build k, s.arbiter.dispense with
      | some b, some q =>
        if q.slot = k then
          (if Counts.of b.remaining q.denom = 0 then dropDispense s
            else giveDispense k q.denom (Counts.of b.remaining q.denom) s)
        else s
      | _, _ => s
  match r.cause, r.denom with
  | some .noSource, some d => unservable k d s1
  | _, _ => s1

/-- The tray return entry after a TRAY_RETURN run (R67). -/
def trayClosed (s : State) : State :=
  match s.arbiter.trayReturn with
  | some k =>
    match s.build k with
    | some b =>
      if b.state = .cancelling ∧ (s.posRec trayPos).counts.isZero then finishCancel k b s
      else entryToTail .trayReturn s
    | none => s
  | none => s

/-- The end of run `r` is reported to its requester and to the arbiter. -/
def reportEnd (r : Run) (s : State) : State :=
  match r.kind, r.requester with
  | .deposit, .head h =>
    entryToTail (.head h) (match r.lot with | some n => depositEnd h n s | none => s)
  | .dispense, .slot k => dispenseClosed k r s
  | .trayReturn, _ => trayClosed s
  | .evacuate, _ => evacRunClosed s.arbiter.evacuateWithdrawn s
  | _, _ => s

/-- What the end of a run cut off by power loss still brings about: the evacuation completes or strands (R168, R169). That
the request had been withdrawn is not retained: a strand that was due is made only where the retained failures still show
it, and the evacuation goes on where a later note had set them to 0 (DESIGN CHOICE, log entry 76). -/
def recoveredEnd (r : Run) (s : State) : State :=
  if r.kind = .evacuate then evacRunClosed false s else s

/-- The run closes: the closing group, the record IDLE, the end reported (R139, R143), and the evacuation examined (R166).
Every other field of the record clears here, although R138 clears them at the next grant (DESIGN CHOICE, log entry 66). -/
def closeRun (bin : Option Nat) (s : State) : State :=
  let r := s.recycler.run
  let s1 := (closingGroup bin s).setRun Run.idle
  evacExamine (if r.interrupted then recoveredEnd r s1 else reportEnd r s1)

/-- A run that has stopped picking and has no note in path closes. -/
def closeStep (s : State) : Option State :=
  let r := s.recycler.run
  if r.live && r.cause ≠ none && r.path = [] then some (closeRun none s) else none

/-! ### The purge cycle, R143 -/

/-- The bin for a jam or a fault: the one wished for, the other where that module is faulty, none where both are. -/
def State.purgeBin (s : State) (m : Nat) : Option Nat :=
  if !s.faultPresent m then some m
  else if !s.faultPresent (otherModule m) then some (otherModule m)
  else none

/-- The RUNNING run stops with cause JAM or FAULT and its purge cycle starts into the bin, or, with no bin to take, the
record becomes UNCLOSED and both modules FAULTED (R141, R142). -/
def stopRun (c : EndCause) (wish : Nat) (s : State) : State :=
  let r := s.recycler.run
  match s.purgeBin wish with
  | some m =>
    (s.setRun { r with state := .purging, cause := some c, bin := some m }).setPurge (some ⟨m, false⟩)
  | none => faultBoth (s.setRun { r with state := .unclosed, cause := some c })

/-- The modules whose fault is still present when a run's purge cycle ends become FAULTED (R142). -/
def faultStill (s : State) : State :=
  State.each (fun m s => if s.faultPresent m then faultModule m s else s) allModules s

/-- A purge cycle ends FAILED, R143: the bin's module FAULTED, the fault handed over, a PURGING run UNCLOSED, and so a RUNNING
one of before a power loss (DESIGN CHOICE, log entry 89). A start-up cycle's module is FAULTED from STARTING (Table 6-2). The
source of the fault is the module whose bin was used (DESIGN CHOICE, log entry 92). -/
def purgeFailed (c : PurgeCycle) (s : State) : State :=
  let r := s.recycler.run
  let s1 := handFault (.module c.bin) .purge (s.setPurge none)
  let s2 := if c.startUp then enterModule c.bin .faulted .tags s1 else faultModule c.bin s1
  let s3 := if r.state = .purging ∨ (r.state = .running ∧ r.interrupted) then
      s2.setRun { s2.recycler.run with state := .unclosed } else s2
  if r.state = .purging ∧ !c.startUp then faultStill s3 else s3

/-- A cycle closes the run record: a run's own cycle closes its PURGING record, a start-up cycle whatever record is left
(R143, R144). -/
def PurgeCycle.closes (c : PurgeCycle) (r : Run) : Bool :=
  if c.startUp then r.state ≠ .idle else r.state = .purging && !r.interrupted

/-- PURGE_RECOVERED after a CLEAR cycle, R143 and R144. Where the closing group was refused nothing was booked as PURGE, and
the notice lists no counts and no numbers (DESIGN CHOICE, log entry 21). -/
def recoveredNotice (c : PurgeCycle) (r : Run) (closed : Bool) (notes before after : Nat) : NoticeBody :=
  let numbers := if closed then moveNumbers before (stepsBetween before after) else []
  .purgeRecovered c.bin (if numbers.isEmpty then [] else r.pathSources.map fun p => (p, r.pathCounts p)) notes numbers

/-- A purge cycle ends CLEAR with `notes` arrived in its bin, R143, R144 and Table 6-2. -/
def purgeClear (c : PurgeCycle) (notes : Nat) (s : State) : State :=
  let r := s.recycler.run
  let closed := c.closes r
  let s0 := s.setPurge none
  let s1 := if c.startUp then
      (if s0.faultPresent c.bin then enterModule c.bin .faulted .tags s0
        else enterModule c.bin (s0.serviceState c.bin) .tags s0)
    else if closed then faultStill s0 else s0
  let s2 := if closed then closeRun (some c.bin) s1 else s1
  if closed || 0 < notes then
    notify (recoveredNotice c r closed notes s.book.moveCounter s2.book.moveCounter) s2
  else s2

/-- The safe door sensor reads OPEN: a RUNNING run ends with cause DOOR, a purge cycle is abandoned, and the modules
become SAFE_OPEN (R124, R139, R143). R143 makes a PURGING record UNCLOSED: so becomes a RUNNING one of before a power loss
where a purge cycle is in progress, and with none it stays as it is (DESIGN CHOICE, log entry 89). -/
def safeOpened (s : State) : State :=
  let r := s.recycler.run
  let s1 := if r.live then s.setRun { r with state := .unclosed, cause := some .door }
    else if s.recycler.purge ≠ none ∧ (r.state = .purging ∨ r.state = .running) then s.setRun { r with state := .unclosed } else s
  let s2 := s1.setPurge none
  State.each (fun m s => if (s.module m).state = .offline then s else enterModule m .safeOpen .tags s) allModules s2

/-- A module at PURGE_WAIT starts its start-up purge cycle when the spine carries no run and no cycle, module 0 first
(R143). -/
def purgeStart (s : State) : Option State :=
  let r := s.recycler.run
  if s.recycler.purge = none && (r.state = .idle || r.state = .unclosed || r.interrupted) then
    (allModules.find? fun m => (s.module m).state = .starting && (s.module m).step = .purgeWait).map fun m =>
      (s.setModRec m { s.module m with step := .purging }).setPurge (some ⟨m, true⟩)
  else none

/-! ### Grants, R149, R150 -/

/-- What the arbiter grants. -/
inductive Grant where
  | deposit (e : DepositEntry)
  | dispense (q : DispenseReq)
  | evacuate
  deriving DecidableEq, Repr

/-- The grant rule, R150, with grants open. -/
def State.grantRule (s : State) : Option Grant :=
  let a := s.arbiter
  let dep := a.order.head?
  let disp := if s.dispenseGrantable then a.dispense else none
  match s.windowIsOpen, disp with
  | true, some q => some (.dispense q)
  | _, _ =>
    if s.evacGrantable && (s.promoted || a.settings.patience ≤ a.skips) then some .evacuate
    else
      match dep, disp with
      | some e, some q => if a.account ≤ a.settings.limit then some (.deposit e) else some (.dispense q)
      | some e, none => some (.deposit e)
      | none, some q => some (.dispense q)
      | none, none => if s.evacGrantable then some .evacuate else none

/-- A run record at its grant, R138. -/
def Run.granted (k : RunKind) (q : Requester) (lot d : Option Nat) (limit : Nat) : Run :=
  { Run.idle with state := .running, kind := k, requester := q, lot := lot, denom := d, limit := limit }

/-- The skip count after a grant to an entry other than the evacuate entry, R153. -/
def skipOver (s : State) : State :=
  if s.arbiter.evacuate then s.setArbiter { s.arbiter with skips := Nat.min Config.skipTop (s.arbiter.skips + 1) } else s

/-- A grant is made, R138, R149. -/
def grant (g : Grant) (s : State) : State :=
  let n := s.arbiter.settings.runLength
  match g with
  | .deposit (.head h) =>
    let r := Run.granted .deposit (.head h) (s.arbiter.heads.get [] h).head? none n
    (skipOver s).setRun (if s.headLoaded h then r else { r with cause := some .sourceEmpty })
  | .deposit .trayReturn =>
    (skipOver s).setRun (Run.granted .trayReturn (.slot (s.arbiter.trayReturn.getD 0)) none none n)
  | .dispense q =>
    (skipOver s).setRun (Run.granted .dispense (.slot q.slot) none (some q.denom) (Nat.min n q.remaining))
  | .evacuate =>
    (s.setArbiter { s.arbiter with skips := 0 }).setRun (Run.granted .evacuate .evacuation none none n)

/-- The arbiter grants one run where grants are open and a request waits (R149). -/
def grantStep (s : State) : Option State :=
  if s.grantsOpen then s.grantRule.map fun g => grant g s else none

/-- Preemption, R155. -/
def preemptStep (s : State) : Option State :=
  let a := s.arbiter
  let go := match a.settings.preemption with
    | .never => false
    | .inWindow => s.windowIsOpen
    | .always => s.windowIsOpen || decide (a.settings.limit < a.account)
  if s.runningKind .deposit && s.recycler.run.cause = none && s.dispenseGrantable && go then some (cutRun s) else none

end Sys2Proof.Machine
end

