-- ==== Sys2Proof/Machine/BayOps.lean ====
section
/-! DEFINITION. The bay at work (Section 9): consignment states and windows, the two doors with their locks and alarms,
the reads at both doors, the release of a container, and an abort. -/

namespace Sys2Proof.Machine

/-! ### Consignments, R177, R180 -/

def ConsRec.doneCount (c : ConsRec) : Nat := (c.items.filter fun i => i.done).length

/-- A consignment takes a state; a change sends CONSIGNMENT_STATE (R177). -/
def enterCons (k : Nat) (st : ConsState) (s : State) : State :=
  match s.consignment k with
  | some c =>
    if c.state = st then s
    else
      notify (.consignmentState k c.kind c.route st c.state c.items.length c.doneCount)
        (s.setConsignment k (some { c with state := st }))
  | none => s

/-- A consignment is examined for its window, R180. -/
def examineWindow (k : Nat) (s : State) : State :=
  match s.consignment k with
  | some c =>
    if (c.state = .staged ∨ c.state = .waiting) ∧ c.windowClose ≤ s.clock then enterCons k .expired s
    else if c.state = .staged ∧ c.windowOpen ≤ s.clock then enterCons k .waiting s
    else s
  | none => s

/-- The bay controller examines every window, as at each change of the clock (R180). -/
def examineWindows (s : State) : State := State.each examineWindow consignmentSlots s

/-! ### Doors, R181, R182 -/

def State.setDoors (s : State) (d : Doors) : State := { s with doors := d }

def State.door (s : State) : Door → DoorRec
  | .office => s.doors.office
  | .courier => s.doors.courier

def State.setDoor (s : State) (d : Door) (r : DoorRec) : State :=
  match d with
  | .office => s.setDoors { s.doors with office := r }
  | .courier => s.setDoors { s.doors with courier := r }

def alarmDoor : Door → AlarmDoor
  | .office => .office
  | .courier => .courier

def doorSource : Door → FaultSource
  | .office => .officeDoor
  | .courier => .courierDoor

/-- The door's FORCED alarm is raised, where it does not stand: DOOR_ALARM and a fault (R182, R200). -/
def raiseForced (d : Door) (s : State) : State :=
  if (s.door d).forced then s
  else
    handFault (doorSource d) .forced
      (notify (.doorAlarm (alarmDoor d) .forced s.clock) (s.setDoor d { s.door d with forced := true }))

/-- The door's HELD_OPEN alarm is raised, where it does not stand (R182, R200). -/
def raiseHeldOpen (d : Door) (s : State) : State :=
  if (s.door d).heldOpen then s
  else
    handFault (doorSource d) .heldOpen
      (notify (.doorAlarm (alarmDoor d) .heldOpen s.clock) (s.setDoor d { s.door d with heldOpen := true }))

/-- The door has read OPEN for longer than the limit (R182). -/
def State.heldTooLong (s : State) (d : Door) : Bool :=
  match (s.door d).openTime with
  | some t => s.bay.doorLimit < t
  | none => false

/-- The door's sensor reads OPEN: its open time starts, and FORCED is raised where it is LOCKED (R182). -/
def sensorOpened (d : Door) (s : State) : State :=
  let r := s.door d
  if r.sensorOpen then s
  else
    let s1 := s.setDoor d { r with sensorOpen := true, openTime := some 0 }
    if r.locked then raiseForced d s1 else s1

/-- The door's sensor reads CLOSED: its open time ends and its alarms clear (R182), with one DOOR_ALARM where both stood
(DESIGN CHOICE, log entry 68). -/
def sensorClosed (d : Door) (s : State) : State :=
  let r := s.door d
  let s1 := s.setDoor d { r with sensorOpen := false, openTime := none, forced := false, heldOpen := false }
  if r.alarm then notify (.doorAlarm (alarmDoor d) .cleared s.clock) s1 else s1

def unlockDoor (d : Door) (s : State) : State := s.setDoor d { s.door d with locked := false, lockDue := false }

/-- The other door. -/
def otherDoor : Door → Door
  | .office => .courier
  | .courier => .office

/-- A door may be unlocked only while the other is LOCKED with its sensor reading CLOSED (R181). -/
def State.mayUnlock (s : State) (d : Door) : Bool := (s.door (otherDoor d)).secure

/-! ### Loading, retrieval and the office door, R183, R188 -/

/-- The state of an item's container. -/
def State.itemState (s : State) (i : Item) : Option ContState :=
  match i.container with
  | some n => (s.container n).map (·.state)
  | none => none

/-- Every item of the consignment is PLACED. -/
def State.allPlaced (s : State) (c : ConsRec) : Bool := c.items.all fun i => s.itemState i = some .placed

/-- The unlocked office door is due to lock: no loading and no retrieval needs it (R181, R183, R188). -/
def State.officeDue (s : State) : Bool :=
  (match s.consIn .loading with
    | some k => match s.consignment k with
      | some c => s.allPlaced c
      | none => true
    | none => true)
    && (!s.doors.retrieval || !s.anyRetrievable)

/-- The office door locks: a loading whose items are all PLACED is STAGED and examined for its window, and a retrieval
closes (R183, R188). -/
def lockOffice (s : State) : State :=
  let s1 := s.setDoors { s.doors with
    office := { s.doors.office with locked := true, lockDue := false }, retrieval := false }
  match s1.consIn .loading with
  | some k =>
    match s1.consignment k with
    | some c => if s1.allPlaced c then examineWindow k (enterCons k .staged s1) else s1
    | none => s1
  | none => s1

/-- The lock of an unlocked office door: made where it is due with the sensor CLOSED, due where the door is open, and not
due otherwise (R181). -/
def settleOffice (s : State) : State :=
  let r := s.doors.office
  if r.locked then s
  else if s.officeDue then
    if r.sensorOpen then s.setDoors { s.doors with office := { r with lockDue := true } } else lockOffice s
  else s.setDoors { s.doors with office := { r with lockDue := false } }

/-- The office unlock the controller owes is made once the courier door is LOCKED with its sensor CLOSED (R181, R189). -/
def owedUnlock (s : State) : State :=
  if s.doors.unlockOwed ∧ s.mayUnlock .office then
    let s1 := s.setDoors { s.doors with unlockOwed := false }
    unlockDoor .office s1
  else s

/-- What follows every event at the bay: an owed unlock, and the office door's lock. -/
def bayAfter (s : State) : State := settleOffice (owedUnlock s)

/-- The courier door's lock falls due: made while its sensor reads CLOSED, and due until then otherwise (R181). -/
def lockCourier (s : State) : State :=
  let c := s.doors.courier
  s.setDoors { s.doors with
    courier := if c.sensorOpen then { c with lockDue := true } else { c with locked := true, lockDue := false }
    courierTimer := none }

/-- The office door is unlocked for a retrieval: at once, or owed until the courier door allows it (R189). -/
def openRetrieval (s : State) : State :=
  let s1 := s.setDoors { s.doors with retrieval := true }
  if !s1.doors.office.locked then s1
  else if s1.mayUnlock .office then unlockDoor .office s1
  else s1.setDoors { s1.doors with unlockOwed := true }

/-! ### Containers, R176 -/

/-- The container slot that holds a container number. -/
def State.containerNumbered (s : State) (n : Nat) : Option Nat :=
  containerSlots.find? fun k => match s.container k with | some c => c.number = n | none => false

/-- A container is RELEASING, with no declared counts any more (R171), and the book is asked to release its slot (R176). -/
def releaseContainer (n : Nat) (s : State) : State :=
  match s.container n with
  | some c =>
    requestRelease (containerPos n)
      (s.setContainer n (some { c with
        state := .releasing, consignment := none, declared := none, countLot := none }))
  | none => s

/-- The slot of a claim that is given up again: it holds no count and no mark, so it is FREE in the same event (R176). -/
def unclaim (n : Nat) (s : State) : State := requestRelease (containerPos n) s

def reject (d : Door) (n : Nat) (c : RejectCause) (s : State) : State := notify (.readerReject d n c) s

/-- Item `i` of the consignment replaced. -/
def setItem (k i : Nat) (x : Item) (s : State) : State :=
  match s.consignment k with
  | some c => s.setConsignment k (some { c with items := c.items.set i x })
  | none => s

def ConsRec.itemIndex (c : ConsRec) (n : Nat) : Option Nat := c.items.findIdx? fun i => i.number = n

/-! ### Reads, R183, R186, R188 -/

/-- A container is moved to a state and a location. -/
def moveContainer (n : Nat) (st : ContState) (l : Location) (s : State) : State :=
  match s.container n with
  | some c => s.setContainer n (some { c with state := st, location := l })
  | none => s

/-- The container of an item of the LOADING consignment, by the number read. -/
def ConsRec.loadingContainer (c : ConsRec) (n : Nat) : Option Nat :=
  match c.items.find? fun i => i.number = n with
  | some i => i.container
  | none => none

/-- An office-side read while consignment `c` is LOADING, R183. -/
def loadingRead (c : ConsRec) (n : Nat) (s : State) : State :=
  match c.loadingContainer n with
  | some k =>
    match s.container k with
    | some r =>
      if r.state = .assigned ∧ r.location = .office then moveContainer k .placed .bay s
      else if r.state = .placed then moveContainer k .assigned .office s
      else reject .office n .notExpected s
    | none => reject .office n .notExpected s
  | none => reject .office n .notExpected s

/-- An office-side read while a retrieval is open, R188. -/
def retrievalRead (n : Nat) (s : State) : State :=
  match s.containerNumbered n with
  | some k =>
    if s.retrievable k then
      match s.container k with
      | some r => s.setContainer k (some { r with location := .office })
      | none => s
    else reject .office n .notExpected s
  | none => reject .office n .notExpected s

/-- The office-side reader reads a number. -/
def officeRead (n : Nat) (s : State) : State :=
  match s.consIn .loading with
  | some k =>
    match s.consignment k with
    | some c => bayAfter (loadingRead c n s)
    | none => s
  | none =>
    if s.doors.retrieval then bayAfter (retrievalRead n s)
    else reject .office n .notActive s

/-- The engage operators of a consignment as a movement carries them. -/
def ConsRec.opList (c : ConsRec) : List Nat := match c.ops with | some (a, b) => [a, b] | none => []

/-- A collection item is handed out at the courier door, R186. -/
def handOut (k i n : Nat) (c : ConsRec) (x : Item) (slot : Nat) (s : State) : State :=
  let m : Movement :=
    ⟨.handoverOut, .pos (containerPos slot), .carrier k, pairsOf (s.posRec (containerPos slot)).counts, c.opList, none⟩
  let done := fun s => releaseContainer slot (setItem k i { x with done := true, container := none } s)
  if m.pairs = [] then done s
  else
    match checkMovement m false s with
    | some r => reject .courier n (.refused r.status) s
    | none => done (applyMovement m s)

/-- A delivery item is received at the courier door, R186. The item keeps the container's slot, also when that container is
released later (DESIGN CHOICE, log entry 32). -/
def takeIn (k i n : Nat) (c : ConsRec) (x : Item) (s : State) : State :=
  match s.freeContainers with
  | [] => reject .courier n (.refused .noSlot) s
  | slot :: _ =>
    let s1 := claimSlot (containerPos slot) s
    let m : Movement := ⟨.deliveryIn, .carrier k, .pos (containerPos slot), x.counts, c.opList, none⟩
    match checkMovement m false s1 with
    | some r => reject .courier n (.refused r.status) (unclaim slot s1)
    | none =>
      setItem k i { x with done := true, container := some slot }
        ((applyMovement m s1).setContainer slot
          (some ⟨.received, n, .bag, .bay, some k, some (pairCounts x.counts), none⟩))

/-- A collection item may be handed out: its container is PLACED, or ASSIGNED, and in the bay. -/
def State.handable (s : State) (slot : Nat) : Bool :=
  match s.container slot with
  | some r => (r.state = .placed || r.state = .assigned) && r.location = .bay
  | none => false

/-- The courier-side reader reads a number, R186. -/
def courierRead (n : Nat) (s : State) : State :=
  match s.consIn .transferring with
  | none => reject .courier n .notActive s
  | some k =>
    match s.consignment k with
    | none => s
    | some c =>
      match c.itemIndex n with
      | none => reject .courier n .notExpected s
      | some i =>
        match c.items[i]? with
        | none => s
        | some x =>
          if x.done then reject .courier n .repeated s
          else
            match c.kind, x.container with
            | .collection, some slot =>
              if s.handable slot then handOut k i n c x slot s else reject .courier n .notExpected s
            | .collection, none => reject .courier n .notExpected s
            | .delivery, _ => takeIn k i n c x s

/-! ### The courier door, R185, R187 -/

/-- The containers that name consignment `k`, changed by `f`. -/
def eachContainerOf (k : Nat) (f : ContRec → ContRec) (s : State) : State :=
  { s with bay := { s.bay with containers := s.bay.containers.map fun r =>
      match r with
      | some c => if c.consignment = some k then some (f c) else some c
      | none => none } }

/-- The courier door closes on a transfer, R187. -/
def transferClosed (k : Nat) (c : ConsRec) (s : State) : State :=
  let s1 := lockCourier s
  if c.items.all (·.done) then
    enterCons k .complete (eachContainerOf k (fun r => { r with consignment := none }) s1)
  else
    enterCons k .partly
      (match c.kind with
        | .collection => eachContainerOf k (fun r => { r with state := .assigned }) s1
        | .delivery => s1)

/-- An ENGAGED consignment's door was not opened in time, R185. -/
def engageTimedOut (k : Nat) (c : ConsRec) (s : State) : State :=
  bayAfter (examineWindow k (enterCons k (c.returnState.getD .waiting) (lockCourier s)))

/-! ### Abort, R189 -/

/-- What ABORT does to a consignment that is neither COMPLETE, ABORTED nor TRANSFERRING. -/
def abortCons (k : Nat) (c : ConsRec) (s : State) : State :=
  let s1 := if c.state = .engaged then lockCourier s else s
  let s2 := match c.kind with
    | .collection => eachContainerOf k (fun r =>
        if r.state = .assigned ∨ r.state = .placed then { r with state := .closed, consignment := none } else r) s1
    | .delivery => eachContainerOf k (fun r => { r with consignment := none }) s1
  let s3 := enterCons k .aborted s2
  bayAfter (if s3.anyRetrievable then openRetrieval s3 else s3)

end Sys2Proof.Machine
end

