-- ==== Sys2Proof/Machine/React.lean ====
section
/-! DEFINITION. What the blocks do of themselves in the event that completes its conditions: each rule below says one such
change, and `settle` makes them, one after another in a fixed order, until none is due. A command's meaning that can
complete any of these conditions ends with it. -/

namespace Sys2Proof.Machine

/-- The availability cut, where some denomination is due to be cut (R20, R21). -/
def cutStep (s : State) : Option State :=
  if denoms.any fun d => 0 < s.excess d then some (cutDue s) else none

/-- The safe is unlocked: UNLOCKED with its relock timer running, or OPEN where the sensor reads OPEN (R197). -/
def unlockSafe (s : State) : State :=
  let f := s.office.safe
  s.setSafe (if f.sensorOpen then { f with state := .opened, wasOpened := true, timer := none }
    else { f with state := .unlocked, wasOpened := false, timer := some s.office.relockTime })

/-- A PENDING opening is made once the spine is idle and the forced mark clear (R197). -/
def safeStep (s : State) : Option State :=
  if s.office.safe.state = .pending && s.spineIdle && !s.office.safe.forced then some (unlockSafe s) else none

/-- HOLD_PENDING becomes HOLD, R193. -/
def holdStep (s : State) : Option State :=
  if s.office.mode = .holdPending && s.holdConditions then some (notify (.holdReached s.clock) (s.setMode .hold))
  else none

/-- The changes made before an automatic evacuation starts, in their order. -/
def firstReactions : List (State → Option State) :=
  [causeStep, closeStep, gradeStep, cutStep, trayFreed, trayTaken, buildsStep buildSlots, pauseStep]

/-- The changes made after it. -/
def lastReactions : List (State → Option State) :=
  [purgeStart, preemptStep, safeStep, holdStep, assignStep, grantStep]

/-- The changes that may be due, in the order in which they are made (log entry 5). -/
def reactions : List (State → Option State) := firstReactions ++ autoEvac :: lastReactions

/-- The same without the start of an evacuation: what follows CLEAR BUCKET (R161). -/
def clearReactions : List (State → Option State) := firstReactions ++ lastReactions

/-- The first of some changes that is due. -/
def firstDue : List (State → Option State) → State → Option State
  | [], _ => none
  | f :: fs, s =>
    match f s with
    | some t => some t
    | none => firstDue fs s

/-- No change is due. -/
def quiet (s : State) : Bool := (firstDue reactions s).isNone

/-- At most `n` changes of the list are made, one after another, until none is due. -/
def settleFor (l : List (State → Option State)) : Nat → State → State
  | 0, s => s
  | n + 1, s =>
    match firstDue l s with
    | some t => settleFor l n t
    | none => s

/-- Every change that is due is made, and the event ends with every cut made (R21). -/
def settle (s : State) : State := cutDue (settleFor reactions Config.reactionFuel s)

/-- The changes that follow CLEAR BUCKET: no evacuation starts (R161, log entry 53). -/
def settleClear (s : State) : State := cutDue (settleFor clearReactions Config.reactionFuel s)

end Sys2Proof.Machine
end

