-- ==== Sys2Proof/Machine/StartUp.lean ====
section
/-! DEFINITION. The start-up sequence of R209, at power-on and at RESTART, and what each block's start-up changes leave. -/

namespace Sys2Proof.Machine

/-- Runs `f` with an empty notice queue and gives back what it leaves with the old queue, and the notices it raised. -/
def collect (f : State → State) (s : State) : State × List NoticeBody :=
  let t := f { s with link := { s.link with notices := [], noticeNumber := 0, noticeLost := false } }
  ({ t with link := s.link }, t.link.notices.map (·.body))

/-- `collect` along a list of numbers: all the notices raised, in order. -/
def collectEach (f : Nat → State → State) : List Nat → State → State × List NoticeBody
  | [], s => (s, [])
  | n :: ns, s =>
    let (s1, l1) := collect (f n) s
    let (s2, l2) := collectEach f ns s1
    (s2, l1 ++ l2)

/-! ### Store loss, R24, R209 -/

/-- Every block at its store-loss state. Sensors are what they read, and commands still wait. -/
def storeLoss (s : State) : State :=
  { s with
    book := Book.initial, desk := Desk.initial, count := CountUnit.initial
    recycler := Recycler.initial, arbiter := Arbiter.start ArbSettings.initial
    evac := Evacuation.initial, bay := Bay.initial
    office := { Office.initial with safe := s.office.safe } }

/-! ### The blocks' start-up changes -/

/-- The book: the waiting notice is armed where the retained depth allows it (R41). -/
def startBook (s : State) : State :=
  { s with book := { s.book with armed := decide (s.book.queue.length ≤ Config.waitingMark) } }

/-- A station at a start, R84: all but its stack lot as it is after power-on. -/
def StationRec.start (keep : Option Nat) : StationRec := { StationRec.initial with stackLot := keep }

/-- A station at a start keeps its stack lot where `keep` says so. -/
def startStation (keep : Nat → Bool) (r : StationRec) : StationRec :=
  StationRec.start (match r.stackLot with
    | some n => if keep n then some n else none
    | none => none)

/-- The lot is DISPOSE_INTERRUPTED. -/
def State.lotInterrupted (s : State) (n : Nat) : Bool :=
  match s.lot n with
  | some l => l.state = .disposeInterrupted
  | none => false

/-- A lot at a start, R119; the stations are already without jobs and their stack lots not yet judged. -/
def startLot (n : Nat) (s : State) : State :=
  match s.lot n with
  | none => s
  | some l =>
    match l.state with
    | .counting | .counted =>
      notify (.countFailed n l.counting .restart) (s.setLot n (some { l.blank with
        state := .waiting, counting := none, recounts := Nat.min Config.recountLimit (l.recounts + 1) }))
    | .disposing => interruptLot n s
    | _ => s

/-- The lots that a start sends back to WAITING. -/
def State.lotsSentBack (s : State) : List Nat :=
  (List.range 64).filter fun n => match s.lot n with
    | some l => l.state = .counting || l.state = .counted
    | none => false

/-- Puts a lot into a list in ascending creation number. -/
def State.byCreation (s : State) (n : Nat) : List Nat → List Nat
  | [] => [n]
  | x :: l =>
    if ((s.lot n).map (·.creation)).getD 0 < ((s.lot x).map (·.creation)).getD 0 then n :: x :: l
    else x :: s.byCreation n l

/-- The job queue at a start: the jobs of the lots sent back, in ascending creation number, then the others (R119). -/
def State.startJobs (s : State) : List Nat :=
  let back := (s.lotsSentBack.filter s.count.jobs.contains).foldr s.byCreation []
  back ++ s.count.jobs.filter fun n => !back.contains n

/-- The count unit at a start, R84, R119. -/
def startCountUnit (s : State) : State × List NoticeBody :=
  let jobs := s.startJobs
  let (s1, l) := collectEach startLot (List.range 64) s
  let s2 := { s1 with count := { s1.count with
    jobs := jobs, jobCounter := 0,
    stations := s1.count.stations.map (startStation s1.lotInterrupted) } }
  (State.each voidRelease (List.range 64) { s2 with line := Line.initial }, l)

/-- The recycler at a start, R122, R123, R124, R137: both modules leave OFFLINE at once. -/
def startRecycler (s : State) : State :=
  let st : ModRec := if s.office.safe.sensorOpen then ⟨.safeOpen, .tags, false⟩ else ⟨.starting, .tags, false⟩
  let r := s.recycler.run
  { s with
    recycler := { s.recycler with
      modules := Tab.fill 2 st, heads := Tab.fill 2 false, purge := none
      run := if r.state = .idle then r else { r with interrupted := true } }
    arbiter := Arbiter.start s.arbiter.settings }

/-- The evacuation at a start, R169, with the modules already where they start: ACTIVE is PAUSED with cause RESTART, and a
PAUSED record keeps its cause. The causes that stand now are those of the start and have not arisen since. -/
def startEvacuation (s : State) : State :=
  match s.evac.state with
  | .active => s.setEvac { s.evac with state := .paused, pause := some .restart, standing := s.pauseCauses }
  | .paused => s.setEvac { s.evac with standing := s.pauseCauses }
  | .idle | .stranded => s

/-- Every denomination's cut of R22, with the (slot, denomination) reports in order. -/
def startCuts : List Nat → State → State × List (Nat × Nat)
  | [], s => (s, [])
  | d :: ds, s =>
    let (s1, l) := cutEntries d s
    let (s2, m) := startCuts ds s1
    (s2, l.map (fun k => (k, d)) ++ m)

/-- A build at a start with the denominations its entry was cut in, R68. -/
def startBuild (k : Nat) (cuts : List Nat) (s : State) : State :=
  match s.build k with
  | none => s
  | some b0 =>
    let b := { b0 with cut := cuts.foldl Marks.mark b0.cut }
    let s1 := s.setBuild k (some b)
    match b.state, cuts with
    | .dispensing, _ => becomeShort k .restart (b.current.getD 0) s1
    | .planned, d :: _ => becomeShort k .cut d s1
    | .awaitingHandover, d :: _ => becomeShort k .cut d s1
    | _, _ => s1

/-- The tray owner at a start: a build with dispensed notes, otherwise the oldest tray build (R68). -/
def State.startOwner (s : State) : Option Nat :=
  match s.occupied.find? fun q => !q.2.dispensed.isZero with
  | some q => some q.1
  | none => s.oldestTrayBuild

/-- A CANCELLING build gives its tray return request again, R68. -/
def startCancelling (k : Nat) (s : State) : State :=
  match s.build k with
  | some b => if b.state = .cancelling then giveTrayReturn k s else s
  | none => s

/-- The till desk and the reservations at a start, R22, R68. -/
def startDesk (s : State) : State × List NoticeBody :=
  let (s1, cuts) := startCuts denoms s
  let mine := fun k => (cuts.filter fun q => q.1 = k).map Prod.snd
  let (s2, l) := collectEach (fun k => startBuild k (mine k)) buildSlots s1
  (State.each startCancelling buildSlots (s2.setTrayOwner s2.startOwner), l)

/-- A consignment at a start, R190. -/
def startCons (k : Nat) (s : State) : State :=
  match s.consignment k with
  | none => s
  | some c =>
    match c.state with
    | .engaged | .transferring =>
      enterCons k .interrupted (match c.kind with
        | .collection => eachContainerOf k (fun r => { r with state := .assigned }) s
        | .delivery => s)
    | .loading => if s.allPlaced c then examineWindow k (enterCons k .staged s) else s
    | _ => examineWindow k s

/-- A bay door at a start: LOCKED, no mark, no alarm; a sensor reading OPEN starts its open time (R181, R182). -/
def DoorRec.start (d : DoorRec) : DoorRec :=
  ⟨true, d.sensorOpen, false, false, false, if d.sensorOpen then some 0 else none⟩

/-- A bay door whose sensor reads OPEN at a start is FORCED, R182. -/
def startDoor (d : Door) (s : State) : State := if (s.door d).sensorOpen then raiseForced d s else s

/-- The safe door at a start, R198: a sensor reading OPEN is a forced opening. -/
def startSafe (s : State) : State :=
  let f := { Safe.initial with sensorOpen := s.office.safe.sensorOpen, forced := s.office.safe.sensorOpen }
  let s1 := s.setSafe f
  if f.sensorOpen then handFault .safeDoor .forced (notify (.doorAlarm .safe .forced s.clock) s1) else s1

/-- The office mode at a start: HOLD_PENDING becomes HOLD (R194). -/
def startMode (s : State) : State := if s.office.mode = .holdPending then s.setMode .hold else s

/-- The STATION_STATE notices of a RESTART: one for each station that was not ABSENT (R98). -/
def stationNotices (before : State) (after : State) : List NoticeBody :=
  (stationNumbers.filter fun n => (before.station n).state ≠ .absent).map fun n =>
    .stationState n (after.station n).state (after.station n).mech (after.station n).stack

/-- Steps 4 to 6 of R209 from a state `s0` whose store is good or has taken its store-loss state; `left` says what state
each module leaves, and `restart` and `good` what STARTED carries. -/
def startFrom (restart good : Bool) (left : Nat → ModState) (s0 : State) : State :=
  let (s1, lots) := startCountUnit (startBook s0)
  let s2 := startEvacuation (startRecycler s1)
  let (s3, builds) := startDesk s2
  let s4 := s3.setDoors ⟨s3.doors.office.start, s3.doors.courier.start, false, false, none⟩
  let (s5, cons) := collectEach startCons consignmentSlots s4
  let s6 := startMode s5
  let (s7, alarms) := collect (fun s => startSafe (startDoor .courier (startDoor .office s))) s6
  let s8 := { s7 with powered := true, link := { Link.initial with lastSent := s7.link.lastSent } }
  let held := if s8.office.mode = .hold then [NoticeBody.holdReached s8.clock] else []
  let waiting := if s8.book.armed then [] else [NoticeBody.postingsWaiting s8.book.queue.length]
  let modules := allModules.map fun m => NoticeBody.moduleState m (s8.module m).state (left m)
  let stations := if restart then stationNotices s0 s8 else []
  transmit (settle (notifyAll
    ([.started restart good s8.office.mode s8.clock] ++ held ++ waiting ++ modules ++ stations ++ builds ++ lots
      ++ cons ++ alarms) s8))

end Sys2Proof.Machine
end

