-- ==== Sys2Proof/Machine/Codes.lean ====
section
/-! DEFINITION. The codes of named values and the fields of compound things in reply and notice bodies (R201, R38): a choice
is one byte, numbered from 1 in the order its rule lists the values. -/

namespace Sys2Proof.Machine

/-! ### Choices -/

def slotCode (inUse : Bool) : Field := u1 (if inUse then 2 else 1)
def postingModeCode : PostingMode → Nat
  | .through => 1
  | .held => 2
def unpostedCode (u : Bool) : Field := u1 (if u then 2 else 1)
def TillState.code : TillState → Nat
  | .closed => 1 | .building => 2 | .trading => 3 | .pickup => 4 | .returning => 5 | .reconciled => 6
  | .exception => 7 | .closing => 8
def Band.code : Band → Nat
  | .balanced => 1 | .review => 2 | .exception => 3
def BuildState.code : BuildState → Nat
  | .planned => 1 | .dispensing => 2 | .short => 3 | .awaitingHandover => 4 | .cancelling => 5
def ShortCause.code : ShortCause → Nat
  | .withinTolerance => 1 | .cut => 2 | .unservable => 3 | .restart => 4
def StationState.code : StationState → Nat
  | .absent => 1 | .attaching => 2 | .idle => 3 | .busy => 4 | .reporting => 5 | .stacked => 6 | .faulted => 7
/-- The mechanism state as a choice; UNKNOWN stands last in Table 4-4. -/
def mechCode : Option MechState → Nat
  | some .ready => 1 | some .feeding => 2 | some .reportReady => 3 | some .stackHold => 4 | some .jam => 5
  | some .coverOpen => 6 | none => 7
def LotState.code : LotState → Nat
  | .waiting => 2 | .counting => 3 | .counted => 4 | .disposing => 5 | .disposed => 6 | .void => 7
  | .disposeInterrupted => 8
def CountFailure.code : CountFailure → Nat
  | .line => 1 | .mechanism => 2 | .report => 3 | .reset => 4 | .stackLost => 5 | .restart => 6
def ModState.code : ModState → Nat
  | .offline => 1 | .starting => 2 | .inService => 3 | .degraded => 4 | .safeOpen => 5 | .faulted => 6
def StartStep.code : StartStep → Nat
  | .tags => 1 | .purgeWait => 2 | .purging => 3
def roleCode : Role → Nat
  | .unassigned => 1 | .recycle => 2 | .depositOnly => 3 | .spare => 4 | .retired => 5
def RunState.code : RunState → Nat
  | .idle => 1 | .running => 2 | .purging => 3 | .unclosed => 4
def RunKind.code : RunKind → Nat
  | .deposit => 1 | .dispense => 2 | .trayReturn => 3 | .evacuate => 4
def EndCause.code : EndCause → Nat
  | .limit => 1 | .done => 2 | .cut => 3 | .sourceEmpty => 4 | .noSource => 5 | .pickFailed => 6 | .jam => 7
  | .fault => 8 | .door => 9
def preemptionCode : Preemption → Nat
  | .never => 1 | .inWindow => 2 | .always => 3
def EvacState.code : EvacState → Nat
  | .idle => 1 | .active => 2 | .paused => 3 | .stranded => 4
def PauseCause.code : PauseCause → Nat
  | .disabled => 1 | .hold => 2 | .module => 3 | .spareFault => 4 | .restart => 5
def EvacResult.code : EvacResult → Nat
  | .done => 1 | .stranded => 2
def ContState.code : ContState → Nat
  | .opened => 1 | .closed => 2 | .assigned => 3 | .placed => 4 | .received => 5 | .releasing => 6
def ContType.code : ContType → Nat
  | .bag => 1 | .cassette => 2
def Location.code : Location → Nat
  | .office => 1 | .bay => 2
def consKindCode : ConsKind → Nat
  | .collection => 1 | .delivery => 2
def ConsState.code : ConsState → Nat
  | .draft => 1 | .loading => 2 | .staged => 3 | .waiting => 4 | .engaged => 5 | .transferring => 6 | .complete => 7
  | .partly => 8 | .expired => 9 | .aborted => 10 | .interrupted => 11
def Mode.code : Mode → Nat
  | .trading => 1 | .holdPending => 2 | .hold => 3
def SafeState.code : SafeState → Nat
  | .locked => 1 | .pending => 2 | .unlocked => 3 | .opened => 4 | .closed => 5
def FaultKind.code : FaultKind → Nat
  | .misfeed => 1 | .jam => 2 | .module => 3 | .purge => 4 | .line => 5 | .mechanism => 6 | .forced => 7
  | .heldOpen => 8
def SettleReason.code : SettleReason → Nat
  | .post => 1 | .modeChange => 2 | .release => 3 | .catchUp => 4
def Reason.code : Reason → Nat
  | .opening => 1 | .adjustment => 2 | .deliveryVariance => 3
/-- Reply status codes, Table 11-3. -/
def Status.code : Status → Nat
  | .ok => 0 | .accepted => 1 | .unknownRequest => 2 | .badField => 3 | .wrongState => 4 | .noSlot => 5
  | .queueFull => 6 | .inHold => 7 | .holdRequired => 8 | .inUse => 9 | .dualControl => 10 | .role => 11
  | .stock => 12 | .shortfall => 13 | .over => 14 | .capacity => 15 | .denomination => 16 | .notHeld => 17
  | .countRange => 18 | .numberInUse => 19 | .window => 20 | .recountLimit => 21 | .linkBusy => 22
def doorCode : Door → Nat
  | .office => 1 | .courier => 2
def AlarmDoor.code : AlarmDoor → Nat
  | .office => 1 | .courier => 2 | .safe => 3
def AlarmCause.code : AlarmCause → Nat
  | .forced => 1 | .heldOpen => 2 | .cleared => 3
/-- A sensor reading, OPEN or CLOSED. -/
def sensorField (o : Bool) : Field := u1 (if o then 1 else 2)
/-- A lock, LOCKED or UNLOCKED. -/
def lockField (l : Bool) : Field := u1 (if l then 1 else 2)

/-! ### Compound fields -/

/-- A cassette slot m.s: its module and its slot (log entry 30). -/
def slotFields (c : Nat) : List Field := [u1 (c / 6), u1 (c % 6)]
def pairFields (q : Pair) : List Field := [u1 q.denom, u2 q.count]
/-- A list of pairs of the non-zero counts. -/
def countList (c : Counts) : List Field := listField (pairsOf c) pairFields
/-- The denominations whose mark is set, as a list. -/
def markList (m : Marks) : List Field := listField (Marks.list' m) fun d => [u1 d]
/-- A side in two bytes, R38. -/
def sideFields : Side → List Field
  | .pos p => [u1 0, u1 p]
  | .floor t => [u1 1, u1 t]
  | .carrier k => [u1 2, u1 k]
  | .external r => [u1 3, u1 r.code]

/-- The source of a lot and its detail, Table 5-1. -/
def sourceFields : LotSource → List Field
  | .pickup t => [u1 1, u1 t]
  | .ret t => [u1 2, u1 t]
  | .container n => [u1 3, u1 n]
  | .reserveRecount l => u1 4 :: listField l fun d => [u1 d]
  | .purge m => [u1 5, u1 m]
  | .stranded c => u1 6 :: slotFields c

/-- A disposal, Table 5-1. -/
def disposalFields : Disposal → List Field
  | .deposit => [u1 1]
  | .reserve => [u1 2]
  | .container n => [u1 3, u1 n]

/-- A station selection: 1 to 4, ANY or NONE, numbered in that order. -/
def stationSelField : StationSel → Field
  | .one n => u1 n
  | .any => u1 5
  | .coinOnly => u1 6

/-- A source of the first fault record with its number, R200. -/
def faultSourceFields : FaultSource → List Field
  | .cassette c => u1 1 :: slotFields c
  | .module m => [u1 2, u1 m]
  | .common => [u1 3]
  | .head h => [u1 4, u1 (h + 1)]
  | .tray => [u1 5]
  | .station n => [u1 6, u1 n]
  | .officeDoor => [u1 7]
  | .courierDoor => [u1 8]
  | .safeDoor => [u1 9]

/-- A requester of a run: an intake head with its number, a build slot or the evacuation, as three choices (DESIGN CHOICE, log
entry 88). -/
def requesterFields : Requester → List Field
  | .head h => [u1 1, u1 (h + 1)]
  | .slot k => [u1 2, u1 k]
  | .evacuation => [u1 3]

/-! ### Posting entries, Table 2-5 -/

/-- The fields of an entry after its kind and length. -/
def entryTail (e : Entry) : List Field :=
  [u4 e.seq, u4 e.clock] ++ match e.body with
    | .move p n k a b ops qs =>
      [u1 p, u4 n, u1 k.code] ++ sideFields a ++ sideFields b ++ listField ops (fun o => [u3 o])
        ++ listField qs fun q => [u1 q.1.denom, u2 q.1.count, u2 q.2]
    | .settleOne p r last d n => [u1 p, u1 r.code, u4 last, u1 d, u2 n]
    | .settleFull p r last c => [u1 p, u1 r.code, u4 last] ++ countFields c
    | .tillSummary t n f sales p r v b =>
      [u1 t, u2 n, i6 f, i6 sales, i6 p, i6 r, i6 v, u1 b.code]

def EntryBody.kindCode : EntryBody → Nat
  | .move .. => 1
  | .settleOne .. => 2
  | .settleFull .. => 3
  | .tillSummary .. => 4

def fieldBytes (l : List Field) : Nat := (l.map Field.bytes).foldr (· + ·) 0

/-- The length of a posting entry, R38. -/
def Entry.length (e : Entry) : Nat := 2 + fieldBytes (entryTail e)

/-- A posting entry in the layout of Table 2-5. -/
def entryFields (e : Entry) : List Field := [u1 e.body.kindCode, u1 e.length] ++ entryTail e

/-- How many entries of the queue one reply takes: at most `n`, and at most 480 bytes with those before (R39). -/
def fetchCount : Nat → Nat → List Entry → Nat
  | 0, _, _ => 0
  | _, _, [] => 0
  | n + 1, used, e :: l =>
    if Config.fetchBytes < used + e.length then 0 else 1 + fetchCount n (used + e.length) l

end Sys2Proof.Machine
end

