-- ==== Sys2Proof/Machine/ExecBook.lean ====
section
/-! DEFINITION. The meanings of the book unit's requests (Sections 1 and 2). -/

namespace Sys2Proof.Machine

/-- A refusal that carries nothing and changes nothing. -/
def no (st : Status) (s : State) : Reply × State := (refusal st, s)

/-- A refusal of the book, with the denomination it names. -/
def noBook (r : Refused) (s : State) : Reply × State := (refusalOf r.status r.denom, s)

/-! ### SET DENOMINATION and CLEAR DENOMINATION, R3, R4 -/

/-- The fields lie in their ranges: check 2 of R3. -/
def specInRange : DenomSpec → Bool
  | .note f => 1 ≤ f && f ≤ Config.maxFace
  | .coin f => 1 ≤ f && f ≤ Config.maxFace
  | .roll _ n => 2 ≤ n && n ≤ 100
  | .unknownKind => false

/-- The record the request asks for. -/
def State.specRecord (s : State) : DenomSpec → DenomRec
  | .note f => .note f
  | .coin f => .coin f
  | .roll c n => .roll c n (n * s.face c)
  | .unknownKind => .empty

/-- Check 3 of R3: a ROLL names another record, which is a DEFINED COIN. A coin index above 11 names no record and fails here
with DENOMINATION; check 2 of R3 does not list it (DESIGN CHOICE, log entry 27). -/
def State.specCoin (s : State) (i : Nat) : DenomSpec → Bool
  | .roll c _ => c ≠ i && c < 12 && s.isCoin c
  | _ => true

/-- The fifth use of R3: a COIN named by a ROLL, changed in kind or face value. -/
def State.coinChanged (s : State) (i : Nat) (r : DenomRec) : Bool := s.isCoin i && s.coinNamed i && r ≠ s.denom i

/-- The float template entries of an index are removed (R3, R4). -/
def dropTemplateEntries (i : Nat) (s : State) : State :=
  { s with desk := { s.desk with
      templates := s.desk.templates.map fun t =>
        t.map fun t => { t with entries := t.entries.filter fun e => e.denom ≠ i } } }

/-- The routing ranges of an index are removed (R3, R4). -/
def dropRanges (i : Nat) (s : State) : State := s.setRanges i []

def State.setDenom (s : State) (i : Nat) (r : DenomRec) : State :=
  { s with book := { s.book with denoms := s.book.denoms.set i r } }

/-- A record takes new fields, with the effects on templates and routes that its kind has (R3). -/
def defineDenom (i : Nat) (r : DenomRec) (s : State) : State :=
  let s1 := s.setDenom i r
  let s2 := if r.kind = some .coin then dropTemplateEntries i s1 else s1
  if r.kind ≠ some .note then dropRanges i s2 else s2

def doSetDenomination (q : SetDenominationReq) (s : State) : Reply × State :=
  if s.office.mode ≠ .hold then no .holdRequired s
  else if 11 < q.index ∨ !specInRange q.spec then no .badField s
  else if !s.specCoin q.index q.spec then no .denomination s
  else
    let r := s.specRecord q.spec
    if Config.maxFace < r.face then no .badField s
    else if r = s.denom q.index then (okReply [], s)
    else if s.isDefined q.index ∧ (s.denomInUse q.index ∨ s.coinChanged q.index r) then no .inUse s
    else (okReply [], defineDenom q.index r s)

/-- SET DENOMINATION, R3. -/
def execSetDenomination (tag : Nat) (body : Body SetDenominationReq) (s : State) : Host.Outcome State Fault Refusal :=
  .next (request 16 tag body doSetDenomination s)

def doClearDenomination (i : Nat) (s : State) : Reply × State :=
  if s.office.mode ≠ .hold then no .holdRequired s
  else if 11 < i then no .badField s
  else if s.isDefined i ∧ (s.denomInUse i ∨ (s.isCoin i ∧ s.coinNamed i)) then no .inUse s
  else if !s.isDefined i then (okReply [], s)
  else (okReply [], dropRanges i (dropTemplateEntries i (s.setDenom i .empty)))

/-- CLEAR DENOMINATION, R4. -/
def execClearDenomination (tag : Nat) (body : Body Nat) (s : State) : Host.Outcome State Fault Refusal :=
  .next (request 17 tag body doClearDenomination s)

/-! ### QUERY STOCK, R23 -/

/-- A denomination record as QUERY STOCK gives it. -/
def denomFields : DenomRec → List Field
  | .empty => [u1 1]
  | .note f => [u1 2, u1 1, u3 f]
  | .coin f => [u1 2, u1 2, u3 f]
  | .roll c n f => [u1 2, u1 3, u3 f, u1 c, u1 n]

/-- What QUERY STOCK carries for an index, R23. No rule states the range of the eligible stock, the reserved count and the
available stock; each takes 3 bytes, as the custody total does (DESIGN CHOICE, log entry 31). -/
def stockFields (s : State) (d : Nat) : List Field :=
  denomFields (s.denom d)
    ++ [u3 (Counts.of s.book.totals d), u3 (s.eligible d), u3 (s.reserved d), u3 (s.available d)]

def resFields (e : ResEntry) : List Field := [u1 e.slot, u1 e.till] ++ countList e.counts ++ markList e.cut

def doQueryStock (_ : Unit) (s : State) : Reply × State :=
  (okList ((denoms.map (stockFields s)).flatten) (s.book.reservations.map resFields), s)

/-- QUERY STOCK, R23. -/
def execQueryStock (tag : Nat) (body : Body Unit) (s : State) : Host.Outcome State Fault Refusal :=
  .next (request 18 tag body doQueryStock s)

/-! ### QUERY POSITION, POST POSITION, SET POSTING MODE, R33, R35, R36 -/

/-- A position's state as QUERY POSITION gives it. -/
def positionFields (r : PosRec) : List Field :=
  [slotCode r.inUse, u1 (postingModeCode r.mode), unpostedCode r.unposted] ++ countFields r.counts ++ r.marks.list.map flag
    ++ [flag r.overdue, flag r.inRun, flag r.releasePending, u4 r.lastMove]

def doQueryPosition (q : QueryPositionReq) (s : State) : Reply × State :=
  let r := s.posRec q.position
  match q.option with
  | none => no .badField s
  | some o =>
    if 176 < q.position then no .badField s
    else
      match o with
      | .peek => (okReply (positionFields r), s)
      | .settle =>
        if !r.inUse ∨ !r.unposted then (okReply (positionFields r), s)
        else if r.inRun then no .wrongState s
        else (okReply (positionFields r), clearMarks q.position s)

/-- QUERY POSITION, R36. -/
def execQueryPosition (tag : Nat) (body : Body QueryPositionReq) (s : State) : Host.Outcome State Fault Refusal :=
  .next (request 19 tag body doQueryPosition s)

def doPostPosition (p : Nat) (s : State) : Reply × State :=
  let r := s.posRec p
  if 176 < p then no .badField s
  else if !r.inUse ∨ r.inRun then no .wrongState s
  else if !r.unposted then (okReply [u1 0], s)
  else if s.queueFull then no .queueFull s
  else (okReply [u1 1], settlePosition p .post s)

/-- POST POSITION, R35. -/
def execPostPosition (tag : Nat) (body : Body Nat) (s : State) : Host.Outcome State Fault Refusal :=
  .next (request 20 tag body doPostPosition s)

def setMode (p : Nat) (m : PostingMode) (s : State) : State := s.setPosRec p { s.posRec p with mode := m }

def doSetPostingMode (q : SetPostingModeReq) (s : State) : Reply × State :=
  let r := s.posRec q.position
  match q.mode with
  | none => no .badField s
  | some m =>
    if 176 < q.position then no .badField s
    else if !r.inUse ∨ r.releasePending then no .wrongState s
    else if m = r.mode then (okReply [], s)
    else if m = .held ∨ !r.unposted then (okReply [], setMode q.position m s)
    else if r.inRun then no .wrongState s
    else if s.queueFull then no .queueFull s
    else (okReply [], setMode q.position .through (settlePosition q.position .modeChange s))

/-- SET POSTING MODE, R33. -/
def execSetPostingMode (tag : Nat) (body : Body SetPostingModeReq) (s : State) : Host.Outcome State Fault Refusal :=
  .next (request 21 tag body doSetPostingMode s)

/-! ### FETCH POSTINGS, R39 -/

def doFetchPostings (n : Nat) (s : State) : Reply × State :=
  if n < 1 ∨ 16 < n then no .badField s
  else
    let k := fetchCount n 0 s.book.queue
    (okReply ([u1 k, u1 (s.book.queue.length - k)] ++ ((s.book.queue.take k).map entryFields).flatten), s)

/-- The request in hand notes that its reply takes `k` entries out of the queue when it is sent (R39). -/
def markFetched (k : Nat) (s : State) : State :=
  { s with link := { s.link with inHand := s.link.inHand.map fun h => { h with fetched := some k } } }

/-- FETCH POSTINGS, R39. -/
def execFetchPostings (tag : Nat) (body : Body Nat) (s : State) : Host.Outcome State Fault Refusal :=
  let t := request 22 tag body doFetchPostings s
  match s.powered, s.link.inHand, body with
  | true, none, .good n =>
    if 1 ≤ n ∧ n ≤ 16 then .next (markFetched (fetchCount n 0 s.book.queue) t) else .next t
  | _, _, _ => .next t

/-! ### ADJUST POSITION and OPENING, R43, R44, R129 -/

/-- The tray is held by a build beyond PLANNED (R43). -/
def State.trayBusy (s : State) : Bool :=
  match s.desk.trayOwner with
  | some k => match s.build k with
    | some b => b.state ≠ .planned
    | none => false
  | none => false

/-- Checks 2 to 4 of R43. -/
def State.adjustBarred (s : State) (p : Nat) : Bool :=
  match posKind p with
  | .lot _ => true
  | .tray => s.trayBusy
  | .cassette c => !(s.cassette c).present
  | _ => false

/-- An ADJUST resolves the MISMATCH of this cassette: a tag was sensed and the role is not UNASSIGNED (R129). -/
def CasRec.resolvable (r : CasRec) : Bool :=
  r.mismatch && r.role ≠ .unassigned && match r.sensed with | .tag _ => true | _ => false

/-- The cassette's MISMATCH clears and its tag becomes the sensed tag, where an ADJUST resolves it (R129). -/
def resolveMismatch (p : Nat) (s : State) : State :=
  match posKind p with
  | .cassette c =>
    let r := s.cassette c
    match r.resolvable, r.sensed with
    | true, .tag t => s.setCassette c { r with mismatch := false, tag := some t }
    | _, _ => s
  | _ => s

/-- The position is a cassette whose MISMATCH an ADJUST resolves. -/
def State.resolves (s : State) (p : Nat) : Bool :=
  match posKind p with
  | .cassette c => (s.cassette c).resolvable
  | _ => false

/-- The movement ADJUST POSITION asks for. -/
def adjustMove (p : Nat) (d : Direction) (qs : List Pair) (a b : Nat) : Movement :=
  match d with
  | .into => ⟨.adjust, .external .adjustment, .pos p, qs, [a, b], none⟩
  | .outOf => ⟨.adjust, .pos p, .external .adjustment, qs, [a, b], none⟩

/-- The checks and the effect of ADJUST POSITION, R43 and R129. The movement number of the reply has no presence byte: a
request that moves nothing answers OK and nothing more (DESIGN CHOICE, log entry 80). -/
def doAdjustPosition (q : AdjustReq) (s : State) : Reply × State :=
  match q.direction with
  | none => no .badField s
  | some d =>
    match s.dualControl .supervisor q.op1 q.op2 with
    | some st => no st s
    | none =>
      if s.adjustBarred q.position then no .wrongState s
      else if q.pairs = [] ∧ s.resolves q.position then
        (okReply [], settle (resolveMismatch q.position s))
      else
        let m := adjustMove q.position d q.pairs q.op1 q.op2
        match checkMovement m false s with
        | some r => noBook r s
        | none =>
          (okReply [u4 s.nextMove], settle (evacExamine (resolveMismatch q.position (applyMovement m s))))

/-- ADJUST POSITION, R43. -/
def execAdjustPosition (tag : Nat) (body : Body AdjustReq) (s : State) : Host.Outcome State Fault Refusal :=
  .next (request 23 tag body doAdjustPosition s)

/-- The two roster entries an OPENING writes into an empty roster, R196. -/
def firstOperators (a b : Nat) (s : State) : State :=
  let e := fun n => (⟨n, ⟨false, true, true⟩, true⟩ : RosterEntry)
  { s with office := { s.office with roster := (s.office.roster.set 0 (some (e a))).set 1 (some (e b)) } }

/-- The operator check of OPENING, with what it writes into an empty roster (R44, R196). -/
def openingCheck (a b : Nat) (s : State) : Except Status State :=
  if s.rosterEmpty then
    if a = b ∨ !opOk a ∨ !opOk b then .error .dualControl else .ok (firstOperators a b s)
  else
    match s.dualControl .supervisorAndCustodian a b with
    | some st => .error st
    | none => .ok s

def doOpening (q : OpeningReq) (s : State) : Reply × State :=
  match openingCheck q.op1 q.op2 s with
  | .error st => no st s
  | .ok s1 =>
    let m : Movement := ⟨.opening, .external .opening, .pos q.position, q.pairs, [q.op1, q.op2], none⟩
    match checkMovement m false s1 with
    | some r => noBook r s1
    | none => (okReply [u4 s1.nextMove], settle (applyMovement m s1))

/-- OPENING, R44. -/
def execOpening (tag : Nat) (body : Body OpeningReq) (s : State) : Host.Outcome State Fault Refusal :=
  .next (request 24 tag body doOpening s)

end Sys2Proof.Machine
end

