-- ==== Sys2Proof/Machine/ExecTill.lean ====
section
/-! DEFINITION. The meanings of the till desk's requests (Section 3). -/

namespace Sys2Proof.Machine

/-! ### SET TEMPLATE, R49 -/

def entryInRange (e : TemplateEntry) : Bool :=
  e.pref ≤ Config.maxCount && e.min ≤ Config.maxCount && e.max ≤ Config.maxCount && e.min ≤ e.max

/-- Check 2 of R49. -/
def templateInRange (q : SetTemplateReq) : Bool :=
  q.cls ≤ 7 && 1 ≤ q.target && q.target ≤ Config.maxTillValue && q.short ≤ Config.maxTillValue
    && q.pickupLimit ≤ Config.maxValue && q.tolOk ≤ Config.maxValue && q.tolReview ≤ Config.maxValue
    && !q.entries.isEmpty && q.entries.length ≤ 12 && distinct (q.entries.map TemplateEntry.denom)
    && q.entries.all entryInRange

def State.setTemplate (s : State) (c : Nat) (t : Option Template) : State :=
  { s with desk := { s.desk with templates := s.desk.templates.set c t } }

/-- The template the request asks for: T_review is never below T_ok. -/
def templateOf (q : SetTemplateReq) : Template :=
  ⟨q.target, q.short, q.pickupLimit, q.tolOk, Nat.max q.tolReview q.tolOk, q.entries⟩

/-- The checks and effect of SET TEMPLATE. An entry whose denomination index is above 11 names no NOTE or ROLL and is
answered DENOMINATION, which R49 leaves open (DESIGN CHOICE, log entry 27). -/
def doSetTemplate (q : SetTemplateReq) (s : State) : Reply × State :=
  if s.office.mode ≠ .hold then no .holdRequired s
  else if !templateInRange q then no .badField s
  else
    match q.entries.find? fun e => !(s.isNote e.denom || s.isRoll e.denom) with
    | some e => (refusalOf .denomination (some e.denom), s)
    | none => (okReply [], s.setTemplate q.cls (some (templateOf q)))

/-- SET TEMPLATE, R49. -/
def execSetTemplate (tag : Nat) (body : Body SetTemplateReq) (s : State) : Host.Outcome State Fault Refusal :=
  .next (request 32 tag body doSetTemplate s)

/-! ### BUILD FLOAT and REBUILD, R56, R65 -/

/-- The outcome of an accepted plan: EXACT or SHORT_WITHIN, R55. -/
def outcomeField (short : Nat) : Field := u1 (if short = 0 then 1 else 2)

/-- The refusal of a make-up computation with its figure or denomination. -/
def makeRefusal : MakeResult → Option Reply
  | .accepted _ _ _ => none
  | .stock d => some (refusalOf .stock (some d))
  | .shortfall n => some (Reply.plain .shortfall [u5 n])
  | .over n => some (Reply.plain .over [u5 n])

/-- A SHORT_WITHIN outcome sends BUILD_SHORT, R55, R62. -/
def noticeWithin (k till planned tray short : Nat) (s : State) : State :=
  if short = 0 then s else notify (.buildShort k till .withinTolerance none planned tray short) s

def freeSlot (s : State) : Option Nat := buildSlots.find? fun k => (s.build k).isNone

/-- A new build, R56. -/
def newBuild (s : State) (till : Nat) (t : Template) (plan : Counts) (total : Nat) : Build where
  state := .planned
  till := till
  age := s.nextAge
  target := t.target
  short := t.short
  entries := t.entries
  plan := plan
  dispensed := Counts.zero
  remaining := s.notesOf plan
  planned := total
  current := none
  cut := Marks.clear
  shortCause := none
  shortDenom := none
  shortDue := none

/-- The accepted plan takes slot `k`. -/
def startBuildFloat (k : Nat) (q : BuildFloatReq) (t : Template) (plan : Counts) (total short : Nat) (s : State) :
    State :=
  let s1 := (reserve k q.till plan s).setBuild k (some (newBuild s q.till t plan total))
  let s2 := s1.setTill q.till { s1.till q.till with state := .building, cls := q.cls }
  noticeWithin k q.till total 0 short s2

/-- The checks and the effect of BUILD FLOAT, R56. The plan goes in the reply as 12 counts (DESIGN CHOICE, log entry 88). -/
def doBuildFloat (q : BuildFloatReq) (s : State) : Reply × State :=
  if s.office.mode ≠ .trading then no .inHold s
  else if 255 < q.till ∨ 7 < q.cls then no .badField s
  else if (s.till q.till).state ≠ .closed then no .wrongState s
  else
    match s.template q.cls, freeSlot s with
    | none, _ => no .wrongState s
    | some _, none => no .noSlot s
    | some t, some k =>
      match s.makeUpFor t with
      | .accepted plan total short =>
        match s.overReserved k plan with
        | some d => (refusalOf .stock (some d), s)
        | none =>
          (acceptedReply ([u1 k, outcomeField short] ++ countFields plan ++ [u5 total]),
            settle (startBuildFloat k q t plan total short s))
      | r => ((makeRefusal r).getD (refusal .stock), s)

/-- BUILD FLOAT, R56. -/
def execBuildFloat (tag : Nat) (body : Body BuildFloatReq) (s : State) : Host.Outcome State Fault Refusal :=
  .next (request 33 tag body doBuildFloat s)

/-- The build of a till in one of some states, R63. -/
def State.buildIn (s : State) (t : Nat) (ok : BuildState → Bool) : Option (Nat × Build) :=
  if (s.till t).state = .building then
    match s.buildOf t with
    | some k => match s.build k with
      | some b => if ok b.state then some (k, b) else none
      | none => none
    | none => none
  else none

/-- The ISSUE movements of a handover, R63 and R64. -/
def issueGroup (k till op : Nat) (notes rolls : Counts) : List Movement :=
  withPairs [⟨.issue, .pos trayPos, .floor till, pairsOf notes, [op], some k⟩,
    ⟨.issue, .pos reservePos, .floor till, pairsOf rolls, [op], some k⟩]

/-- The till record after a float is issued, R63. -/
def issuedTill (r : TillRec) (c : Counts) (f : Nat) : TillRec :=
  { r with state := .trading, issued := c, floatValue := f, sales := 0, pickups := 0, returned := none,
           variance := none, band := none, accepted := false, advised := false,
           session := nextNumber Config.maxSession r.session }

/-- The handover of a build whose group has been applied: the entry released, the till TRADING, the slot FREE. -/
def handedOver (k till : Nat) (c : Counts) (s : State) : State :=
  let s1 := releaseEntry k s
  freeBuild k (s1.setTill till (issuedTill (s1.till till) c (s1.valueOf c)))

/-- The numbers the `n` movements of a group take. -/
def State.numbersOf (s : State) (n : Nat) : List Nat := moveNumbers s.book.moveCounter n

def doFloatHanded (q : TillOpReq) (s : State) : Reply × State :=
  if 255 < q.till then no .badField s
  else
    match s.buildIn q.till (· = .awaitingHandover) with
    | none => no .wrongState s
    | some (k, b) =>
      if !s.oneOperator q.op then no .role s
      else
        let rolls := s.rollsOf b.plan
        let g := issueGroup k q.till q.op b.dispensed rolls
        match applyGroup 1 g s with
        | .error (i, r) => (groupRefusal i r, s)
        | .ok s1 =>
          let s2 := handedOver k q.till (Counts.add b.dispensed rolls) s1
          (okReply ([u5 (s2.till q.till).floatValue, u2 (s2.till q.till).session]
            ++ listField (s.numbersOf g.length) fun n => [u4 n]), settle s2)

/-- FLOAT HANDED, R63. -/
def execFloatHanded (tag : Nat) (body : Body TillOpReq) (s : State) : Host.Outcome State Fault Refusal :=
  .next (request 34 tag body doFloatHanded s)

/-- The rolls an ACCEPT SHORT issues: for each roll of the plan, what the entry still holds (R64). -/
def State.shortRolls (s : State) (k : Nat) (b : Build) : Counts :=
  (s.rollsOf b.plan).mapIdx fun d n => if n = 0 then 0 else s.resCount k d

def doAcceptShort (q : TillOpReq) (s : State) : Reply × State :=
  if 255 < q.till then no .badField s
  else
    match s.buildIn q.till (· = .short) with
    | none => no .wrongState s
    | some (k, b) =>
      if !s.oneOperator q.op then no .role s
      else
        let rolls := s.shortRolls k b
        match applyGroup 1 (issueGroup k q.till q.op b.dispensed rolls) s with
        | .error (i, r) => (groupRefusal i r, s)
        | .ok s1 =>
          let s2 := handedOver k q.till (Counts.add b.dispensed rolls) s1
          (okReply [u5 (s2.till q.till).floatValue], settle s2)

/-- ACCEPT SHORT, R64. -/
def execAcceptShort (tag : Nat) (body : Body TillOpReq) (s : State) : Host.Outcome State Fault Refusal :=
  .next (request 35 tag body doAcceptShort s)

/-- A SHORT build with its new plan, R65. -/
def rebuilt (s : State) (b : Build) (new : Counts) (total : Nat) : Build :=
  { b with state := .planned, plan := Counts.add b.dispensed new, remaining := s.notesOf new,
           planned := s.trayValue b + total, cut := Marks.clear, shortCause := none, shortDenom := none,
           shortDue := none, current := none }

/-- The checks and the effect of REBUILD, R65. The new counts go in the reply as 12 counts (DESIGN CHOICE, log entry 88). -/
def doRebuild (t : Nat) (s : State) : Reply × State :=
  if 255 < t then no .badField s
  else
    match s.buildIn t (· = .short) with
    | none => no .wrongState s
    | some (k, b) =>
      match s.makeUpAgain k b with
      | .accepted new total short =>
        match s.overReserved k new with
        | some d => (refusalOf .stock (some d), s)
        | none =>
          let b1 := rebuilt s b new total
          let s1 := (reserve k t new s).setBuild k (some b1)
          (acceptedReply (outcomeField short :: countFields new),
            settle (noticeWithin k t b1.planned (s.trayValue b) short s1))
      | r => ((makeRefusal r).getD (refusal .stock), s)

/-- REBUILD, R65. -/
def execRebuild (tag : Nat) (body : Body Nat) (s : State) : Host.Outcome State Fault Refusal :=
  .next (request 36 tag body doRebuild s)

/-! ### CANCEL BUILD and QUERY BUILDS, R66, R69 -/

def cancellable : BuildState → Bool
  | .planned | .short | .awaitingHandover => true
  | .dispensing | .cancelling => false

/-- A build on its way back to the cassettes: CANCELLING, with the fields of a SHORT build absent (R50, R66). -/
def cancelling (b : Build) : Build := { b with state := .cancelling, shortCause := none, shortDenom := none }

def doCancelBuild (t : Nat) (s : State) : Reply × State :=
  if 255 < t then no .badField s
  else
    match s.buildIn t cancellable with
    | none => no .wrongState s
    | some (k, b) =>
      let s1 := releaseEntry k s
      if b.dispensed.isZero then
        (okReply [], settle ((freeBuild k s1).setTill t { s1.till t with state := .closed }))
      else
        (acceptedReply [], settle (giveTrayReturn k (s1.setBuild k (some (cancelling b)))))

/-- CANCEL BUILD, R66. -/
def execCancelBuild (tag : Nat) (body : Body Nat) (s : State) : Host.Outcome State Fault Refusal :=
  .next (request 37 tag body doCancelBuild s)

/-- A build's fields, R50. The age goes as the build's place in the order of acceptance, the plan as 12 counts, and the
dispensed and remaining counts as lists of their non-zero pairs (DESIGN CHOICE, log entry 33). -/
def buildFields (s : State) (b : Build) : List Field :=
  [u1 b.state.code, u1 b.till, u1 (s.agePlace b), u5 b.target, u5 b.short]
    ++ listField b.entries (fun e => [u1 e.denom, u2 e.pref, u2 e.min, u2 e.max])
    ++ countFields b.plan ++ countList b.dispensed ++ countList b.remaining ++ [u5 b.planned]
    ++ opt b.current (fun d => [u1 d]) ++ markList b.cut
    ++ opt b.shortCause (fun c => [u1 c.code]) ++ opt b.shortDenom fun d => [u1 d]

/-- The slots as a list, each a presence byte, 0 for FREE, and the build's fields; then the tray owner (log entry 33). -/
def doQueryBuilds (_ : Unit) (s : State) : Reply × State :=
  (okListThen [] (buildSlots.map fun k => opt (s.build k) (buildFields s)) (opt s.desk.trayOwner fun k => [u1 k]), s)

/-- QUERY BUILDS, R69. -/
def execQueryBuilds (tag : Nat) (body : Body Unit) (s : State) : Host.Outcome State Fault Refusal :=
  .next (request 38 tag body doQueryBuilds s)

/-! ### Sales, variance and closing, R70 to R78 -/

/-- D = F + N − P. -/
def TillRec.drawer (r : TillRec) : Int := r.floatValue + r.sales - r.pickups

/-- The pickup limit of a till's class. -/
def State.pickupLimit (s : State) (r : TillRec) : Nat := ((s.template r.cls).map (·.pickupLimit)).getD 0

/-- Pickup advice is examined, R71. -/
def adviseTill (t : Nat) (s : State) : State :=
  let r := s.till t
  let l := s.pickupLimit r
  if (l : Int) < r.drawer then
    if r.advised then s
    else notify (.pickupDue t r.drawer l) (s.setTill t { r with advised := true })
  else s.setTill t { r with advised := false }

/-- The band of a variance for a till, R75. -/
def State.bandOf (s : State) (r : TillRec) (v : Int) : Band :=
  let ok := ((s.template r.cls).map (·.tolOk)).getD 0
  let review := ((s.template r.cls).map (·.tolReview)).getD 0
  if v.natAbs ≤ ok then .balanced else if v.natAbs ≤ review then .review else .exception

/-- The state a band sends a till to, R75. -/
def bandState : Band → TillState
  | .exception => .exception
  | _ => .reconciled

/-- The variance of a till is formed and banded (R75, R76); the accepted mark clears. -/
def reconcile (s : State) (r : TillRec) : TillRec :=
  let v : Int := (r.returned.getD 0 : Nat) - r.drawer
  { r with variance := some v, band := some (s.bandOf r v), state := bandState (s.bandOf r v), accepted := false }

/-- VARIANCE_EXCEPTION of a till. -/
def exceptionNotice (t : Nat) (r : TillRec) : NoticeBody :=
  .varianceException t r.session (r.variance.getD 0) (r.band.getD .exception)

/-- A figure taken in RECONCILED or EXCEPTION bands again, R76. -/
def rebandTill (t : Nat) (s : State) : State :=
  let r := s.till t
  let r1 := reconcile s r
  let s1 := s.setTill t r1
  if r.state = .reconciled ∧ r1.state = .exception then notify (exceptionNotice t r1) s1 else s1

def takesSales : TillState → Bool
  | .trading | .pickup | .returning | .reconciled | .exception => true
  | .closed | .building | .closing => false

/-- The figure's follow-up by the till's state, R70. -/
def salesFollow (t : Nat) (s : State) : State :=
  match (s.till t).state with
  | .trading | .pickup => adviseTill t s
  | .reconciled | .exception => rebandTill t s
  | _ => s

/-- D or the variance, as the till's state makes it, R70. It has no presence byte, and RETURNING, for which R70 names
neither, has no figure (DESIGN CHOICE, log entry 81). -/
def TillRec.figure (r : TillRec) : List Field :=
  match r.state with
  | .trading | .pickup => [i6 r.drawer]
  | .reconciled | .exception => [i6 (r.variance.getD 0)]
  | _ => []

def doReportSales (q : ReportSalesReq) (s : State) : Reply × State :=
  if 255 < q.till ∨ q.figure < -Config.maxSales ∨ Config.maxSales < q.figure then no .badField s
  else if !takesSales (s.till q.till).state then no .wrongState s
  else
    let s1 := salesFollow q.till (s.setTill q.till { s.till q.till with sales := q.figure })
    (okReply (u1 (s1.till q.till).state.code :: (s1.till q.till).figure), s1)

/-- REPORT SALES, R70. -/
def execReportSales (tag : Nat) (body : Body ReportSalesReq) (s : State) : Host.Outcome State Fault Refusal :=
  .next (request 39 tag body doReportSales s)

def doAcceptVariance (q : AcceptVarianceReq) (s : State) : Reply × State :=
  match s.dualControl .supervisor q.op1 q.op2 with
  | some st => no st s
  | none =>
    if 255 < q.till then no .badField s
    else if (s.till q.till).state ≠ .exception then no .wrongState s
    else (okReply [], s.setTill q.till { s.till q.till with accepted := true, state := .reconciled })

/-- ACCEPT VARIANCE, R77. -/
def execAcceptVariance (tag : Nat) (body : Body AcceptVarianceReq) (s : State) : Host.Outcome State Fault Refusal :=
  .next (request 40 tag body doAcceptVariance s)

def doCloseTill (t : Nat) (s : State) : Reply × State :=
  if 255 < t then no .badField s
  else if (s.till t).state ≠ .reconciled then no .wrongState s
  else if s.queueFull then
    (acceptedReply [], s.setTill t { s.till t with state := .closing, closingPending := true })
  else (okReply [], queueSummary t s)

/-- CLOSE TILL, R78. -/
def execCloseTill (tag : Nat) (body : Body Nat) (s : State) : Host.Outcome State Fault Refusal :=
  .next (request 41 tag body doCloseTill s)

/-- A till record's fields, Table 3-1. -/
def tillFields (r : TillRec) : List Field :=
  [u1 r.state.code, u1 r.cls, u2 r.session] ++ countFields r.issued
    ++ [u5 r.floatValue, i6 r.sales, u5 r.pickups] ++ opt r.returned (fun v => [u5 v])
    ++ opt r.variance (fun v => [i6 v]) ++ opt r.band (fun b => [u1 b.code])
    ++ [flag r.accepted, flag r.advised, flag r.closingPending] ++ opt r.openLot fun n => [u1 n]

/-- The build slot of a BUILDING till and D of a till in TRADING or PICKUP, R47. -/
def State.tillExtras (s : State) (t : Nat) : List Field :=
  let r := s.till t
  opt (if r.state = .building then s.buildOf t else none) (fun k => [u1 k])
    ++ opt (if r.state = .trading ∨ r.state = .pickup then some r.drawer else none) fun d => [i6 d]

def doQueryTill (t : Nat) (s : State) : Reply × State :=
  if 255 < t then no .badField s else (okReply (tillFields (s.till t) ++ s.tillExtras t), s)

/-- QUERY TILL, R47. -/
def execQueryTill (tag : Nat) (body : Body Nat) (s : State) : Host.Outcome State Fault Refusal :=
  .next (request 42 tag body doQueryTill s)

end Sys2Proof.Machine
end

