-- ==== Sys2Proof/Machine/ExecCount.lean ====
section
/-! DEFINITION. The meanings of the count unit's requests (Sections 4 and 5). -/

namespace Sys2Proof.Machine

/-! ### SET LINE, RESET STATION, STATION QUERY, R79, R96, R97 -/

def bitRateOk (r : Nat) : Bool := r = 9600 || r = 19200 || r = 38400

/-- A station that is not ABSENT becomes ABSENT when the bit rate changes, R79. -/
def dropStation (n : Nat) (s : State) : State :=
  if (s.station n).state = .absent then s
  else withStation n (changeStation n fun r => { r with state := .absent, pending := none, misses := 0 }) s

def doSetLine (q : SetLineReq) (s : State) : Reply × State :=
  if s.office.mode ≠ .hold then no .holdRequired s
  else if !bitRateOk q.bitRate then no .badField s
  else if q.bitRate ≠ s.count.settings.bitRate ∧ stationNumbers.any fun n => (s.station n).state = .stacked then
    no .wrongState s
  else
    let l : LineSettings := ⟨q.bitRate, clamp 1 7 q.repeatLimit, clamp 10 100 q.pollInterval⟩
    let s1 := { s with count := { s.count with settings := l } }
    (okReply [u2 l.bitRate, u1 l.repeatLimit, u1 l.pollInterval],
      if q.bitRate ≠ s.count.settings.bitRate then State.each dropStation stationNumbers s1 else s1)

/-- SET LINE, R79. -/
def execSetLine (tag : Nat) (body : Body SetLineReq) (s : State) : Host.Outcome State Fault Refusal :=
  .next (request 48 tag body doSetLine s)

def stationOk (n : Nat) : Bool := 1 ≤ n && n ≤ 4

def doResetStation (n : Nat) (s : State) : Reply × State :=
  if !stationOk n then no .badField s
  else if (s.station n).state = .absent then no .wrongState s
  else if (s.station n).resetPending then (acceptedReply [], s)
  else
    let s1 := if (s.station n).working then endJob n .reset s else s
    (acceptedReply [], settle (makePending n (.reset (s.station n).stackLot.isSome) s1))

/-- RESET STATION, R96. -/
def execResetStation (tag : Nat) (body : Body Nat) (s : State) : Host.Outcome State Fault Refusal :=
  .next (request 49 tag body doResetStation s)

/-- A pending command: the code of its record and its body, Table 4-3. STATION QUERY sends it so, after its presence byte;
R97 gives no form for it (DESIGN CHOICE, log entry 31). -/
def commandFields : StationCommand → List Field
  | .beginCount j => [u1 3, u1 j]
  | .fetchReport j => [u1 4, u1 j]
  | .releaseIntake => [u1 5, u1 1]
  | .releaseHand => [u1 5, u1 2]
  | .returnStack => [u1 6]
  | .reset keep => [u1 7, u1 (if keep then 1 else 2)]

/-- A station record's fields, Table 4-4. -/
def stationFields (n : Nat) (r : StationRec) : List Field :=
  [u1 (if isFeeder n then 1 else 2), u1 r.state.code, u1 (mechCode r.mech), u2 r.stack, u1 r.misses]
    ++ opt r.pending commandFields ++ opt r.job (fun j => [u1 j.1, u1 j.2]) ++ [u1 r.attempts]
    ++ opt r.stackLot (fun l => [u1 l]) ++ [u2 r.repeated, u2 r.failed]

def doStationQuery (n : Nat) (s : State) : Reply × State :=
  if !stationOk n then no .badField s
  else
    let l := s.count.settings
    (okReply (stationFields n (s.station n) ++ [u2 l.bitRate, u1 l.repeatLimit, u1 l.pollInterval]),
      changeStation n (fun r => { r with repeated := 0, failed := 0 }) s)

/-- STATION QUERY, R97. -/
def execStationQuery (tag : Nat) (body : Body Nat) (s : State) : Host.Outcome State Fault Refusal :=
  .next (request 50 tag body doStationQuery s)

/-! ### START COUNT, R100 -/

/-- The source's own ranges, check 1 of R100. -/
def sourceInRange : CountSource → Bool
  | .pickup t => t ≤ 255
  | .ret t => t ≤ 255
  | .container n => n ≤ 95
  | .reserveRecount l => !l.isEmpty && l.length ≤ 12 && l.all (· ≤ 11) && distinct l
  | .purge m => m ≤ 1
  | .stranded n => n ≤ 63
  | .unknown => false

/-- The station choice and its suitability to the source, check 1 of R100. -/
def selInRange (src : CountSource) : Option StationSel → Bool
  | none => false
  | some (.one n) => stationOk n
  | some .any => true
  | some .coinOnly => match src with
    | .pickup _ | .ret _ | .container _ => true
    | _ => false

def declaredInRange (d : Option Nat) : Bool :=
  match d with
  | some v => v ≤ Config.maxValue
  | none => true

/-- Another lot in count holds one of these denominations for a reserve recount. -/
def recounting (l : List Nat) : Option LotRec → Bool
  | some r => r.inCount && match r.source with
    | .reserveRecount k => l.any k.contains
    | _ => false
  | none => false

/-- Another lot in count holds the purge bin. -/
def purgeCounting (m : Nat) : Option LotRec → Bool
  | some r => r.inCount && r.source = .purge m
  | none => false

/-- The source is ready, check 3 of R100. -/
def State.sourceReady (s : State) : CountSource → Bool
  | .pickup t => (s.till t).state = .trading
  | .ret t => (s.till t).state = .trading
  | .container n => match s.container n with
    | some c => (c.state = .received || c.state = .closed) && c.countLot = none
    | none => false
  | .reserveRecount l => !s.count.lots.list.any (recounting l)
  | .purge m => !s.count.lots.list.any (purgeCounting m)
  | .stranded n => match s.lot n with
    | some r => r.state = .waiting && r.station = none && (match r.source with | .stranded _ => true | _ => false)
    | none => false
  | .unknown => false

/-- Check 2 of R100: the listed denominations are DEFINED NOTES. -/
def State.sourceNotes (s : State) : CountSource → Bool
  | .reserveRecount l => l.all s.isNote
  | _ => true

/-- The source as a lot records it. -/
def lotSource : CountSource → LotSource
  | .pickup t => .pickup t
  | .ret t => .ret t
  | .container n => .container n
  | .reserveRecount l => .reserveRecount l
  | .purge m => .purge m
  | .stranded n => .stranded n
  | .unknown => .purge 0

/-- A new lot, R100 and R101. -/
def newLot (num : Nat) (src : LotSource) (sel : Option StationSel) (declared : Option Nat) : LotRec where
  state := .waiting
  creation := num
  source := src
  station := sel
  counting := none
  band0 := Counts.zero
  band1 := Counts.zero
  band2 := Counts.zero
  band3 := Counts.zero
  suspects := Counts.zero
  coin := Counts.zero
  declared := declared
  countedValue := 0
  suspectValue := 0
  recounts := 0
  disposal := none
  operator := none

/-- A lot is created in slot `n`: the position claimed, the next creation number taken (R10, R99). -/
def createLot (n : Nat) (src : LotSource) (sel : Option StationSel) (declared : Option Nat) (s : State) : State :=
  let k := nextNumber Config.top32 s.count.lotCounter
  let s1 := claimSlot (lotPos n) s
  { s1 with count := { s1.count with
      lotCounter := k, lots := s1.count.lots.set n (some (newLot k src sel declared)) } }

/-- A lot's job joins the queue unless its station is NONE (R100, R103). -/
def queueJob (n : Nat) (sel : StationSel) (s : State) : State :=
  match sel with
  | .coinOnly => s
  | _ => s.setJobs (s.count.jobs ++ [n])

/-- What the creation of lot `n` changes at its source, R100. -/
def sourceStarted (n : Nat) (src : CountSource) (s : State) : State :=
  match src with
  | .pickup t => s.setTill t { s.till t with state := .pickup, openLot := some n }
  | .ret t => s.setTill t { s.till t with state := .returning, openLot := some n }
  | .container k => match s.container k with
    | some c => s.setContainer k (some { c with countLot := some n })
    | none => s
  | _ => s

def isStranded : CountSource → Option Nat
  | .stranded n => some n
  | _ => none

/-- The lot number and creation number a START COUNT answers. -/
def lotReply (n : Nat) (s : State) : Reply :=
  okReply [u1 n, u4 (((s.lot n).map (·.creation)).getD 0)]

def doStartCount (q : StartCountReq) (s : State) : Reply × State :=
  match q.station with
  | none => no .badField s
  | some sel =>
    if !sourceInRange q.source ∨ !selInRange q.source q.station ∨ !declaredInRange q.declared then no .badField s
    else if !s.sourceNotes q.source then no .denomination s
    else if !s.sourceReady q.source then no .wrongState s
    else if (isStranded q.source).isNone ∧ s.freeLots = [] then no .noSlot s
    else if sel ≠ .coinOnly ∧ Config.jobCap ≤ s.count.jobs.length then no .queueFull s
    else
      match isStranded q.source, s.freeLots with
      | some n, _ =>
        let s1 := match s.lot n with
          | some l => s.setLot n (some { l with station := some sel })
          | none => s
        (lotReply n s1, settle (queueJob n sel s1))
      | none, n :: _ =>
        let s1 := createLot n (lotSource q.source) (some sel) q.declared s
        (lotReply n s1, settle (sourceStarted n q.source (queueJob n sel s1)))
      | none, [] => no .noSlot s

/-- START COUNT, R100. -/
def execStartCount (tag : Nat) (body : Body StartCountReq) (s : State) : Host.Outcome State Fault Refusal :=
  .next (request 51 tag body doStartCount s)

/-! ### DECLARE COIN and SET COIN LIMIT, R107, R108 -/

/-- The lot takes a coin declaration, check 2 of R107. -/
def LotRec.takesCoin (l : LotRec) : Bool :=
  (l.state = .counted || (l.state = .waiting && l.station = some .coinOnly)) &&
    match l.source with
    | .pickup _ | .ret _ | .container _ => true
    | _ => false

/-- The operators' check of a declaration whose coin comes to `v`, checks 5 and 6 of R107. -/
def State.coinOps (s : State) (v a : Nat) (b : Option Nat) : Option Status :=
  if !s.oneOperator a then some .role
  else if v ≤ s.count.coinLimit then none
  else
    match b with
    | none => some .dualControl
    | some b => s.dualControl .supervisor a b

/-- Check 1 of R107. -/
def declareInRange (q : DeclareCoinReq) : Bool :=
  q.lot ≤ 63 && pairsOk q.pairs && opOk q.op1 && (match q.op2 with | some n => opOk n | none => true)

def doDeclareCoin (q : DeclareCoinReq) (s : State) : Reply × State :=
  if !declareInRange q then no .badField s
  else
    match s.lot q.lot with
    | none => no .wrongState s
    | some l =>
      if !l.takesCoin then no .wrongState s
      else
        match q.pairs.find? fun p => !(s.isCoin p.denom || s.isRoll p.denom) with
        | some p => (refusalOf .denomination (some p.denom), s)
        | none =>
          match q.pairs.find? fun p => Config.maxCount < Counts.of l.coin p.denom + p.count with
          | some _ => no .countRange s
          | none =>
            let coin := Counts.add l.coin (pairCounts q.pairs)
            let v := s.valueOf coin
            match s.coinOps v q.op1 q.op2 with
            | some st => no st s
            | none =>
              let l1 := s.revalue { l with coin := coin, state := .counted }
              let s1 := s.setLot q.lot (some l1)
              (okReply [u5 v], if l.state = .waiting then notify (countDone q.lot l1) s1 else s1)

/-- DECLARE COIN, R107. -/
def execDeclareCoin (tag : Nat) (body : Body DeclareCoinReq) (s : State) : Host.Outcome State Fault Refusal :=
  .next (request 52 tag body doDeclareCoin s)

def doSetCoinLimit (v : Nat) (s : State) : Reply × State :=
  if s.office.mode ≠ .hold then no .holdRequired s
  else if Config.maxCoinLimit < v then no .badField s
  else (okReply [], { s with count := { s.count with coinLimit := v } })

/-- SET COIN LIMIT, R108. -/
def execSetCoinLimit (tag : Nat) (body : Body Nat) (s : State) : Host.Outcome State Fault Refusal :=
  .next (request 53 tag body doSetCoinLimit s)

/-! ### ACCEPT COUNT, R109 to R114 -/

/-- The smaller count of each denomination. -/
def countsMin (a b : Counts) : Counts := Tab.ofFn 12 fun d => Nat.min (Counts.of a d) (Counts.of b d)

/-- The recorded counts of a recount source, R113. -/
def State.recorded (s : State) (n : Nat) (src : LotSource) : Counts :=
  match src with
  | .reserveRecount l => countsOnly l.contains (s.posRec reservePos).counts
  | .purge m => (s.posRec (purgePos m)).counts
  | .stranded _ => (s.posRec (lotPos n)).counts
  | .container k => (s.posRec (containerPos k)).counts
  | _ => Counts.zero

/-- A movement of an acceptance with its one operator. -/
def countMove (k : MoveKind) (a b : Side) (c : Counts) (op : Nat) : Movement := ⟨k, a, b, pairsOf c, [op], none⟩

/-- The source's movements, R111, R112, R113; movements without a pair are left out later. -/
def sourceMoves (n op : Nat) (l : LotRec) (r : Counts) : List Movement :=
  let g := l.counted
  let sus := l.suspects
  let lot := Side.pos (lotPos n)
  let adj := Side.external .adjustment
  let var := Side.external .deliveryVariance
  match l.source with
  | .pickup t | .ret t =>
    [countMove .intake (.floor t) lot g op, countMove .suspectAside (.floor t) (.pos suspectPos) sus op]
  | .container k =>
    let a := countsMin sus r
    let b := Counts.sub r a
    [countMove .suspectAside (.pos (containerPos k)) (.pos suspectPos) a op,
      countMove .openForCount (.pos (containerPos k)) lot b op,
      countMove .deliveryVariance var lot (Counts.sub g b) op,
      countMove .deliveryVariance lot var (Counts.sub b g) op,
      countMove .adjust adj (.pos suspectPos) (Counts.sub sus a) op]
  | .reserveRecount _ =>
    [countMove .adjust (.pos reservePos) adj r op, countMove .adjust adj lot g op,
      countMove .adjust adj (.pos suspectPos) sus op]
  | .purge m =>
    [countMove .adjust (.pos (purgePos m)) adj r op, countMove .adjust adj lot g op,
      countMove .adjust adj (.pos suspectPos) sus op]
  | .stranded _ =>
    [countMove .adjust adj lot (Counts.sub g r) op, countMove .adjust lot adj (Counts.sub r g) op,
      countMove .adjust adj (.pos suspectPos) sus op]

/-- The counts the lot holds after the source's movements. -/
def State.afterSource (s : State) (n : Nat) (l : LotRec) : Counts :=
  match l.source with
  | .stranded _ => l.counted
  | _ => Counts.add (s.posRec (lotPos n)).counts l.counted

/-- The disposal's movement, R114. -/
def disposalMoves (s : State) (n op : Nat) (d : Disposal) (c : Counts) : List Movement :=
  let lot := Side.pos (lotPos n)
  match d with
  | .reserve => [countMove .disposeReserve lot (.pos reservePos) c op]
  | .container k => [countMove .fill lot (.pos (containerPos k)) c op]
  | .deposit => [countMove .disposeReserve lot (.pos reservePos) (countsOnly (fun d => !s.isNote d) c) op]

/-- The whole group of an acceptance, R109. -/
def State.acceptGroup (s : State) (n op : Nat) (d : Disposal) (l : LotRec) : List Movement :=
  withPairs (sourceMoves n op l (s.recorded n l.source) ++ disposalMoves s n op d (s.afterSource n l))

/-- R110: the disposal is refused. -/
def State.disposalRefused (s : State) (d : Disposal) (l : LotRec) : Bool :=
  match d with
  | .deposit => l.hasNotes && !(l.counting = some 1 || l.counting = some 2)
  | .container k =>
    l.source = .container k || match s.container k with
      | some c => c.state ≠ .opened
      | none => true
  | .reserve => false

/-- The operators' check of an acceptance, R109. -/
def State.acceptOps (s : State) (src : LotSource) (a : Nat) (b : Option Nat) : Option Status :=
  match src with
  | .pickup _ | .ret _ | .container _ => if s.oneOperator a then none else some .role
  | _ => match b with
    | none => some .dualControl
    | some b => s.dualControl .supervisor a b

/-- The till desk refuses the counted value, R46. -/
def State.tillRefuses (s : State) (l : LotRec) : Bool :=
  match l.source with
  | .pickup t => Config.maxTillValue < (s.till t).pickups + l.countedValue
  | .ret _ => Config.maxTillValue < l.countedValue
  | _ => false

/-- The till's part of an acceptance, R73 and R75. -/
def tillAccepts (l : LotRec) (s : State) : State :=
  match l.source with
  | .pickup t =>
    let r := s.till t
    adviseTill t (s.setTill t { r with pickups := r.pickups + l.countedValue, state := .trading, openLot := none })
  | .ret t =>
    let r := reconcile s { s.till t with returned := some l.countedValue, openLot := none }
    let s1 := s.setTill t r
    if r.state = .exception then notify (exceptionNotice t r) s1 else s1
  | _ => s

/-- The container source's part of an acceptance, R112, and what its release brings about at the bay (R188). -/
def containerAccepts (l : LotRec) (s : State) : State :=
  match l.source with
  | .container k => bayAfter (releaseContainer k s)
  | _ => s

/-- RELEASE STACK with destination HAND for the stack at station `k`, if one is named: its stack lot becomes absent (R114,
R120). -/
def releaseToHand (k : Option Nat) (s : State) : State :=
  match k with
  | some k => changeStation k (fun r => { r with stackLot := none }) (giveStack k .releaseHand s)
  | none => s

/-- The lot's way after its acceptance, R114: its counting station releases the stack it holds for the lot. A counting
station whose stack has already left, as a stack of suspects only may, is given no command (DESIGN CHOICE, log entry 56). -/
def afterAccept (n : Nat) (d : Disposal) (l : LotRec) (s : State) : State :=
  if d = .deposit ∧ l.hasNotes then
    let s1 := s.setLot n (some { l with state := .disposing })
    match s1.countingHolder n l with
    | some k => giveStack k .releaseIntake s1
    | none => s1
  else finishLot n (releaseToHand (s.countingHolder n l) s)

/-- Check 1 of R109. -/
def acceptInRange (q : AcceptCountReq) : Bool :=
  q.lot ≤ 63 && opOk q.op1 && (match q.op2 with | some n => opOk n | none => true) &&
    match q.disposal with
    | some (.container k) => k ≤ 95
    | some _ => true
    | none => false

/-- The first and the last number of a group, 0 where it has no movement. -/
def firstLast (l : List Nat) : List Field := [u4 (l.head?.getD 0), u4 (l.getLast?.getD 0)]

/-- What follows at the lot, its source and its station when the book has applied the group, R109. -/
def acceptLot (n op : Nat) (d : Disposal) (l : LotRec) (s : State) : State :=
  let l1 := { l with disposal := some d, operator := some op }
  let s1 := jobLeaves n (s.setLot n (some l1))
  afterAccept n d l1 (containerAccepts l1 (tillAccepts l1 s1))

def doAcceptCount (q : AcceptCountReq) (s : State) : Reply × State :=
  if !acceptInRange q then no .badField s
  else
    match s.lot q.lot, q.disposal with
    | some l, some d =>
      if l.state ≠ .counted then no .wrongState s
      else
        match s.acceptOps l.source q.op1 q.op2 with
        | some st => no st s
        | none =>
          if s.disposalRefused d l then no .wrongState s
          else if s.tillRefuses l then no .countRange s
          else
            let g := s.acceptGroup q.lot q.op1 d l
            match applyGroup 1 g s with
            | .error (i, r) => (groupRefusal i r, s)
            | .ok s1 =>
              (okReply (firstLast (s.numbersOf g.length) ++ [u5 l.countedValue]),
                settle (acceptLot q.lot q.op1 d l s1))
    | _, _ => no .wrongState s

/-- ACCEPT COUNT, R109. -/
def execAcceptCount (tag : Nat) (body : Body AcceptCountReq) (s : State) : Host.Outcome State Fault Refusal :=
  .next (request 54 tag body doAcceptCount s)

/-! ### REJECT COUNT, VOID LOT, R117, R118 -/

/-- RETURN STACK to the counting station of a lot with genuine notes (R117, R118). -/
def returnStackOf (n : Nat) (l : LotRec) (s : State) : State :=
  if l.hasNotes then
    match s.countingHolder n l with
    | some k => giveStack k .returnStack s
    | none => s
  else s

def doRejectCount (n : Nat) (s : State) : Reply × State :=
  if 63 < n then no .badField s
  else
    match s.lot n with
    | none => no .wrongState s
    | some l =>
      if l.state ≠ .counted then no .wrongState s
      else if Config.recountLimit ≤ l.recounts then no .recountLimit s
      else (okReply [u1 (l.recounts + 1)], settle (recountLot n true (returnStackOf n l s)))

/-- REJECT COUNT, R117. -/
def execRejectCount (tag : Nat) (body : Body Nat) (s : State) : Host.Outcome State Fault Refusal :=
  .next (request 55 tag body doRejectCount s)

/-- The lot may be voided, R118. -/
def LotRec.voidable (l : LotRec) : Bool :=
  (l.state = .waiting || l.state = .counted) && match l.source with
    | .stranded _ => false
    | _ => true

/-- The source of a voided lot as it was before START COUNT, R118. -/
def restoreSource (l : LotRec) (s : State) : State :=
  match l.source with
  | .pickup t | .ret t => s.setTill t { s.till t with state := .trading, openLot := none }
  | .container k => match s.container k with
    | some c => s.setContainer k (some { c with countLot := none })
    | none => s
  | _ => s

/-- What VOID LOT does, R118. -/
def voidLot (n : Nat) (l : LotRec) (s : State) : State :=
  let s1 := jobLeaves n s
  let s2 := if l.state = .counted then returnStackOf n l s1 else s1
  voidRelease n ((restoreSource l s2).setLot n (some { l with state := .void }))

def doVoidLot (n : Nat) (s : State) : Reply × State :=
  if 63 < n then no .badField s
  else
    match s.lot n with
    | none => no .wrongState s
    | some l => if l.voidable then (okReply [], settle (voidLot n l s)) else no .wrongState s

/-- VOID LOT, R118. -/
def execVoidLot (tag : Nat) (body : Body Nat) (s : State) : Host.Outcome State Fault Refusal :=
  .next (request 56 tag body doVoidLot s)

/-! ### RESUME DISPOSAL, DISPOSE LOT RESERVE, R120 -/

/-- The intake head of a lot's counting station. -/
def LotRec.head (l : LotRec) : Nat := (l.counting.getD 1) - 1

def doResumeDisposal (n : Nat) (s : State) : Reply × State :=
  if 63 < n then no .badField s
  else
    match s.lot n with
    | none => no .wrongState s
    | some l =>
      if l.state ≠ .disposeInterrupted ∨ l.disposal ≠ some .deposit then no .wrongState s
      else
        let s1 := s.setLot n (some { l with state := .disposing })
        (acceptedReply [], settle (match s.feederHolder n l with
          | some k => giveStack k .releaseIntake s1
          | none => giveHead l.head n s1))

/-- RESUME DISPOSAL, R120. -/
def execResumeDisposal (tag : Nat) (body : Body Nat) (s : State) : Host.Outcome State Fault Refusal :=
  .next (request 57 tag body doResumeDisposal s)

def doDisposeLotReserve (q : DisposeLotReserveReq) (s : State) : Reply × State :=
  if 63 < q.lot then no .badField s
  else
    match s.lot q.lot with
    | none => no .wrongState s
    | some l =>
      if l.state ≠ .disposeInterrupted then no .wrongState s
      else if !s.oneOperator q.op then no .role s
      else
        let m := countMove .disposeReserve (.pos (lotPos q.lot)) (.pos reservePos) (s.posRec (lotPos q.lot)).counts q.op
        match checkMovement m false s with
        | some r => noBook r s
        | none =>
          (okReply [u4 s.nextMove], settle (finishLot q.lot (releaseToHand (s.stackHolder q.lot l) (applyMovement m s))))

/-- DISPOSE LOT RESERVE, R120. -/
def execDisposeLotReserve (tag : Nat) (body : Body DisposeLotReserveReq) (s : State) :
    Host.Outcome State Fault Refusal :=
  .next (request 58 tag body doDisposeLotReserve s)

/-! ### QUERY LOT and QUERY JOBS, R121 -/

/-- A lot record's fields, Table 5-1. The bands go one after another as 12 counts each, and the suspects and the coin as 12
counts each, over every index (DESIGN CHOICE, log entry 59). -/
def lotFields (l : LotRec) : List Field :=
  [u1 l.state.code, u4 l.creation] ++ sourceFields l.source ++ opt l.station (fun x => [stationSelField x])
    ++ opt l.counting (fun n => [u1 n]) ++ countFields l.band0 ++ countFields l.band1 ++ countFields l.band2
    ++ countFields l.band3 ++ countFields l.suspects ++ countFields l.coin ++ opt l.declared (fun v => [u6 v])
    ++ [u5 l.countedValue, u5 l.suspectValue, u1 l.recounts] ++ opt l.disposal disposalFields
    ++ opt l.operator fun o => [u3 o]

/-- A lot's place in the job queue, counted from 1 (log entry 59). -/
def State.jobPlace (s : State) (n : Nat) : Option Nat := (s.count.jobs.idxOf? n).map (· + 1)

def doQueryLot (n : Nat) (s : State) : Reply × State :=
  if 63 < n then no .badField s
  else
    match s.lot n with
    | none => (okReply [u1 1], s)
    | some l =>
      (okReply (lotFields l ++ countFields (s.posRec (lotPos n)).counts ++ opt (s.jobPlace n) fun k => [u1 k]), s)

/-- QUERY LOT, R121. -/
def execQueryLot (tag : Nat) (body : Body Nat) (s : State) : Host.Outcome State Fault Refusal :=
  .next (request 59 tag body doQueryLot s)

/-- A job as QUERY JOBS lists it. -/
def jobFields (s : State) (n : Nat) : List Field :=
  match s.lot n with
  | some l => [u1 n, u1 l.state.code] ++ opt l.station (fun x => [stationSelField x]) ++ opt l.counting fun k => [u1 k]
  | none => [u1 n, u1 1, u1 0, u1 0]

def doQueryJobs (_ : Unit) (s : State) : Reply × State :=
  (okReply (listField s.count.jobs (jobFields s) ++ stationNumbers.map fun n => flag (s.offerable n)), s)

/-- QUERY JOBS, R121. -/
def execQueryJobs (tag : Nat) (body : Body Unit) (s : State) : Host.Outcome State Fault Refusal :=
  .next (request 60 tag body doQueryJobs s)

end Sys2Proof.Machine
end

