-- ==== Sys2Proof/Machine/ExecRecycler.lean ====
section
/-! DEFINITION. The meanings of the recycler controller's requests (Sections 6, 7 and 8). -/

namespace Sys2Proof.Machine

/-! ### SET CASSETTE, INSERT CASSETTE, R127, R130 -/

/-- The role may be set and goes with the denomination given or not given (R127, R130). -/
def roleSuits (r : Option Role) (d : Option Nat) : Bool :=
  match r with
  | some .recycle | some .depositOnly => d.isSome
  | some .unassigned | some .spare => d.isNone
  | some .retired | none => false

def capacityOk (c : Nat) : Bool := Config.minCapacity ≤ c && c ≤ Config.maxCapacity

/-- A denomination given is a DEFINED NOTE. -/
def State.noteGiven (s : State) (d : Option Nat) : Bool :=
  match d with
  | some d => s.isNote d
  | none => true

/-- The cassette is not to be changed, check 3 of R127. -/
def CasRec.setBarred (r : CasRec) : Bool :=
  !r.present || r.role = .retired || r.mismatch || r.evacSource || r.evacSpare

/-- The number of notes in a cassette. -/
def State.cassetteCount (s : State) (c : Nat) : Nat := (s.posRec (cassettePos c)).counts.items

def doSetCassette (q : SetCassetteReq) (s : State) : Reply × State :=
  if s.office.mode ≠ .hold then no .holdRequired s
  else
    match slotIndex q.slot, q.role with
    | some c, some role =>
      let r := s.cassette c
      if !capacityOk q.capacity ∨ !roleSuits q.role q.denom then no .badField s
      else if r.setBarred then no .wrongState s
      else if !s.noteGiven q.denom then no .denomination s
      else if s.cassetteCount c ≠ 0 ∧ (q.denom ≠ r.denom ∨ role = .unassigned ∨ role = .spare) then no .inUse s
      else if q.capacity < s.cassetteCount c then no .capacity s
      else
        (okReply [], settle (s.setCassette c { r with role := role, denom := q.denom, capacity := q.capacity }))
    | _, _ => no .badField s

/-- SET CASSETTE, R127. -/
def execSetCassette (tag : Nat) (body : Body SetCassetteReq) (s : State) : Host.Outcome State Fault Refusal :=
  .next (request 64 tag body doSetCassette s)

/-- A denomination given lies in its range. -/
def denomGiven (d : Option Nat) : Bool :=
  match d with
  | some d => d ≤ 11
  | none => true

def tagOk (t : Nat) : Bool := 1 ≤ t && t ≤ Config.top32

def doInsertCassette (q : InsertCassetteReq) (s : State) : Reply × State :=
  if s.office.mode ≠ .hold then no .holdRequired s
  else
    match slotIndex q.slot, q.role with
    | some c, some role =>
      if !capacityOk q.capacity ∨ !denomGiven q.denom ∨ !roleSuits q.role q.denom ∨ !tagOk q.tagNumber then
        no .badField s
      else if (s.cassette c).present then no .wrongState s
      else if !s.noteGiven q.denom then no .denomination s
      else if s.isCassetteTag q.tagNumber (some c) ∨ s.inRegister q.tagNumber then no .numberInUse s
      else
        (okReply [], changeCassette c (fun r => { r with
          announced := some ⟨q.tagNumber, role, q.denom, q.capacity⟩ }) s)
    | _, _ => no .badField s

/-- INSERT CASSETTE, R130. -/
def execInsertCassette (tag : Nat) (body : Body InsertCassetteReq) (s : State) : Host.Outcome State Fault Refusal :=
  .next (request 65 tag body doInsertCassette s)

/-! ### REMOVE CASSETTE, R131, R132 -/

/-- The option suits the cassette, check 6 of R131. -/
def State.removable (s : State) (c : Nat) (o : RemoveOption) : Bool :=
  let r := s.cassette c
  match o with
  | .empty => s.cassetteCount c = 0
  | .forCollection => r.role = .depositOnly && !r.mismatch
  | .stranded => r.stranded

/-- The slot is vacant from now on; its sensed tag and announcement stay (R125, R128). -/
def vacate (c : Nat) (s : State) : State :=
  changeCassette c (fun r => { CasRec.vacant with sensed := r.sensed, announced := r.announced }) s

/-- The removal of a stranded source ends the STRANDED record, R168. -/
def strandedRemoved (c : Nat) (s : State) : State :=
  if s.evac.state = .stranded ∧ s.evac.source = some c then
    s.setEvac { s.evac with state := .idle, source := none }
  else s

/-- The container a removed deposit cassette becomes, R132. -/
def collectedCassette (tag : Nat) : ContRec := ⟨.closed, tag, .cassette, .office, none, none, none⟩

/-- The two ADJUST movements of a removal for collection, R132. -/
def collectMoves (s : State) (c n a b : Nat) : List Movement :=
  let p := pairsOf (s.posRec (cassettePos c)).counts
  withPairs [⟨.adjust, .pos (cassettePos c), .external .adjustment, p, [a, b], none⟩,
    ⟨.adjust, .external .adjustment, .pos (containerPos n), p, [a, b], none⟩]

/-- The movement numbers a removal answers. -/
def numberList (l : List Nat) : List Field := listField l fun n => [u4 n]

/-- A removal for collection: the container claimed, the movements, the slot vacant (R132). -/
def removeForCollection (c a b : Nat) (s : State) : Reply × State :=
  let tag := (s.cassette c).tag.getD 0
  if s.inRegister tag then no .numberInUse s
  else
    match s.freeContainers with
    | [] => no .noSlot s
    | n :: _ =>
      let s1 := (claimSlot (containerPos n) s).setContainer n (some (collectedCassette tag))
      let g := collectMoves s c n a b
      match applyGroup 1 g s1 with
      | .error (i, r) => (groupRefusal i r, unclaim n s1)
      | .ok s2 => (okReply (numberList (s.numbersOf g.length) ++ [u1 n]), settle (vacate c s2))

/-- The STRANDED_RECOVERY movement, R101. -/
def recoveryMove (s : State) (c n a b : Nat) : Movement :=
  ⟨.strandedRecovery, .pos (cassettePos c), .pos (lotPos n), pairsOf (s.posRec (cassettePos c)).counts, [a, b], none⟩

/-- A removal of a stranded cassette: the recovery lot, its movement, the slot vacant (R101, R132). -/
def removeStranded (c a b : Nat) (s : State) : Reply × State :=
  match s.freeLots with
  | [] => no .noSlot s
  | n :: _ =>
    let s1 := createLot n (.stranded c) none none s
    let g := withPairs [recoveryMove s c n a b]
    match applyGroup 1 g s1 with
    | .error (i, r) => (groupRefusal i r, s)
    | .ok s2 =>
      (okReply (numberList (s.numbersOf g.length) ++ [u1 n]), settle (strandedRemoved c (vacate c s2)))

def doRemoveCassette (q : RemoveCassetteReq) (s : State) : Reply × State :=
  if s.office.mode ≠ .hold then no .holdRequired s
  else
    match slotIndex q.slot, q.option with
    | some c, some o =>
      if !opOk q.op1 ∨ !opOk q.op2 then no .badField s
      else
        match s.dualControl .custodian q.op1 q.op2 with
        | some st => no st s
        | none =>
          let r := s.cassette c
          if (s.module (moduleOf c)).state ≠ .safeOpen then no .wrongState s
          else if !r.present ∨ r.evacSource ∨ r.evacSpare then no .wrongState s
          else if !s.removable c o then no .wrongState s
          else
            match o with
            | .empty => (okReply (numberList []), settle (strandedRemoved c (vacate c s)))
            | .forCollection => removeForCollection c q.op1 q.op2 s
            | .stranded => removeStranded c q.op1 q.op2 s
    | _, _ => no .badField s

/-- REMOVE CASSETTE, R131 and R132. -/
def execRemoveCassette (tag : Nat) (body : Body RemoveCassetteReq) (s : State) : Host.Outcome State Fault Refusal :=
  .next (request 66 tag body doRemoveCassette s)

/-! ### SET ROUTE, R133 -/

/-- Each number of the list is above the next. -/
def descending : List Nat → Bool
  | a :: b :: l => b < a && descending (b :: l)
  | _ => true

/-- The cassettes of a range's ways, or none where one is unknown, named twice, or they are too many. -/
def waysOf (r : RangeReq) : Option (List Nat) :=
  match r.ways.mapM slotIndex with
  | some l => if l.length ≤ 4 ∧ distinct l then some l else none
  | none => none

/-- The ranges as stored: the last one's limit 0, every pointer 0. -/
def storedRanges : List (Nat × List Nat) → List Range
  | [] => []
  | [(_, w)] => [⟨0, w, 0⟩]
  | (l, w) :: rs => ⟨l, w, 0⟩ :: storedRanges rs

/-- Check 2 of R133: the ranges' limits with their cassettes. -/
def rangesOk (l : List RangeReq) : Option (List (Nat × List Nat)) :=
  if l.isEmpty ∨ 3 < l.length ∨ l.any (fun r => 3 < r.limit) ∨ !descending (l.map RangeReq.limit) then none
  else l.mapM fun r => (waysOf r).map fun w => (r.limit, w)

def doSetRoute (q : SetRouteReq) (s : State) : Reply × State :=
  if s.office.mode ≠ .hold then no .holdRequired s
  else
    match rangesOk q.ranges with
    | none => no .badField s
    | some l =>
      let ways := (l.map Prod.snd).flatten
      if !s.isNote q.denom then no .denomination s
      else if ways.any fun c => !((s.cassette c).present
          && ((s.cassette c).role = .recycle || (s.cassette c).role = .depositOnly)) then no .wrongState s
      else if ways.any fun c => (s.cassette c).denom ≠ some q.denom then no .denomination s
      else (okReply [], s.setRanges q.denom (storedRanges l))

/-- SET ROUTE, R133. -/
def execSetRoute (tag : Nat) (body : Body SetRouteReq) (s : State) : Host.Outcome State Fault Refusal :=
  .next (request 67 tag body doSetRoute s)

/-! ### QUERY RECYCLER, R145 -/

def moduleFields (r : ModRec) : List Field :=
  [u1 r.state.code] ++ opt (if r.state = .starting then some r.step else none) (fun x => [u1 x.code]) ++ [flag r.fault]

/-- The sensed tag: absent, or present with the tag or, for NONE, with the number 0, which is no tag (DESIGN CHOICE, log
entry 57). -/
def sensedFields : Sensed → List Field
  | .absent => [u1 0]
  | .none => [u1 1, u4 0]
  | .tag t => [u1 1, u4 t]

def flagFields (r : CasRec) : List Field :=
  [flag r.atThreshold, flag r.evacSource, flag r.evacSpare, flag r.stranded, flag r.mismatch]

/-- A cassette record with its book count and 90 % mark. -/
def cassetteFields (s : State) (c : Nat) : List Field :=
  let r := s.cassette c
  [flag r.present] ++ opt r.tag (fun t => [u4 t]) ++ sensedFields r.sensed ++ [u1 (roleCode r.role)]
    ++ opt r.denom (fun d => [u1 d]) ++ [u2 r.capacity, u1 r.bucket, u2 r.good] ++ flagFields r
    ++ opt r.announced (fun a => [u4 a.tag, u1 (roleCode a.role)] ++ opt a.denom (fun d => [u1 d]) ++ [u2 a.capacity])
    ++ [u2 (s.cassetteCount c), u2 (mark90 r.capacity)]

def rangeFields (r : Range) : List Field := [u1 r.limit] ++ listField r.ways slotFields ++ [u1 r.next]

/-- A position as a movement side, in two bytes (R38, R201). -/
def positionSide (p : Nat) : List Field := sideFields (.pos p)

def pairEntryFields (e : PairEntry) : List Field := positionSide e.src ++ positionSide e.dst ++ countFields e.counts

/-- The run record up to its pair list, Table 6-4. -/
def runHeadFields (r : Run) : List Field :=
  [u1 r.state.code, u1 r.kind.code] ++ requesterFields r.requester ++ opt r.denom (fun d => [u1 d]) ++ [u1 r.limit, u1 r.moved]

/-- The run record from its pair list on, Table 6-4: the pair list, the counts in path by source and the left set are its
lists. -/
def runLists (r : Run) : List (List (List Field) × List (List Field)) :=
  [(r.pairs.map pairEntryFields, []),
    (r.pathSources.map (fun p => positionSide p ++ countFields (r.pathCounts p)), [countFields r.escrowed, [u1 r.foreign]]),
    (r.left.map slotFields, [[u1 r.failed], opt r.bin fun m => [u1 m], opt r.cause fun c => [u1 c.code]])]

/-- The reply's fields in the order of R145: the modules and the cassettes one after another, the ranges of each
denomination as a list, and the run record, whose fields before its first list follow the last denomination's ranges. Twelve
cassettes with kept announcements leave no room for the whole: the run record's last fields then go too (log entry 33). -/
def doQueryRecycler (_ : Unit) (s : State) : Reply × State :=
  (⟨.ok, (allModules.map fun m => moduleFields (s.module m)).flatten ++ (allCassettes.map (cassetteFields s)).flatten,
    denoms.map (fun d => ((s.ranges d).map rangeFields, if d = 11 then [runHeadFields s.recycler.run] else []))
      ++ runLists s.recycler.run⟩, s)

/-- QUERY RECYCLER, R145. -/
def execQueryRecycler (tag : Nat) (body : Body Unit) (s : State) : Host.Outcome State Fault Refusal :=
  .next (request 68 tag body doQueryRecycler s)

/-! ### SET ARBITER, the float window, QUERY ARBITER, R147, R154, R157 -/

/-- The settings other than the run length lie in their ranges. -/
def arbiterOk (q : SetArbiterReq) : Bool :=
  q.ratio ≤ 15 && q.decr ≤ 15 && q.limit ≤ 4095 && q.clip ≤ 4095 && 1 ≤ q.patience && q.patience ≤ 64

def settingFields (a : ArbSettings) : List Field :=
  [u1 a.runLength, u1 a.ratio, u1 a.decr, u2 a.limit, u2 a.clip, u1 a.patience, u1 (preemptionCode a.preemption)]

def doSetArbiter (q : SetArbiterReq) (s : State) : Reply × State :=
  if s.office.mode ≠ .hold then no .holdRequired s
  else
    match q.preemption with
    | none => no .badField s
    | some p =>
      if !arbiterOk q then no .badField s
      else
        let a : ArbSettings :=
          ⟨clamp 10 50 q.runLength, q.ratio, q.decr, Nat.min q.limit q.clip, q.clip, q.patience, p⟩
        (okReply (settingFields a),
          s.setArbiter { s.arbiter with settings := a, account := Nat.min s.arbiter.account q.clip })

/-- SET ARBITER, R147. -/
def execSetArbiter (tag : Nat) (body : Body SetArbiterReq) (s : State) : Host.Outcome State Fault Refusal :=
  .next (request 69 tag body doSetArbiter s)

def setWindow (w : Option Nat) (s : State) : State := s.setArbiter { s.arbiter with window := w }

def doOpenFloatWindow (n : Nat) (s : State) : Reply × State :=
  if n < 60 ∨ 7200 < n then no .badField s else (okReply [], settle (setWindow (some n) s))

/-- OPEN FLOAT WINDOW, R154. -/
def execOpenFloatWindow (tag : Nat) (body : Body Nat) (s : State) : Host.Outcome State Fault Refusal :=
  .next (request 70 tag body doOpenFloatWindow s)

def doCloseFloatWindow (_ : Unit) (s : State) : Reply × State := (okReply [], setWindow none s)

/-- CLOSE FLOAT WINDOW, R154. -/
def execCloseFloatWindow (tag : Nat) (body : Body Unit) (s : State) : Host.Outcome State Fault Refusal :=
  .next (request 71 tag body doCloseFloatWindow s)

/-- A given entry of the request table: its fields, and whether it waits (1), is in service (2) or is held back (3). -/
def entryStatus (inService held : Bool) : Field := u1 (if inService then 2 else if held then 3 else 1)

/-- The request table's given entries, Table 7-1. The evacuate entry's source and spare are sent as the optional fields that
they are in the record of Table 8-2 (DESIGN CHOICE, log entry 58). -/
def State.requestTable (s : State) : List (List Field) :=
  let a := s.arbiter
  let head := fun h => if a.heads.get [] h = [] then [] else
    [[u1 (h + 1)] ++ listField (a.heads.get [] h) (fun n => [u1 n])
      ++ [entryStatus (s.runningKind .deposit && s.recycler.run.requester = .head h) false]]
  head 0 ++ head 1
    ++ (match a.trayReturn with
      | some k => [[u1 3, u1 k, entryStatus (s.runningKind .trayReturn) false]]
      | none => [])
    ++ (match a.dispense with
      | some q => [[u1 4, u1 q.slot, u1 q.denom, u2 q.remaining, entryStatus (s.runningKind .dispense) s.promoted]]
      | none => [])
    ++ (if a.evacuate then [u1 5 :: (opt s.evac.source slotFields ++ opt s.evac.spare slotFields)
        ++ [entryStatus (s.runningKind .evacuate) false]] else [])

def depositCode : DepositEntry → Nat
  | .head h => h + 1
  | .trayReturn => 3

/-- The closed conditions of R149, each set or clear. -/
def State.closedConditions (s : State) : List Field :=
  [flag (s.office.mode ≠ .trading), flag (s.office.safe.state ≠ .locked || s.office.safe.sensorOpen),
    flag (allModules.any fun m => (s.module m).state = .offline || (s.module m).state = .starting),
    flag (s.recycler.run.state ≠ .idle || s.recycler.purge ≠ none)]

/-- The float window as a choice, CLOSED 1 or OPEN 2 with its remaining time (R154, R201). -/
def windowFields : Option Nat → List Field
  | none => [u1 1]
  | some n => [u1 2, u2 n]

/-- What R157 lists; the run in progress is one that is RUNNING or PURGING (DESIGN CHOICE, log entry 63). Each of its "whether" and each closed condition of R149 goes as one byte, 1 for yes and 2 for no, as a
choice between set and clear (DESIGN CHOICE, log entry 58). -/
def doQueryArbiter (_ : Unit) (s : State) : Reply × State :=
  let a := s.arbiter
  let r := s.recycler.run
  (okReply (settingFields a.settings ++ [u2 a.account, u1 a.skips] ++ windowFields a.window
    ++ [flag s.grantsOpen] ++ s.closedConditions ++ [flag s.spineIdle]
    ++ listField s.requestTable id ++ listField a.order (fun e => [u1 (depositCode e)]) ++ [flag s.promoted]
    ++ opt (if r.inProgress then some r else none) fun r => u1 r.kind.code :: requesterFields r.requester ++ [u1 r.moved]),
    s)

/-- QUERY ARBITER, R157. -/
def execQueryArbiter (tag : Nat) (body : Body Unit) (s : State) : Host.Outcome State Fault Refusal :=
  .next (request 72 tag body doQueryArbiter s)

/-! ### Fault policy, buckets and the evacuation's requests, R160 to R164, R170 -/

/-- AT_THRESHOLD is set where it is due on a present cassette (R160). -/
def dueThreshold (c : Nat) (s : State) : State :=
  if (s.cassette c).present ∧ s.thresholdDue c then setThreshold c s else s

def doSetFaultPolicy (q : SetFaultPolicyReq) (s : State) : Reply × State :=
  if s.office.mode ≠ .hold then no .holdRequired s
  else if q.threshold < 1 ∨ 255 < q.threshold then no .badField s
  else
    let leak := clamp 50 1000 q.leakNotes
    (okReply [u1 q.threshold, u2 leak],
      settle (State.each dueThreshold allCassettes
        (s.setEvac { s.evac with threshold := q.threshold, leakNotes := leak })))

/-- SET FAULT POLICY, R160. -/
def execSetFaultPolicy (tag : Nat) (body : Body SetFaultPolicyReq) (s : State) : Host.Outcome State Fault Refusal :=
  .next (request 73 tag body doSetFaultPolicy s)

def doClearBucket (q : SlotOpsReq) (s : State) : Reply × State :=
  match slotIndex q.slot with
  | none => no .badField s
  | some c =>
    if !opOk q.op1 ∨ !opOk q.op2 then no .badField s
    else
      match s.dualControl .supervisor q.op1 q.op2 with
      | some st => no st s
      | none =>
        if !(s.cassette c).present then no .wrongState s
        else
          (okReply [], settleClear (changeCassette c (fun r => { r with bucket := 0, good := 0, atThreshold := false }) s))

/-- CLEAR BUCKET, R161. -/
def execClearBucket (tag : Nat) (body : Body SlotOpsReq) (s : State) : Host.Outcome State Fault Refusal :=
  .next (request 74 tag body doClearBucket s)

def doSetEvacuation (q : SetEvacuationReq) (s : State) : Reply × State :=
  match q.enable with
  | none => no .badField s
  | some e =>
    if 1 < q.module then no .badField s
    else (okReply [], settle (s.setEvac { s.evac with enables := s.evac.enables.set q.module e }))

/-- SET EVACUATION, R162. -/
def execSetEvacuation (tag : Nat) (body : Body SetEvacuationReq) (s : State) : Host.Outcome State Fault Refusal :=
  .next (request 75 tag body doSetEvacuation s)

/-- The cassette may be a forced source, check 5 of R164. -/
def CasRec.sourceable (r : CasRec) : Bool :=
  r.present && (r.role = .recycle || r.role = .depositOnly)
    && !r.evacSource && !r.evacSpare && !r.stranded && !r.mismatch

def doStartEvacuation (q : SlotOpsReq) (s : State) : Reply × State :=
  match slotIndex q.slot with
  | none => no .badField s
  | some c =>
    if !opOk q.op1 ∨ !opOk q.op2 then no .badField s
    else if s.office.mode ≠ .trading then no .inHold s
    else
      match s.dualControl .supervisor q.op1 q.op2 with
      | some st => no st s
      | none =>
        if s.evac.state ≠ .idle then no .wrongState s
        else if !(s.cassette c).sourceable then no .wrongState s
        else if !s.inService (moduleOf c) ∨ !s.evac.enables.get false (moduleOf c) then no .wrongState s
        else
          match s.spareFor c with
          | none => no .noSlot s
          | some b => (okReply (slotFields b), settle (startEvac c b true s))

/-- START EVACUATION, R164. -/
def execStartEvacuation (tag : Nat) (body : Body SlotOpsReq) (s : State) : Host.Outcome State Fault Refusal :=
  .next (request 76 tag body doStartEvacuation s)

/-- The evacuation record, Table 8-2. A retired cassette was present and so has its tag (R125, R128); 0 stands for none in a
state that no run reaches. -/
def evacFields (e : Evacuation) : List Field :=
  [u1 e.state.code] ++ opt e.source slotFields ++ opt e.spare slotFields
    ++ [flag e.forced, u2 e.atStart, u2 e.moved, u1 e.failures] ++ opt e.pause (fun p => [u1 p.code])
    ++ opt e.last (fun r => [u1 r.code])
    ++ (allModules.map fun m => opt (e.retired.get none m) fun q => slotFields q.1 ++ [u4 (q.2.getD 0)]).flatten

def doQueryEvacuation (_ : Unit) (s : State) : Reply × State :=
  let present := allCassettes.filter fun c => (s.cassette c).present
  (okReply (evacFields s.evac ++ (allModules.map fun m => flag (s.evac.enables.get false m))
    ++ [u1 s.evac.threshold, u2 s.evac.leakNotes]
    ++ listField present (fun c =>
      slotFields c ++ [u1 (s.cassette c).bucket, u2 (s.cassette c).good] ++ flagFields (s.cassette c))
    ++ listField s.candidates (fun c => slotFields c ++ ((s.spareFor c).map slotFields).getD [])
    ++ [flag s.promoted]), s)

/-- QUERY EVACUATION, R170. -/
def execQueryEvacuation (tag : Nat) (body : Body Unit) (s : State) : Host.Outcome State Fault Refusal :=
  .next (request 77 tag body doQueryEvacuation s)

end Sys2Proof.Machine
end

