-- ==== Sys2Proof/Machine/ExecBay.lean ====
section
/-! DEFINITION. The meanings of the bay controller's requests (Section 9). -/

namespace Sys2Proof.Machine

/-! ### Bags, R173 to R175 -/

def bagNumberOk (n : Nat) : Bool := 1 ≤ n && n ≤ Config.maxBagNumber

/-- A number may not join the register, R172. -/
def State.numberTaken (s : State) (n : Nat) : Bool := s.inRegister n || s.isCassetteTag n none

/-- A newly opened bag, R173. -/
def openedBag (n : Nat) : ContRec := ⟨.opened, n, .bag, .office, none, none, none⟩

def doOpenBag (n : Nat) (s : State) : Reply × State :=
  if !bagNumberOk n then no .badField s
  else if s.numberTaken n then no .numberInUse s
  else if s.freeContainers.length ≤ s.slotsReserved then no .noSlot s
  else
    match s.freeContainers with
    | k :: _ => (okReply [u1 k], (claimSlot (containerPos k) s).setContainer k (some (openedBag n)))
    | [] => no .noSlot s

/-- OPEN BAG, R173. -/
def execOpenBag (tag : Nat) (body : Body Nat) (s : State) : Host.Outcome State Fault Refusal :=
  .next (request 80 tag body doOpenBag s)

def fillPos : FillSource → Nat
  | .reserve => reservePos
  | .suspect => suspectPos
  | .purge0 => purgePos 0
  | .purge1 => purgePos 1

/-- A container slot in state OPEN. -/
def State.bagOpen (s : State) (n : Nat) : Bool :=
  match s.container n with
  | some c => c.state = .opened
  | none => false

def doFillBag (q : FillBagReq) (s : State) : Reply × State :=
  match q.source with
  | none => no .badField s
  | some src =>
    if 95 < q.slot ∨ !opOk q.op then no .badField s
    else if !s.bagOpen q.slot then no .wrongState s
    else if !s.oneOperator q.op then no .role s
    else
      let m : Movement := ⟨.fill, .pos (fillPos src), .pos (containerPos q.slot), q.pairs, [q.op], none⟩
      match checkMovement m false s with
      | some r => noBook r s
      | none => (okReply [u4 s.nextMove], applyMovement m s)

/-- FILL BAG, R174. -/
def execFillBag (tag : Nat) (body : Body FillBagReq) (s : State) : Host.Outcome State Fault Refusal :=
  .next (request 81 tag body doFillBag s)

/-- The container position holds nothing. -/
def State.containerEmpty (s : State) (n : Nat) : Bool := (s.posRec (containerPos n)).counts.isZero

def doCloseBag (n : Nat) (s : State) : Reply × State :=
  if 95 < n then no .badField s
  else
    match s.container n with
    | some c =>
      if c.state ≠ .opened ∨ s.containerEmpty n then no .wrongState s
      else (okReply [], s.setContainer n (some { c with state := .closed }))
    | none => no .wrongState s

/-- CLOSE BAG, R175. -/
def execCloseBag (tag : Nat) (body : Body Nat) (s : State) : Host.Outcome State Fault Refusal :=
  .next (request 82 tag body doCloseBag s)

def doDiscardContainer (n : Nat) (s : State) : Reply × State :=
  if 95 < n then no .badField s
  else
    match s.container n with
    | some c =>
      if (c.state ≠ .opened ∧ c.state ≠ .closed) ∨ !s.containerEmpty n ∨ c.consignment ≠ none ∨ c.countLot ≠ none then
        no .wrongState s
      else (okReply [], bayAfter (releaseContainer n s))
    | none => no .wrongState s

/-- DISCARD CONTAINER, R175. -/
def execDiscardContainer (tag : Nat) (body : Body Nat) (s : State) : Host.Outcome State Fault Refusal :=
  .next (request 83 tag body doDiscardContainer s)

/-! ### Consignments, R178, R179 -/

/-- A delivery item's fields, check 1 of R178. In the value of the declared counts an EMPTY denomination, which has no face
value, counts 0, so that DENOMINATION (check 3) answers only where the declared value leaves it out (DESIGN CHOICE, log entry
91). -/
def State.itemOk (s : State) (i : DeliveryItemReq) : Bool :=
  bagNumberOk i.number && i.declaredValue ≤ Config.maxValue && pairsOk i.pairs && i.pairs.all (fun q => q.denom ≤ 11)
    && i.declaredValue = s.valueOf (pairCounts i.pairs)

/-- Check 1 of R178. -/
def State.createOk (s : State) (q : CreateConsignmentReq) (k : ConsKind) : Bool :=
  1 ≤ q.route && q.route ≤ 65535 && q.windowOpen < q.windowClose && q.windowClose ≤ Config.top32
    && match k with
      | .collection => q.items.isEmpty
      | .delivery => !q.items.isEmpty && q.items.length ≤ Config.consignmentItems && q.items.all s.itemOk

/-- An item names a denomination that is EMPTY. -/
def State.itemsDefined (s : State) (l : List DeliveryItemReq) : Bool :=
  l.all fun i => i.pairs.all fun q => s.isDefined q.denom

/-- The slot a new consignment takes: the lowest FREE one, or else the lowest finished one. -/
def State.consSlot (s : State) : Option Nat :=
  match consignmentSlots.find? fun k => (s.consignment k).isNone with
  | some k => some k
  | none => consignmentSlots.find? fun k => match s.consignment k with
    | some c => c.finished
    | none => false

/-- A new consignment, R178. -/
def newCons (q : CreateConsignmentReq) (k : ConsKind) : ConsRec where
  kind := k
  state := match k with | .collection => .draft | .delivery => .staged
  route := q.route
  windowOpen := q.windowOpen
  windowClose := q.windowClose
  items := q.items.map fun i => ⟨none, i.number, i.declaredValue, i.pairs, false⟩
  ops := none
  returnState := none
  engagedOnce := false

def doCreateConsignment (q : CreateConsignmentReq) (s : State) : Reply × State :=
  match q.kind with
  | none => no .badField s
  | some k =>
    if !s.createOk q k then no .badField s
    else if q.windowClose ≤ s.clock then no .window s
    else if !s.itemsDefined q.items then no .denomination s
    else if !distinct (q.items.map DeliveryItemReq.number) ∨ q.items.any fun i => s.numberTaken i.number then
      no .numberInUse s
    else
      match s.consSlot with
      | none => no .noSlot s
      | some n => (okReply [u1 n], examineWindow n (s.setConsignment n (some (newCons q k))))

/-- CREATE CONSIGNMENT, R178. -/
def execCreateConsignment (tag : Nat) (body : Body CreateConsignmentReq) (s : State) :
    Host.Outcome State Fault Refusal :=
  .next (request 84 tag body doCreateConsignment s)

/-- The container may become an item, check 4 of R179. -/
def State.addable (s : State) (n : Nat) : Option ContRec :=
  match s.container n with
  | some r =>
    if r.state = .closed ∧ r.location = .office ∧ r.countLot = none ∧ !s.containerEmpty n then some r else none
  | none => none

def doAddItem (q : AddItemReq) (s : State) : Reply × State :=
  if 7 < q.consignment ∨ 95 < q.container then no .badField s
  else
    match s.consignment q.consignment with
    | none => no .wrongState s
    | some c =>
      if c.kind ≠ .collection ∨ (c.state ≠ .draft ∧ c.state ≠ .loading) then no .wrongState s
      else if Config.consignmentItems ≤ c.items.length then no .noSlot s
      else
        match s.addable q.container with
        | none => no .wrongState s
        | some r =>
          let s1 := s.setContainer q.container (some { r with state := .assigned, consignment := some q.consignment })
          (okReply [], bayAfter (s1.setConsignment q.consignment
            (some { c with items := c.items ++ [⟨some q.container, r.number, 0, [], false⟩] })))

/-- ADD ITEM, R179. -/
def execAddItem (tag : Nat) (body : Body AddItemReq) (s : State) : Host.Outcome State Fault Refusal :=
  .next (request 85 tag body doAddItem s)

/-! ### STAGE, ENGAGE, RETRIEVE, LOCK BAY, ABORT, R183, R184, R188, R189 -/

/-- A container that does not belong to consignment `k` lies in the bay. -/
def State.strangerInBay (s : State) (k : Nat) : Bool :=
  s.bay.containers.list.any fun r => match r with
    | some c => c.location = .bay && c.consignment ≠ some k
    | none => false

/-- The consignment may be staged, check 3 of R183. -/
def State.stageable (s : State) (c : ConsRec) : Bool :=
  c.kind = .collection
    && ((c.state = .draft && !c.items.isEmpty) || (c.state = .loading && s.doors.office.locked))

def doStage (k : Nat) (s : State) : Reply × State :=
  if 7 < k then no .badField s
  else if s.office.mode ≠ .trading then no .inHold s
  else
    match s.consignment k with
    | none => no .wrongState s
    | some c =>
      if !s.stageable c then no .wrongState s
      else if c.windowClose ≤ s.clock then no .window s
      else if s.bayHeldByOther k ∨ s.strangerInBay k then no .wrongState s
      else if !s.mayUnlock .office then no .wrongState s
      else (okReply [], bayAfter (enterCons k .loading (unlockDoor .office s)))

/-- STAGE, R183. -/
def execStage (tag : Nat) (body : Body Nat) (s : State) : Host.Outcome State Fault Refusal :=
  .next (request 86 tag body doStage s)

def ConsRec.engageable (c : ConsRec) : Bool := c.state = .waiting || c.state = .partly || c.state = .interrupted

/-- Check 7 of R184, for a delivery. -/
def State.deliveryBarred (s : State) (k : Nat) (c : ConsRec) : Option Status :=
  if c.kind ≠ .delivery then none
  else if s.bayHeldByOther k ∨ s.strangerInBay k then some .wrongState
  else if s.freeContainers.length < (c.items.filter fun i => !i.done).length then some .noSlot
  else none

/-- Check 1 of R184. -/
def engageInRange (q : EngageReq) : Bool :=
  q.consignment ≤ 7 && 1 ≤ q.route && q.route ≤ 65535 && opOk q.op1 && opOk q.op2

/-- An accepted ENGAGE. The consignment is ENGAGED even where the courier door's sensor reads OPEN already (DESIGN CHOICE, log
entry 67). -/
def engageCons (k a b : Nat) (c : ConsRec) (s : State) : State :=
  let s1 := s.setConsignment k (some { c with
    returnState := some c.state, ops := some (a, b), engagedOnce := c.engagedOnce || c.kind = .delivery })
  let s2 := unlockDoor .courier (enterCons k .engaged s1)
  s2.setDoors { s2.doors with courierTimer := some Config.courierTimeout }

def doEngage (q : EngageReq) (s : State) : Reply × State :=
  if !engageInRange q then no .badField s
  else if s.office.mode ≠ .trading then no .inHold s
  else
    match s.dualControl .custodian q.op1 q.op2 with
    | some st => no st s
    | none =>
      match s.consignment q.consignment with
      | none => no .wrongState s
      | some c =>
        if !c.engageable then no .wrongState s
        else if c.route ≠ q.route then no .badField s
        else if s.clock < c.windowOpen ∨ c.windowClose ≤ s.clock then no .window s
        else
          match s.deliveryBarred q.consignment c with
          | some st => no st s
          | none =>
            if !s.mayUnlock .courier then no .wrongState s
            else (okReply [], engageCons q.consignment q.op1 q.op2 c s)

/-- ENGAGE, R184. -/
def execEngage (tag : Nat) (body : Body EngageReq) (s : State) : Host.Outcome State Fault Refusal :=
  .next (request 87 tag body doEngage s)

/-- A retrieval is barred by the consignment that holds the bay, R188. -/
def State.retrievalBarred (s : State) : Bool :=
  match s.bayHolder with
  | some k => match s.consignment k with
    | some c => c.kind = .collection || c.state = .engaged || c.state = .transferring
    | none => false
  | none => false

def doRetrieve (_ : Unit) (s : State) : Reply × State :=
  if s.retrievalBarred ∨ !s.anyRetrievable ∨ !s.mayUnlock .office then no .wrongState s
  else (okReply [], unlockDoor .office (s.setDoors { s.doors with retrieval := true, unlockOwed := false }))

/-- RETRIEVE, R188. -/
def execRetrieve (tag : Nat) (body : Body Unit) (s : State) : Host.Outcome State Fault Refusal :=
  .next (request 88 tag body doRetrieve s)

def doLockBay (_ : Unit) (s : State) : Reply × State :=
  if (s.consIn .loading).isSome then no .wrongState s
  else (okReply [], settleOffice (s.setDoors { s.doors with retrieval := false, unlockOwed := false }))

/-- LOCK BAY, R188. -/
def execLockBay (tag : Nat) (body : Body Unit) (s : State) : Host.Outcome State Fault Refusal :=
  .next (request 89 tag body doLockBay s)

def doAbort (k : Nat) (s : State) : Reply × State :=
  if 7 < k then no .badField s
  else
    match s.consignment k with
    | none => no .wrongState s
    | some c =>
      match c.state with
      | .transferring => no .wrongState s
      | .complete | .aborted => (okReply [], s)
      | _ => (okReply [], settle (abortCons k c s))

/-- ABORT, R189. -/
def execAbort (tag : Nat) (body : Body Nat) (s : State) : Host.Outcome State Fault Refusal :=
  .next (request 90 tag body doAbort s)

/-- HELD_OPEN is raised on a door that has read OPEN for longer than the limit (R182). -/
def checkHeld (d : Door) (s : State) : State := if s.heldTooLong d then raiseHeldOpen d s else s

def doSetDoorLimit (v : Nat) (s : State) : Reply × State :=
  let n := clamp Config.minDoorLimit Config.maxDoorLimit v
  (okReply [u2 n], checkHeld .courier (checkHeld .office { s with bay := { s.bay with doorLimit := n } }))

/-- SET DOOR LIMIT, R182. -/
def execSetDoorLimit (tag : Nat) (body : Body Nat) (s : State) : Host.Outcome State Fault Refusal :=
  .next (request 91 tag body doSetDoorLimit s)

/-! ### Queries, R191 -/

/-- A container record. FREE takes the number 1 and the states of Table 9-1 go from 2 (DESIGN CHOICE, log entry 88). -/
def contFields (c : ContRec) : List Field :=
  [u1 (c.state.code + 1), u4 c.number, u1 c.type.code, u1 c.location.code] ++ opt c.consignment (fun k => [u1 k])
    ++ opt c.declared countFields ++ opt c.countLot fun n => [u1 n]

def doQueryContainer (n : Nat) (s : State) : Reply × State :=
  if 95 < n then no .badField s
  else
    match s.container n with
    | none => (okReply [u1 1], s)
    | some c =>
      let counts := (s.posRec (containerPos n)).counts
      (okReply (contFields c ++ countFields counts ++ [u5 (s.valueOf counts)]), s)

/-- QUERY CONTAINER, R191. -/
def execQueryContainer (tag : Nat) (body : Body Nat) (s : State) : Host.Outcome State Fault Refusal :=
  .next (request 92 tag body doQueryContainer s)

/-- An item's value: that of its container's counts in a collection, the declared value in a delivery (R177, R191). -/
def State.itemValue (s : State) (c : ConsRec) (i : Item) : Nat :=
  match c.kind, i.container with
  | .collection, some n => s.valueOf (s.posRec (containerPos n)).counts
  | .collection, none => 0
  | .delivery, _ => i.value

/-- An item as R191 gives it; its value, which for a delivery reaches 2^40, takes 6 bytes (R1, R201). -/
def itemFields (s : State) (c : ConsRec) (i : Item) : List Field :=
  [u4 i.number, u6 (s.itemValue c i)] ++ opt i.container (fun n => [u1 n]) ++ [flag i.done]

/-- The return state as a choice of its own list, WAITING, PARTIAL, INTERRUPTED (Table 9-2); ENGAGE is taken from no other
state (R184). -/
def returnField : ConsState → Field
  | .partly => u1 2
  | .interrupted => u1 3
  | _ => u1 1

/-- The record of Table 9-2 in the table's order, after a byte 2; a FREE slot is answered OK with one byte 1, for which the
spec gives no form (DESIGN CHOICE, log entry 77). Its list of at most 16 items never makes the body too long. -/
def doQueryConsignment (k : Nat) (s : State) : Reply × State :=
  if 7 < k then no .badField s
  else
    match s.consignment k with
    | none => (okReply [u1 1], s)
    | some c =>
      (okReply ([u1 2, u1 (consKindCode c.kind), u1 c.state.code, u2 c.route, u4 c.windowOpen, u4 c.windowClose]
        ++ listField c.items (itemFields s c) ++ [u1 c.doneCount] ++ opt c.ops (fun q => [u3 q.1, u3 q.2])
        ++ opt c.returnState fun st => [returnField st]), s)

/-- QUERY CONSIGNMENT, R191. -/
def execQueryConsignment (tag : Nat) (body : Body Nat) (s : State) : Host.Outcome State Fault Refusal :=
  .next (request 93 tag body doQueryConsignment s)

/-- A door's record. FORCED and HELD_OPEN may stand together, and the standing alarm goes as two marks, FORCED and HELD_OPEN
(DESIGN CHOICE, log entry 58). -/
def doorFields (d : DoorRec) : List Field :=
  [lockField d.locked, sensorField d.sensorOpen, flag d.lockDue, flag d.forced, flag d.heldOpen]
    ++ opt d.openTime fun t => [u4 t]

/-- The container slots with location BAY. -/
def State.slotsInBay (s : State) : List Nat :=
  containerSlots.filter fun n => match s.container n with
    | some c => c.location = .bay
    | none => false

def doQueryBay (_ : Unit) (s : State) : Reply × State :=
  (okReply (doorFields s.doors.office ++ doorFields s.doors.courier ++ opt s.bayHolder (fun k => [u1 k])
    ++ [flag s.doors.retrieval, u1 s.slotsReserved] ++ listField s.slotsInBay (fun n => [u1 n]) ++ [u2 s.bay.doorLimit]),
    s)

/-- QUERY BAY, R191. -/
def execQueryBay (tag : Nat) (body : Body Unit) (s : State) : Host.Outcome State Fault Refusal :=
  .next (request 94 tag body doQueryBay s)

end Sys2Proof.Machine
end

