-- ==== Sys2Proof/Machine/ExecOffice.lean ====
section
/-! DEFINITION. The meanings of office control's requests (Section 10), and the relock of the safe door they share with its
events. -/

namespace Sys2Proof.Machine

/-! ### The office mode, R192 to R194 -/

def doEnterHold (_ : Unit) (s : State) : Reply × State :=
  match s.office.mode with
  | .hold => (okReply [], s)
  | .holdPending => (acceptedReply [], s)
  | .trading =>
    let t := settle (s.setMode .holdPending)
    (if t.office.mode = .hold then okReply [] else acceptedReply [], t)

/-- ENTER HOLD, R192. -/
def execEnterHold (tag : Nat) (body : Body Unit) (s : State) : Host.Outcome State Fault Refusal :=
  .next (request 96 tag body doEnterHold s)

/-- The opening condition clears, R25. -/
def clearOpening (s : State) : State := { s with book := { s.book with opening := false } }

/-- The return to TRADING clears the opening condition (R25); taken in TRADING, LEAVE HOLD changes nothing. -/
def doLeaveHold (_ : Unit) (s : State) : Reply × State :=
  match s.office.mode with
  | .trading => (okReply [], s)
  | _ => (okReply [], settle (clearOpening (s.setMode .trading)))

/-- LEAVE HOLD, R194. -/
def execLeaveHold (tag : Nat) (body : Body Unit) (s : State) : Host.Outcome State Fault Refusal :=
  .next (request 97 tag body doLeaveHold s)

/-! ### The roster, R195 -/

/-- Check 1 of R195. -/
def rosterInRange (q : SetRosterReq) : Bool :=
  q.entry ≤ 31 && opOk q.op1 && opOk q.op2 && match q.content with
    | some c => opOk c.number && c.roles.isSome
    | none => true

/-- The entry a request puts into the roster. -/
def rosterEntry (c : RosterContent) : RosterEntry := ⟨c.number, c.roles.getD ⟨false, false, false⟩, c.active⟩

/-- Another entry holds the number, check 3 of R195. -/
def State.numberHeld (s : State) (n except : Nat) : Bool :=
  (List.range 32).any fun i => i ≠ except && match s.office.roster.get none i with
    | some e => e.number = n
    | none => false

def State.setRoster (s : State) (i : Nat) (e : Option RosterEntry) : State :=
  { s with office := { s.office with roster := s.office.roster.set i e } }

def doSetRosterEntry (q : SetRosterReq) (s : State) : Reply × State :=
  if !rosterInRange q then no .badField s
  else
    match s.dualControl .twoSupervisors q.op1 q.op2 with
    | some st => no st s
    | none =>
      match q.content with
      | none => (okReply [], s.setRoster q.entry none)
      | some c =>
        if s.numberHeld c.number q.entry then no .inUse s
        else (okReply [], s.setRoster q.entry (some (rosterEntry c)))

/-- SET ROSTER ENTRY, R195. -/
def execSetRosterEntry (tag : Nat) (body : Body SetRosterReq) (s : State) : Host.Outcome State Fault Refusal :=
  .next (request 98 tag body doSetRosterEntry s)

/-! ### The safe door, R197, R198 -/

/-- A relock, R198: LOCKED with no timer and no lock due mark, SAFE_RELOCKED, and, where the door was opened, every
SAFE_OPEN module into STARTING at TAGS. -/
def relockSafe (s : State) : State :=
  let f := s.office.safe
  let s1 := notify (.safeRelocked s.clock f.wasOpened)
    (s.setSafe { f with state := .locked, lockDue := false, wasOpened := false, timer := none })
  if f.wasOpened then startModules s1 else s1

def doOpenSafe (q : OpenSafeReq) (s : State) : Reply × State :=
  if !opOk q.op1 ∨ !opOk q.op2 then no .badField s
  else
    match s.dualControl .custodian q.op1 q.op2 with
    | some st => no st s
    | none =>
      if s.office.safe.state ≠ .locked then no .wrongState s
      else if s.spineIdle ∧ !s.office.safe.forced then (okReply [], settle (unlockSafe s))
      else (acceptedReply [], settle (s.setSafe { s.office.safe with state := .pending }))

/-- OPEN SAFE, R197. -/
def execOpenSafe (tag : Nat) (body : Body OpenSafeReq) (s : State) : Host.Outcome State Fault Refusal :=
  .next (request 99 tag body doOpenSafe s)

def doCloseSafe (_ : Unit) (s : State) : Reply × State :=
  match s.office.safe.state with
  | .locked => (okReply [], s)
  | .pending => (okReply [], settle (s.setSafe { s.office.safe with state := .locked }))
  | .unlocked | .closed => (okReply [], settle (relockSafe s))
  | .opened => (acceptedReply [], s.setSafe { s.office.safe with lockDue := true })

/-- CLOSE SAFE, R198 and Table 10-4. -/
def execCloseSafe (tag : Nat) (body : Body Unit) (s : State) : Host.Outcome State Fault Refusal :=
  .next (request 100 tag body doCloseSafe s)

def doSetSafeRelock (v : Nat) (s : State) : Reply × State :=
  let n := clamp Config.minRelock Config.maxRelock v
  (okReply [u2 n], { s with office := { s.office with relockTime := n } })

/-- SET SAFE RELOCK, R198. -/
def execSetSafeRelock (tag : Nat) (body : Body Nat) (s : State) : Host.Outcome State Fault Refusal :=
  .next (request 101 tag body doSetSafeRelock s)

/-! ### The clock and the first fault record, R199, R200 -/

def State.setClock (s : State) (n : Nat) : State := { s with office := { s.office with clock := n } }

def doSetClock (v : Nat) (s : State) : Reply × State :=
  if Config.top32 < v then no .badField s else (okReply [u4 s.clock], examineWindows (s.setClock v))

/-- SET CLOCK, R199: a change of the clock is an event at the bay controller (R180). -/
def execSetClock (tag : Nat) (body : Body Nat) (s : State) : Host.Outcome State Fault Refusal :=
  .next (request 102 tag body doSetClock s)

def doClearFaultRecord (_ : Unit) (s : State) : Reply × State :=
  (okReply [], { s with office := { s.office with firstFault := none } })

/-- CLEAR FAULT RECORD, R200. -/
def execClearFaultRecord (tag : Nat) (body : Body Unit) (s : State) : Host.Outcome State Fault Refusal :=
  .next (request 103 tag body doClearFaultRecord s)

end Sys2Proof.Machine
end

