-- ==== Sys2Proof/Machine/ExecLink.lean ====
section
/-! DEFINITION. The meanings of the link unit's own requests and of the frame events of the host link (Section 11). -/

namespace Sys2Proof.Machine

/-! ### GET STATUS, R207 -/

/-- The conditions of GET STATUS in the order R207 lists them. -/
def conditionFields (s : State) : List Field :=
  [flag s.link.noticeLost, flag s.postingsOverdue, flag s.book.opening, flag s.safeOpenCondition,
    flag s.doorAlarmCondition]

/-- The first fault record: EMPTY, or HELD with its fields (R200). -/
def faultFields : Option FaultRec → List Field
  | none => [u1 1]
  | some f => [u1 2] ++ faultSourceFields f.source ++ [u1 f.kind.code, u4 f.clock] ++ opt f.run (fun k => [u1 k.code])
      ++ [flag f.later]

/-- The contents of the GET STATUS reply, R207. -/
def statusFields (s : State) : List Field :=
  [u1 s.office.mode.code, u4 s.clock] ++ conditionFields s
    ++ [u1 s.book.queue.length, u1 s.link.notices.length, u1 s.count.jobs.length, u1 s.link.owed.length,
      u2 s.link.noticeNumber]
    ++ allModules.map (fun m => u1 (s.module m).state.code)
    ++ (stationNumbers.map fun n => [u1 (s.station n).state.code, u1 (mechCode (s.station n).mech)]).flatten
    ++ [u1 s.office.safe.state.code, sensorField s.office.safe.sensorOpen] ++ faultFields s.office.firstFault

def doGetStatus (_ : Unit) (s : State) : Reply × State :=
  (okReply (statusFields s), { s with link := { s.link with noticeLost := false } })

/-- GET STATUS, R207. -/
def execGetStatus (tag : Nat) (body : Body Unit) (s : State) : Host.Outcome State Fault Refusal :=
  .next (request 112 tag body doGetStatus s)

/-! ### RESTART, R210 -/

/-- The checks of RESTART: none when they pass. -/
def State.restartBarred (s : State) : Option Status :=
  if s.office.mode ≠ .hold then some .holdRequired
  else if s.recycler.run.state ≠ .idle ∨ s.recycler.purge ≠ none then some .wrongState
  else none

/-- The checks of RESTART and its reply. What it brings about begins when its OK reply has been sent (`restartSent`). -/
def doRestart (_ : Unit) (s : State) : Reply × State :=
  match s.restartBarred with
  | some st => no st s
  | none => (okReply [], s)

/-- RESTART, R210. -/
def execRestart (tag : Nat) (body : Body Unit) (s : State) : Host.Outcome State Fault Refusal :=
  .next (request 113 tag body doRestart s)

/-! ### The other received requests, R203 -/

/-- The request codes of Table 11-2. -/
def requestCodes : List Nat :=
  (List.range 9).map (16 + ·) ++ (List.range 11).map (32 + ·) ++ (List.range 13).map (48 + ·)
    ++ (List.range 14).map (64 + ·) ++ (List.range 15).map (80 + ·) ++ (List.range 8).map (96 + ·) ++ [112, 113]

/-- A request with a code that is not in Table 11-2, R203. A code of the table makes no such event. -/
def execUnknownRequest (code tag : Nat) (s : State) : Host.Outcome State Fault Refusal :=
  .next (if requestCodes.contains code then s
    else request code tag (.good ()) (fun _ t => no .unknownRequest t) s)

/-- A request that arrives while one is in hand, R203. Without one in hand there is no such event. -/
def execLinkBusy (code tag : Nat) (s : State) : Host.Outcome State Fault Refusal :=
  .next (match s.powered, s.link.inHand with
    | true, some _ => owe code tag (heard s)
    | _, _ => s)

/-! ### Frames dropped, R202 -/

/-- A frame is dropped whole: the receiver hunts again (R202). -/
def execDroppedFrame (_ : DropReason) (s : State) : Host.Outcome State Fault Refusal := .next (event heard s)

/-- A gap of more than 50 ms within a frame, R202. -/
def execByteGapTimeout (s : State) : Host.Outcome State Fault Refusal := .next (event heard s)

/-- A line break, R202: it touches neither the request in hand, nor the owed replies, nor the notices. -/
def execLineBreak (s : State) : Host.Outcome State Fault Refusal := .next (event heard s)

/-! ### The last byte of a frame has been sent, R203, R204, R206 -/

/-- The OK reply of a RESTART has been sent: from now on requests are dropped, and the link stops when no LINK_BUSY reply is
owed any more (R210). -/
def restartSent (code : Nat) (st : Status) (s : State) : State :=
  if code = 113 ∧ st = .ok then { s with link := { s.link with stopping := true } } else s

/-- The link that stops for a RESTART does so once the owed LINK_BUSY replies have left, and the start-up sequence of R209
runs from its step 2 with the store taken as good (R204, R210). -/
def stopLink (s : State) : State :=
  if s.link.stopping ∧ s.link.owed = [] then startFrom true true (fun m => (s.module m).state) s else s

/-- The request in hand is done: its reply has been sent; a FETCH POSTINGS takes its entries from the queue now, and
catch-up follows (R39, R40, R203). -/
def replySent (s : State) : State :=
  let s1 := { s with link := { s.link with inHand := none } }
  match s.link.inHand with
  | some h => match h.fetched with
    | some n => catchUp (dropEntries n s1)
    | none => s1
  | none => s1

/-- An owed LINK_BUSY reply has been sent; one fewer stands before the request in hand. -/
def busySent (s : State) : State :=
  { s with link := { s.link with
      owed := s.link.owed.tail
      inHand := s.link.inHand.map fun h => { h with busyAhead := h.busyAhead - 1 } } }

/-- A notice has been sent and leaves the queue, R206. -/
def noticeSent (s : State) : State := { s with link := { s.link with notices := s.link.notices.tail } }

/-- What the end of a frame changes (R203, R204, R206, R210). -/
def frameDone (f : Frame) (s : State) : State :=
  let s1 := { s with link := { s.link with onLine := none, lastSent := [f] } }
  match f with
  | .reply c _ r => stopLink (restartSent c r.status (replySent s1))
  | .busy _ _ => stopLink (busySent s1)
  | .notice _ => noticeSent s1

/-- FRAME SENT, R203, R204, R206. -/
def execFrameSent (s : State) : Host.Outcome State Fault Refusal :=
  .next (event (fun s => match s.link.onLine with
    | some f => frameDone f s
    | none => s) s)

end Sys2Proof.Machine
end

