-- ==== Sys2Proof/Machine/ExecEvents.lean ====
section
/-! DEFINITION. The meanings of the events of power and time, of the safe and bay sensors and of the readers (Sections 7,
9, 10 and 11). A row that says that a time has passed acts where that time has passed in the state, and changes nothing
otherwise (log entry 3); the times themselves are counted by CLOCK TICK. -/

namespace Sys2Proof.Machine

/-! ### Power, R208, R209 -/

/-- POWER ON with a good store or a store that fails its check, R209. The modules leave OFFLINE; with power present
already there is no such event. -/
def powerUp (storeGood : Bool) (s : State) : State :=
  startFrom false storeGood (fun _ => .offline) (if storeGood then s else storeLoss s)

def execPowerOn (storeGood : Bool) (s : State) : Host.Outcome State Fault Refusal :=
  .next (match s.powered with
    | true => s
    | false => powerUp storeGood s)

/-- POWER LOSS, R208: the retained store keeps the state from before the event. What is not retained is set anew by the
next start. -/
def execPowerLoss (s : State) : Host.Outcome State Fault Refusal := .next { s with powered := false }

/-! ### The one-second timebase, R154, R182, R185, R198, R199 -/

/-- A count of remaining seconds goes down to 0 and stays there. -/
def countDown (t : Option Nat) : Option Nat := t.map (· - 1)

/-- A count of open seconds goes up. -/
def DoorRec.tick (d : DoorRec) : DoorRec := { d with openTime := d.openTime.map (· + 1) }

/-- The float window's remaining time goes down; a window whose time reaches zero is CLOSED (R154). -/
def windowDown (t : Option Nat) : Option Nat := (t.map (· - 1)).filter (0 < ·)

/-- The clock one second on, R199. -/
def tickClock (s : State) : State := s.setClock (if Config.top32 ≤ s.clock then 0 else s.clock + 1)

/-- The times that run while power is present: the float window, the doors' open times, the courier door's and the safe's
timers. -/
def tickTimers (s : State) : State :=
  { s with
    arbiter := { s.arbiter with window := windowDown s.arbiter.window }
    doors := { s.doors with
      office := s.doors.office.tick, courier := s.doors.courier.tick
      courierTimer := countDown s.doors.courierTimer }
    office := { s.office with safe := { s.office.safe with timer := countDown s.office.safe.timer } } }

/-- CLOCK TICK, R180, R199. Without power only the clock counts. -/
def execClockTick (s : State) : Host.Outcome State Fault Refusal :=
  .next (match s.powered with
    | false => tickClock s
    | true => transmit (examineWindows (tickTimers (tickClock s))))

/-! ### Times that have passed -/

/-- A consignment window opens, R180. -/
def execWindowOpen (consignment : Fin 8) (s : State) : Host.Outcome State Fault Refusal :=
  .next (event (examineWindow consignment.val) s)

/-- A consignment window closes, R180. -/
def execWindowClose (consignment : Fin 8) (s : State) : Host.Outcome State Fault Refusal :=
  .next (event (examineWindow consignment.val) s)

/-- A float window with no time left is CLOSED, R154. CLOCK TICK has closed it already in every state that a run reaches (log
entry 37). -/
def windowOver (s : State) : State :=
  if s.arbiter.window = some 0 then s.setArbiter { s.arbiter with window := none } else s

/-- FLOAT WINDOW EXPIRY, R154. -/
def execFloatWindowExpiry (s : State) : Host.Outcome State Fault Refusal := .next (event windowOver s)

/-- HELD OPEN, R182: raised on a door that has read OPEN for longer than the limit. -/
def execHeldOpen (door : Door) (s : State) : Host.Outcome State Fault Refusal := .next (event (checkHeld door) s)

/-- The courier door of an ENGAGED consignment was not opened within 120 s, R185. While the sensor reads OPEN the time ends
nothing (DESIGN CHOICE, log entry 67). -/
def courierLate (s : State) : State :=
  if s.doors.courierTimer = some 0 ∧ !s.doors.courier.sensorOpen then
    match s.consIn .engaged with
    | some k => match s.consignment k with
      | some c => settle (engageTimedOut k c s)
      | none => s
    | none => s
  else s

/-- COURIER DOOR TIMEOUT, R185. -/
def execCourierDoorTimeout (s : State) : Host.Outcome State Fault Refusal := .next (event courierLate s)

/-- The relock time has passed in UNLOCKED or CLOSED, R198. -/
def relockDue (s : State) : State :=
  let f := s.office.safe
  if (f.state = .unlocked ∨ f.state = .closed) ∧ f.timer = some 0 then settle (relockSafe s) else s

/-- RELOCK TIME, R198. -/
def execRelockTime (s : State) : Host.Outcome State Fault Refusal := .next (event relockDue s)

/-! ### The safe sensor, Table 10-4 -/

/-- A forced opening: the forced mark, DOOR_ALARM, the fault, the modules SAFE_OPEN. -/
def safeForced (s : State) : State :=
  safeOpened (handFault .safeDoor .forced (notify (.doorAlarm .safe .forced s.clock)
    (s.setSafe { s.office.safe with sensorOpen := true, forced := true })))

/-- The safe sensor reads OPEN. -/
def safeReadsOpen (s : State) : State :=
  let f := s.office.safe
  match f.state with
  | .unlocked | .closed =>
    settle (safeOpened (s.setSafe { f with sensorOpen := true, state := .opened, wasOpened := true, timer := none }))
  | .locked | .pending => if f.sensorOpen then s else settle (safeForced s)
  | .opened => s

/-- The forced mark clears: DOOR_ALARM, the modules STARTING, SAFE_RELOCKED. -/
def forcedEnds (s : State) : State :=
  let s1 := notify (.doorAlarm .safe .cleared s.clock)
    (s.setSafe { s.office.safe with sensorOpen := false, forced := false })
  notify (.safeRelocked s.clock true) (startModules s1)

/-- The safe sensor reads CLOSED. -/
def safeReadsClosed (s : State) : State :=
  let f := s.office.safe
  match f.state with
  | .opened =>
    if f.lockDue then settle (relockSafe (s.setSafe { f with sensorOpen := false }))
    else s.setSafe { f with sensorOpen := false, state := .closed, timer := some s.office.relockTime }
  | .locked | .pending =>
    if f.forced then settle (forcedEnds s) else s.setSafe { f with sensorOpen := false }
  | .unlocked | .closed => s

/-- A reading of the safe sensor without power is only kept as the reading the next start finds. -/
def safeReading (isOpen : Bool) (s : State) : State := s.setSafe { s.office.safe with sensorOpen := isOpen }

/-- SAFE SENSOR OPEN, R198. -/
def execSafeSensorOpen (s : State) : Host.Outcome State Fault Refusal :=
  .next (match s.powered with
    | false => safeReading true s
    | true => transmit (safeReadsOpen s))

/-- SAFE SENSOR CLOSED, R198. -/
def execSafeSensorClosed (s : State) : Host.Outcome State Fault Refusal :=
  .next (match s.powered with
    | false => safeReading false s
    | true => transmit (safeReadsClosed s))

/-! ### The bay sensors, R181, R182, R183, R185, R187 -/

/-- A reading of a bay door's sensor without power is only kept as the reading the next start finds. -/
def doorReading (d : Door) (isOpen : Bool) (s : State) : State := s.setDoor d { s.door d with sensorOpen := isOpen }

/-- OFFICE DOOR OPENED, R182. -/
def execOfficeDoorOpened (s : State) : Host.Outcome State Fault Refusal :=
  .next (match s.powered with
    | false => doorReading .office true s
    | true => transmit (sensorOpened .office s))

/-- OFFICE DOOR CLOSED, R181, R183: the alarms clear, a due lock is made, a loading or retrieval may end. -/
def execOfficeDoorClosed (s : State) : Host.Outcome State Fault Refusal :=
  .next (match s.powered with
    | false => doorReading .office false s
    | true => transmit (bayAfter (sensorClosed .office s)))

/-- The courier door's sensor comes to read OPEN: an ENGAGED consignment becomes TRANSFERRING (R185). A sensor that read OPEN
before makes no such event (DESIGN CHOICE, log entry 67). -/
def courierOpens (s : State) : State :=
  if s.doors.courier.sensorOpen then s
  else
    let s1 := sensorOpened .courier s
    match s1.consIn .engaged with
    | some k => enterCons k .transferring (s1.setDoors { s1.doors with courierTimer := none })
    | none => s1

/-- COURIER DOOR OPENED, R182, R185. -/
def execCourierDoorOpened (s : State) : Host.Outcome State Fault Refusal :=
  .next (match s.powered with
    | false => doorReading .courier true s
    | true => transmit (courierOpens s))

/-- The courier door reads CLOSED: a transfer ends (R187), or a lock that fell due is made (R181). -/
def courierCloses (s : State) : State :=
  let s1 := sensorClosed .courier s
  match s1.consIn .transferring with
  | some k => match s1.consignment k with
    | some c => settle (bayAfter (transferClosed k c s1))
    | none => s1
  | none => bayAfter (if s1.doors.courier.lockDue then lockCourier s1 else s1)

/-- COURIER DOOR CLOSED, R182, R187. -/
def execCourierDoorClosed (s : State) : Host.Outcome State Fault Refusal :=
  .next (match s.powered with
    | false => doorReading .courier false s
    | true => transmit (courierCloses s))

/-! ### The readers, R183, R186, R188 -/

/-- OFFICE SIDE READ, R183, R188. -/
def execOfficeSideRead (number : Nat) (s : State) : Host.Outcome State Fault Refusal :=
  .next (event (officeRead number) s)

/-- COURIER SIDE READ, R186. -/
def execCourierSideRead (number : Nat) (s : State) : Host.Outcome State Fault Refusal :=
  .next (event (courierRead number) s)

end Sys2Proof.Machine
end

