-- ==== Sys2Proof/Machine/LineOps.lean ====
section
/-! DEFINITION. The station line at work (Section 4): poll cycles and turns, the line counts, misses, what a good STATE does
in each state of a station, and what becomes of a report. -/

namespace Sys2Proof.Machine

def State.setLine (s : State) (l : Line) : State := { s with line := l }

/-! ### Cycles and turns, R85, R86 -/

/-- The record a station receives on its turn, R86. -/
def State.recordFor (s : State) (n : Nat) : LineRecord :=
  let r := s.station n
  match r.state, r.pending with
  | .absent, _ => .attach
  | _, some c => .command c
  | _, none => .poll

/-- Station `n` has its turn: its record is being sent under the present repeat limit (R79, R86). -/
def State.turnOf (s : State) (n : Nat) : Turn := ⟨n, s.recordFor n, s.count.settings.repeatLimit, .sending⟩

/-- The stations that have a turn in a cycle that begins now, R85. -/
def State.cycleStations (s : State) : List Nat :=
  stationNumbers.filter fun n => s.line.attachDue || decide ((s.station n).state ≠ .absent)

/-- A poll cycle begins, R85. -/
def startCycle (s : State) : State :=
  match s.cycleStations with
  | [] => s.setLine { s.line with turn := none, waiting := [], cycleDue := false, attachDue := false }
  | n :: ns =>
    s.setLine { turn := some (s.turnOf n), waiting := ns, cycleDue := false, attachDue := false }

/-- The present turn is over: the next station of the cycle has its turn, or the cycle ends, and the next begins at once
where it fell due meanwhile (R85). -/
def nextTurn (s : State) : State :=
  match s.line.waiting with
  | n :: ns => s.setLine { s.line with turn := some (s.turnOf n), waiting := ns }
  | [] => if s.line.cycleDue then startCycle s else s.setLine { s.line with turn := none }

/-- The present turn goes on in phase `p`. -/
def setPhase (t : Turn) (p : Phase) (s : State) : State := s.setLine { s.line with turn := some { t with phase := p } }

/-! ### Line counts, R81, R84 -/

/-- A line count stays at 65,535. -/
def saturate (n : Nat) : Nat := Nat.min 65535 n

/-- A character fails: the error signal is seen on it more often than the repeat limit allows (R81). -/
def charFails (limit : Nat) (signals : List Nat) : Bool := signals.any (limit < ·)

/-- The repeats the controller sends on the characters of a record, up to the one that fails (R81, R84). -/
def sentRepeats (limit : Nat) : List Nat → Nat
  | [] => 0
  | n :: l => if limit < n then limit else n + sentRepeats limit l

/-- The error signals the controller drives on the characters of a record, up to the one that fails (R81, R84). -/
def drivenSignals (limit : Nat) : List Nat → Nat
  | [] => 0
  | n :: l => if limit < n then limit + 1 else n + drivenSignals limit l

/-- Repeats and failed records counted against a station. -/
def countLine (n repeats fails : Nat) (s : State) : State :=
  changeStation n (fun r => { r with
    repeated := saturate (r.repeated + repeats), failed := saturate (r.failed + fails) }) s

/-! ### Misses, R87 -/

/-- The third consecutive miss of a station, R87; the miss count returns to 0. -/
def thirdMiss (n : Nat) (s : State) : State :=
  let r := { s.station n with misses := 0 }
  match r.state with
  | .absent | .faulted => s.setStation n r
  | .attaching => s.setStation n { r with state := .absent }
  | .idle => s.setStation n { r with state := .absent, pending := none }
  | .stacked => handFault (.station n) .line (s.setStation n { r with state := .faulted })
  | .busy | .reporting =>
    endJob n .line (handFault (.station n) .line (s.setStation n { r with
      state := .faulted, pending := if r.resetPending then r.pending else none }))

/-- A turn of station `n` is a miss, R87. -/
def missTurn (n : Nat) (s : State) : State :=
  let r := s.station n
  if r.state = .absent then s
  else if r.misses + 1 < Config.missLimit then s.setStation n { r with misses := r.misses + 1 }
  else withStation n (thirdMiss n) s

/-- The miss count returns to 0: a good answer that is no miss (R87). -/
def clearMisses (n : Nat) (s : State) : State := changeStation n (fun r => { r with misses := 0 }) s

/-! ### Fetching a report, R92 -/

/-- The station has a job in hand. -/
def State.hasJob (s : State) (n : Nat) : Bool := (s.station n).job.isSome

/-- A HEAD failure: at the third fetch the job ends with cause REPORT (R92). -/
def headFailure (n : Nat) (s : State) : State :=
  if (s.station n).state = .reporting ∧ s.hasJob n ∧ Config.fetchLimit ≤ (s.station n).attempts then endJobReport n s
  else s

/-- A HEAD failure by no good STATE, with the notice of its change (R92, R98). The change that a good STATE brings is noticed
once with what else it shows, in `answeredBy`. -/
def headFails (n : Nat) (s : State) : State := withStation n (headFailure n) s

/-- The report of the turn's station fails after its HEAD: the job ends with cause REPORT (R93). -/
def reportFails (n : Nat) (s : State) : State := if s.hasJob n then withStation n (endJobReport n) s else s

/-! ### A good STATE, R88, R89, R91, R92, R94 -/

/-- The last good STATE shows mechanism state `m` and stack count `k`. -/
def showState (n : Nat) (m : MechState) (k : Nat) (s : State) : State :=
  changeStation n (fun r => { r with mech := some m, stack := k }) s

def setStationState (n : Nat) (st : StationState) (s : State) : State := changeStation n (fun r => { r with state := st }) s

/-- A STATE that shows a stack, R88, R89. -/
def showsStack (m : MechState) (k : Nat) : Bool := 0 < k || m = .stackHold || m = .reportReady

/-- The station is STACKED with no stack lot and RETURN STACK pending, R88, R89. -/
def strayStack (n : Nat) (s : State) : State :=
  giveStack n .returnStack (changeStation n (fun r => { r with state := .stacked, stackLot := none, lastStack := none }) s)

/-- The station leaves ATTACHING by what its STATE shows and its stack lot, R88. -/
def attachState (n : Nat) (m : MechState) (k : Nat) (s : State) : State :=
  match showsStack m k, (s.station n).stackLot with
  | false, none => setStationState n .idle s
  | false, some l =>
    lotStackGone l n (changeStation n (fun r => { r with state := .idle, stackLot := none, lastStack := none }) s)
  | true, none => strayStack n s
  | true, some l =>
    let s1 := changeStation n (fun r => { r with state := .stacked, lastStack := none }) s
    match s.attachCommand n l with
    | some c => giveStack n c s1
    | none => s1

/-- A BUSY station with job number `j`, R91. -/
def busyState (n j : Nat) (m : MechState) (s : State) : State :=
  match m with
  | .ready | .feeding => s
  | .reportReady =>
    changeStation n (fun r => { r with state := .reporting, pending := some (.fetchReport j) }) s
  | .jam | .coverOpen => endJobMechanism n s
  | .stackHold => endJobReport n s

/-- A STACKED station: its stack has left when STATE shows READY with a stack count of 0 (R94). -/
def stackedState (n : Nat) (m : MechState) (k : Nat) (s : State) : State :=
  if m = .ready ∧ k = 0 then
    let r := s.station n
    let s1 := s.setStation n { r with state := .idle, stackLot := none, lastStack := none }
    match r.stackLot with
    | some l => lotStackLeft l n r.lastStack s1
    | none => s1
  else s

/-- A good STATE that answers any record but ATTACH and FETCH REPORT, by the station's state. One that answers a POLL already
sent when SET LINE made its station ABSENT leaves the mechanism state and the stack count (DESIGN CHOICE, log entry 41). -/
def stateShown (n : Nat) (m : MechState) (k : Nat) (s : State) : State :=
  let s1 := showState n m k s
  match (s.station n).state, (s.station n).job with
  | .absent, _ => s
  | .attaching, _ => attachState n m k s1
  | .idle, _ => if showsStack m k then strayStack n s1 else s1
  | .busy, some (j, _) => busyState n j m s1
  | .stacked, _ => stackedState n m k s1
  | .busy, none | .reporting, _ | .faulted, _ => s1

/-- A command is answered: it waits no longer, where it still waits (R86). -/
def commandAnswered (n : Nat) (c : StationCommand) (s : State) : State :=
  changeStation n (fun r => if r.pending = some c then { r with pending := none } else r) s

/-- A good STATE as the first record of the answer to FETCH REPORT, R92. -/
def fetchState (n : Nat) (m : MechState) (k : Nat) (s : State) : State :=
  let s1 := showState n m k s
  if (s.station n).state = .reporting ∧ s.hasJob n then
    match m with
    | .reportReady => headFailure n s1
    | .jam | .coverOpen => endJobMechanism n s1
    | .ready | .feeding | .stackHold => endJobReport n s1
  else s1

/-- What a good STATE shows is taken by the station's state. An unknown mechanism code is a content fault (R83): the record
shows nothing (DESIGN CHOICE, log entry 61). -/
def stateSeen (n : Nat) (m : Option MechState) (k : Nat) (s : State) : State :=
  match m with
  | some x => stateShown n x k s
  | none => s

/-- A good STATE that answers FETCH REPORT, R92; with an unknown mechanism code it is another good record, a HEAD failure. -/
def fetchSeen (n : Nat) (m : Option MechState) (k : Nat) (s : State) : State :=
  match m with
  | some x => fetchState n x k s
  | none => headFailure n s

/-- A good STATE as the answer to the record of the turn. -/
def answeredBy (n : Nat) (rec : LineRecord) (m : Option MechState) (k : Nat) (s : State) : State :=
  match rec with
  | .attach =>
    if (s.station n).state = .absent then
      withStation n (changeStation n fun r => { r with state := .attaching, mech := none, stack := k, misses := 0 }) s
    else s
  | .poll => withStation n (fun s => stateSeen n m k (clearMisses n s)) s
  | .command (.fetchReport _) => withStation n (fun s => fetchSeen n m k (clearMisses n s)) s
  | .command c => withStation n (fun s => stateSeen n m k (commandAnswered n c (clearMisses n s))) s

end Sys2Proof.Machine
end

