-- ==== Sys2Proof/Machine/ExecLine.lean ====
section
/-! DEFINITION. The meanings of the events of the station line (Section 4). Each acts on the turn in progress, and changes
nothing where the line expects no such event (log entry 3). -/

namespace Sys2Proof.Machine

/-- An event of the line while a turn is in progress, followed by what it brings about. Where the event ends the turn, the
record of the turn that begins is chosen before a job is assigned in the same event: a station whose turn it is and that is
given a job then receives POLL, and BEGIN COUNT on its turn after (DESIGN CHOICE, log entry 82). -/
def inTurn (f : Turn → State → State) (s : State) : State :=
  match s.line.turn with
  | some t => settle (f t s)
  | none => s

/-- POLL CYCLE: a cycle begins, or falls due while the last one goes on (R85). -/
def pollDue (s : State) : State :=
  match s.line.turn with
  | none => startCycle s
  | some _ => s.setLine { s.line with cycleDue := true }

def execPollCycle (s : State) : Host.Outcome State Fault Refusal := .next (event pollDue s)

/-- ATTACH MARK, R85. -/
def execAttachMark (s : State) : Host.Outcome State Fault Refusal :=
  .next (event (fun s => s.setLine { s.line with attachDue := true }) s)

/-! ### The record sent -/

/-- STATION RESET has been sent whole: the station is ABSENT and no answer is awaited (R96). -/
def resetSent (n : Nat) (s : State) : State :=
  withStation n (changeStation n fun r => { r with state := .absent, pending := none, misses := 0 }) s

/-- The record of the turn has been sent, whole or not (R81, R86, R92, R96). -/
def sentRecord (signals : List Nat) (t : Turn) (s : State) : State :=
  match t.phase with
  | .sending =>
    let ok := !charFails t.limit signals
    let s1 := countLine t.station (sentRepeats t.limit signals) (if ok then 0 else 1) s
    match t.record with
    | .command (.reset _) => nextTurn (if ok then resetSent t.station s1 else s1)
    | .command (.fetchReport _) =>
      setPhase t .awaiting (if ok then
        changeStation t.station (fun r => { r with attempts := Nat.min Config.fetchLimit (r.attempts + 1) }) s1 else s1)
    | _ => setPhase t .awaiting s1
  | _ => s

/-- RECORD SENT, R86. -/
def execRecordSent (signals : List Nat) (s : State) : Host.Outcome State Fault Refusal :=
  .next (event (inTurn (sentRecord signals)) s)

/-! ### Answers that do not come or fail, R80, R83, R87, R92, R93 -/

/-- No character of the answer begins within 30 ms. -/
def noAnswer (t : Turn) (s : State) : State :=
  match t.phase with
  | .awaiting =>
    match t.record with
    | .command (.fetchReport _) => nextTurn (headFails t.station (missTurn t.station s))
    | _ => nextTurn (missTurn t.station s)
  | _ => s

/-- REPLY TIMEOUT, R87. -/
def execReplyTimeout (s : State) : Host.Outcome State Fault Refusal := .next (event (inTurn noAnswer) s)

/-- A record from the station is abandoned or fails (R80, R81, R83): a miss, a HEAD failure, or the end of a report. Its
signals are judged by the repeat limit in force when it begins to be received (R79): here, and in `fromStation`, that is the
event that brings it (DESIGN CHOICE, log entry 41). The
turn is over at once, though the station may go on sending: the spec gives no quiet time there (DESIGN CHOICE, log entry
62). -/
def badRecord (signals : List Nat) (t : Turn) (s : State) : State :=
  let s1 := countLine t.station (drivenSignals s.count.settings.repeatLimit signals) 1 s
  match t.phase with
  | .awaiting =>
    match t.record with
    | .command (.fetchReport _) => nextTurn (headFails t.station s1)
    | _ => nextTurn (missTurn t.station s1)
  | .report _ _ => setPhase t .quiet (reportFails t.station s1)
  | .sending | .quiet => s

/-- RECORD GAP TIMEOUT, R80. -/
def execRecordGapTimeout (signals : List Nat) (s : State) : Host.Outcome State Fault Refusal :=
  .next (event (inTurn (badRecord signals)) s)

/-- FAILED RECORD, R83. -/
def execFailedRecord (signals : List Nat) (s : State) : Host.Outcome State Fault Refusal :=
  .next (event (inTurn (badRecord signals)) s)

/-! ### Good records -/

/-- A record that arrives with a good check and length is good only from the station whose turn it is, with no character
failed (R81, R83). While the controller sends, or ignores a station after a failed report, no record is taken (R93). -/
def fromStation (station : Fin 4) (signals : List Nat) (good : Turn → State → State) (t : Turn) (s : State) : State :=
  match t.phase with
  | .sending | .quiet => s
  | .awaiting | .report _ _ =>
    let limit := s.count.settings.repeatLimit
    if t.station = station.val + 1 ∧ !charFails limit signals then
      good t (countLine t.station (drivenSignals limit signals) 0 s)
    else badRecord signals t s

/-- A good STATE, R87 to R94. Within a report it is a record of another kind than the sequence calls for (R93). -/
def goodState (m : Option MechState) (k : Nat) (t : Turn) (s : State) : State :=
  match t.phase with
  | .awaiting => nextTurn (answeredBy t.station t.record m k s)
  | .report _ _ => setPhase t .quiet (reportFails t.station s)
  | .sending | .quiet => s

/-- STATE, R88 to R94. -/
def execStationState (station : Fin 4) (signals : List Nat) (mech : Option MechState) (stack : Nat) (s : State) :
    Host.Outcome State Fault Refusal :=
  .next (event (inTurn (fromStation station signals (goodState mech stack))) s)

/-- A good record other than STATE where the answer begins: a miss unless FETCH REPORT was sent, and a HEAD failure
there (R87, R92). The turn is over at once, as after a failed record (DESIGN CHOICE, log entry 62). -/
def strayReport (t : Turn) (s : State) : State :=
  match t.record with
  | .command (.fetchReport _) => nextTurn (headFails t.station (clearMisses t.station s))
  | _ => nextTurn (missTurn t.station s)

/-- A good REPORT HEAD: the answer to FETCH REPORT goes on (R92, R93). -/
def goodHead (h : HeadRecord) (t : Turn) (s : State) : State :=
  match t.phase, t.record with
  | .awaiting, .command (.fetchReport j) =>
    setPhase t (.report h []) (commandAnswered t.station (.fetchReport j) (clearMisses t.station s))
  | .awaiting, _ => strayReport t s
  | .report _ _, _ => setPhase t .quiet (reportFails t.station s)
  | .sending, _ | .quiet, _ => s

/-- REPORT HEAD, R92. -/
def execReportHead (station : Fin 4) (signals : List Nat) (head : HeadRecord) (s : State) :
    Host.Outcome State Fault Refusal :=
  .next (event (inTurn (fromStation station signals (goodHead head))) s)

/-- A good REPORT ITEM, R93. -/
def goodItem (i : ItemRecord) (t : Turn) (s : State) : State :=
  match t.phase with
  | .report h l =>
    if l.length < h.items then setPhase t (.report h (l ++ [i])) s
    else setPhase t .quiet (reportFails t.station s)
  | .awaiting => strayReport t s
  | .sending | .quiet => s

/-- REPORT ITEM, R93. -/
def execReportItem (station : Fin 4) (signals : List Nat) (item : ItemRecord) (s : State) :
    Host.Outcome State Fault Refusal :=
  .next (event (inTurn (fromStation station signals (goodItem item))) s)

/-- The report of a job is whole: it is taken, or it fails (R93). -/
def judgeReport (h : HeadRecord) (l : List ItemRecord) (e : EndRecord) (t : Turn) (s : State) : State :=
  match (s.station t.station).job with
  | some (j, lot) =>
    if s.reportGood j h l e then nextTurn (withStation t.station (takeReport t.station lot l) s)
    else setPhase t .quiet (reportFails t.station s)
  | none => setPhase t .quiet s

/-- A good REPORT END, R93. -/
def goodEnd (e : EndRecord) (t : Turn) (s : State) : State :=
  match t.phase with
  | .report h l => judgeReport h l e t s
  | .awaiting => strayReport t s
  | .sending | .quiet => s

/-- REPORT END, R93. -/
def execReportEnd (station : Fin 4) (signals : List Nat) (last : EndRecord) (s : State) :
    Host.Outcome State Fault Refusal :=
  .next (event (inTurn (fromStation station signals (goodEnd last))) s)

/-- 30 ms with no character after a failed report: the turn is over (R93). -/
def quietOver (t : Turn) (s : State) : State :=
  match t.phase with
  | .quiet => nextTurn s
  | _ => s

/-- REPORT QUIET TIMEOUT, R93. -/
def execReportQuietTimeout (s : State) : Host.Outcome State Fault Refusal := .next (event (inTurn quietOver) s)

/-- The next record of a report sequence does not begin within 30 ms: the report fails, and the 30 ms with no character
have already passed (R93). -/
def recordMissing (t : Turn) (s : State) : State :=
  match t.phase with
  | .report _ _ => nextTurn (reportFails t.station s)
  | _ => s

/-- REPORT RECORD TIMEOUT, R93. -/
def execReportRecordTimeout (s : State) : Host.Outcome State Fault Refusal := .next (event (inTurn recordMissing) s)

end Sys2Proof.Machine
end

