-- ==== Sys2Proof/Machine/ExecMechanism.lean ====
section
/-! DEFINITION. The meanings of the events of the recycler mechanism (Section 6, R122). An event of a run acts on the run
that is RUNNING and picks at the point named, and changes nothing otherwise (log entry 3). -/

namespace Sys2Proof.Machine

/-! ### Pick points, R138 -/

/-- The run that is RUNNING picks from this point. -/
def State.picksFrom (s : State) (p : PickPoint) : Bool :=
  let r := s.recycler.run
  r.live && match p with
    | .head h => r.kind = .deposit && r.requester = .head h.val
    | .tray => r.kind = .trayReturn
    | .cassette c => s.pickCassette = some c.val

def pickSource : PickPoint → FaultSource
  | .head h => .head h.val
  | .tray => .tray
  | .cassette c => .cassette c.val

/-- The run leaves its pick point at the third failed pick, R140. -/
def leavePoint (p : PickPoint) (s : State) : State :=
  let s1 := handFault (pickSource p) .misfeed s
  let r := s1.recycler.run
  match r.kind, p with
  | .dispense, .cassette c => s1.setRun { r with left := r.left ++ [c.val], pick := none, failed := 0 }
  | .evacuate, _ => endRun .noSource s1
  | _, _ => endRun .pickFailed s1

/-- A failed pick of the run, R140; one that has stopped picking counts none. -/
def failedPick (p : PickPoint) (s : State) : State :=
  let r := s.recycler.run
  if r.cause ≠ none then s
  else
    let s1 := s.setRun { r with failed := r.failed + 1 }
    if r.failed + 1 < Config.pickLimit then s1 else leavePoint p s1

/-! ### Misfeeds and double picks, R140, R166 -/

/-- The evacuation learns of a misfeed at its source: a consecutive pick failure (R166). -/
def evacFailure (s : State) : State :=
  s.setEvac { s.evac with failures := Nat.min Config.pickLimit (s.evac.failures + 1) }

/-- At the third consecutive pick failure the evacuation withdraws its request (R166). -/
def evacGivesUp (s : State) : State := if Config.pickLimit ≤ s.evac.failures then withdrawEvac s else s

/-- A misfeed at the run's pick point. -/
def misfeedAt (p : PickPoint) (s : State) : State :=
  let s1 := match p with
    | .cassette c => raiseBucket c.val Config.misfeedWeight s
    | _ => s
  if s1.recycler.run.kind = .evacuate then evacGivesUp (failedPick p (evacFailure s1)) else failedPick p s1

/-- MISFEED, R140. -/
def execMisfeed (point : PickPoint) (s : State) : Host.Outcome State Fault Refusal :=
  .next (event (fun s => if s.picksFrom point then settle (misfeedAt point s) else s) s)

/-- Both notes of a double pick at cassette `c` are on their way to its module's purge bin (R140). -/
def doubleAtCassette (c : Nat) (s : State) : State :=
  let s1 := raiseBucket c Config.doubleWeight s
  let s2 := if s1.recycler.run.kind = .evacuate then s1.setEvac { s1.evac with failures := 0 } else s1
  match (s2.cassette c).denom with
  | some d =>
    let n : PathNote := ⟨cassettePos c, d, .pos (purgePos (moduleOf c))⟩
    pickNote n (pickNote n s2)
  | none => s2

/-- A double pick: at a cassette to the purge bin, at an intake head a foreign note, at the tray a failed pick (R140). At the
tray the failed picks rise by 1 and are not set to 0 first, although R140 has a double pick set them to 0 (DESIGN CHOICE, log
entry 19). -/
def doubleAt (p : PickPoint) (s : State) : State :=
  match p with
  | .cassette c => doubleAtCassette c.val s
  | .head _ => if s.recycler.run.roomToPick then foreignNote s else s
  | .tray => failedPick .tray s

/-- DOUBLE PICK, R140. -/
def execDoublePick (point : PickPoint) (s : State) : Host.Outcome State Fault Refusal :=
  .next (event (fun s => if s.picksFrom point then settle (doubleAt point s) else s) s)

/-! ### Notes read, R134, R135 -/

/-- The count of `d` that position `p` still holds: less what the run has escrowed of it or has in path (R135). -/
def State.stillHeld (s : State) (p d : Nat) : Nat :=
  s.held p d - Counts.of s.recycler.run.escrowed d - s.recycler.run.pathFrom p d

/-- RESERVE has room for one more escrowed note of `d`, R135. -/
def State.escrowRoom (s : State) (d : Nat) : Bool :=
  s.held reservePos d + Counts.of s.recycler.run.escrowed d + s.recycler.run.pathEscrow d < Config.maxCount

/-- Where a note of denomination `d` and band `g` that position `p` still holds goes: the state with it in path, or none
where neither a way nor escrow takes it. -/
def routeNote (p d g : Nat) (s : State) : Option State :=
  match s.place d g with
  | some (k, i, c) => some (pickNote ⟨p, d, .pos (cassettePos c)⟩ (movePointer d k i s))
  | none => if s.escrowRoom d then some (pickNote ⟨p, d, .escrow⟩ s) else none

/-- A note read at an intake head for lot `n`. -/
def headNote (n : Nat) (x : Reading) (s : State) : State :=
  match x with
  | .noRead => foreignNote s
  | .note d g =>
    if s.stillHeld (lotPos n) d = 0 then foreignNote s
    else
      match routeNote (lotPos n) d g.val s with
      | some t => t
      | none => foreignNote s

/-- A TRAY_RETURN note that nothing takes goes back to the tray, and the run ends with cause CUT (R135). It counts as a
failed pick, and the third one hands its fault as any that leaves a pick point (R140; the cause, log entry 24). A run that
has its end cause counts none, as `failedPick` says. -/
def trayRefused (s : State) : State :=
  let r := s.recycler.run
  if r.cause ≠ none then s
  else
    let s1 := cutRun (s.setRun { r with failed := Nat.min Config.pickLimit (r.failed + 1) })
    if Config.pickLimit ≤ r.failed + 1 then handFault .tray .misfeed s1 else s1

/-- A note read at the tray: placed as band 3 whatever the reader reads (R134, R135). -/
def trayNote (x : Reading) (s : State) : State :=
  match x with
  | .noRead => failedPick .tray s
  | .note d _ =>
    if s.stillHeld trayPos d = 0 then failedPick .tray s
    else
      match routeNote trayPos d 3 s with
      | some t => t
      | none => trayRefused s

/-- A note passes the reader. The table has no row for the pick of a head's or the tray's note: while the run is RUNNING a
note read was picked before any end cause the run has, and is routed and booked though picking has stopped (R138, R155). A
NOTE READ with no room in the note limit shows no note that this run can have picked, and changes nothing (DESIGN CHOICE,
log entry 60). -/
def readNote (p : ReadPoint) (x : Reading) (s : State) : State :=
  if !s.recycler.run.roomToPick then s
  else
    match p with
    | .head h =>
      if s.picksFrom (.head h) then
        match s.recycler.run.lot with
        | some n => settle (headNote n x s)
        | none => s
      else s
    | .tray => if s.picksFrom .tray then settle (trayNote x s) else s

/-- NOTE READ, R134, R135. -/
def execNoteRead (point : ReadPoint) (reading : Reading) (s : State) : Host.Outcome State Fault Refusal :=
  .next (event (readNote point reading) s)

/-! ### Notes arriving, R138 -/

def arrivalDest : Arrival → PathDest
  | .cassette c => .pos (cassettePos c.val)
  | .tray => .pos trayPos
  | .escrow => .escrow
  | .purge m => .pos (purgePos m.val)

/-- A note from a cassette of the run that arrives before the model has made its pick: the pick is made now. The note of
a cassette run has no event of its own when it is picked (log entry 8). -/
def latePick (x : PathDest) (s : State) : Option (PathNote × State) :=
  match s.cassettePick with
  | some n => if n.dest = x then some (n, pickNote n s) else none
  | none => none

/-- The note that arrives, and the state with it in path. A foreign note has no NOTE ARRIVED of its own: it is never in path,
so every arrival at the escrow pocket is that of a booked escrow note, and a run closes without waiting for a foreign one
(DESIGN CHOICE, log entry 19). -/
def arriving (x : PathDest) (s : State) : Option (PathNote × State) :=
  match s.recycler.run.path.find? fun n => n.dest = x with
  | some n => some (n, s)
  | none => latePick x s

/-- A note arrives at its destination. -/
def noteArrives (a : Arrival) (s : State) : State :=
  if s.recycler.run.live then
    match arriving (arrivalDest a) s with
    | some (n, t) => settle (arriveNote n t)
    | none => s
  else s

/-- NOTE ARRIVED, R138. -/
def execNoteArrived (dest : Arrival) (s : State) : Host.Outcome State Fault Refusal :=
  .next (event (noteArrives dest) s)

/-! ### Jams, R141 -/

def jamSource : JamPoint → FaultSource
  | .cassette c => .cassette c.val
  | .branch m => .module m.val
  | .common => .common

/-- The module whose bin a jam takes first. -/
def jamModule : JamPoint → Nat
  | .cassette c => moduleOf c.val
  | .branch m => m.val
  | .common => 0

/-- The bucket of the cassette at the jam point rises, and the fault is handed over. -/
def jamReported (p : JamPoint) (s : State) : State :=
  handFault (jamSource p) .jam (match p with
    | .cassette c => raiseBucket c.val Config.jamWeight s
    | _ => s)

/-- What a jam does: it ends the RUNNING run, fails a purge cycle, or starts one on a spine that carries neither. -/
def jamAt (p : JamPoint) (s : State) : State :=
  let s1 := jamReported p s
  if s1.recycler.run.live then stopRun .jam (jamModule p) s1
  else
    match s1.recycler.purge with
    | some c => purgeFailed c s1
    | none =>
      match s1.purgeBin (jamModule p) with
      | some m => s1.setPurge (some ⟨m, false⟩)
      | none => faultBoth s1

/-- JAM, R141. -/
def execJam (point : JamPoint) (s : State) : Host.Outcome State Fault Refusal :=
  .next (event (fun s => settle (jamAt point s)) s)

/-! ### Module faults, R142 -/

/-- Position `p` lies in module `m`: one of its cassettes or its purge bin. -/
def inModule (m p : Nat) : Bool :=
  match posKind p with
  | .cassette c => moduleOf c = m
  | .purge k => k = m
  | _ => false

/-- A routing range of a NOTE denomination names a cassette of module `m`. -/
def State.routesInto (s : State) (m : Nat) : Bool :=
  denoms.any fun d => s.isNote d && (s.ranges d).any fun r => r.ways.any fun c => moduleOf c = m

def PathNote.inModule (m : Nat) (n : PathNote) : Bool :=
  Machine.inModule m n.src || match n.dest with
    | .pos p => Machine.inModule m p
    | .escrow => false

/-- The RUNNING run uses module `m`, R142. -/
def State.runUses (s : State) (m : Nat) : Bool :=
  let r := s.recycler.run
  r.path.any (PathNote.inModule m) || r.pairs.any (fun e => inModule m e.src || inModule m e.dst)
    || match r.kind with
      | .deposit | .trayReturn => s.routesInto m
      | .dispense => match r.pick with | some c => moduleOf c = m | none => false
      | .evacuate => match s.evac.source with | some c => moduleOf c = m | none => false

def setFault (m : Nat) (f : Bool) (s : State) : State := s.setModRec m { s.module m with fault := f }

/-- A module fault event: a RUNNING run that uses the module ends, and otherwise the module becomes FAULTED by Table 6-2. So
it does in the purge cycle of a run that a fault ended, though both modules may then have their fault present: the module
named becomes FAULTED at once and the other at the cycle's end (DESIGN CHOICE, log entry 71). -/
def faultAt (m : Nat) (s : State) : State :=
  let s1 := handFault (.module m) .module (setFault m true s)
  if s1.recycler.run.live && s1.runUses m then stopRun .fault (otherModule m) s1 else faultModule m s1

/-- MODULE FAULT, R142. -/
def execModuleFault (module : Fin 2) (s : State) : Host.Outcome State Fault Refusal :=
  .next (event (fun s => settle (faultAt module.val s)) s)

/-- MODULE FAULT CLEARED, R142. -/
def execModuleFaultCleared (module : Fin 2) (s : State) : Host.Outcome State Fault Refusal :=
  .next (event (setFault module.val false) s)

/-! ### Intake heads, R122, R139 -/

def setHead (h : Nat) (loaded : Bool) (s : State) : State :=
  { s with recycler := { s.recycler with heads := s.recycler.heads.set h loaded } }

/-- An intake head reports empty: a DEPOSIT run from it ends (R139). -/
def headEmpties (h : Fin 2) (s : State) : State :=
  let s1 := setHead h.val false s
  if s1.picksFrom (.head h) then settle (endRun .sourceEmpty s1) else s1

/-- HEAD EMPTY, R139. -/
def execHeadEmpty (h : Fin 2) (s : State) : Host.Outcome State Fault Refusal := .next (event (headEmpties h) s)

/-- HEAD LOADED, R122. -/
def execHeadLoaded (h : Fin 2) (s : State) : Host.Outcome State Fault Refusal := .next (event (setHead h.val true) s)

/-! ### The tag check, R128 -/

def sensedOf : Option Nat → Sensed
  | some t => .tag t
  | none => .none

/-- A newly present cassette whose identity or settings are not known, R128. -/
def foundCassette (t : Nat) (mismatch : Bool) (a : Option Announcement) : CasRec :=
  { CasRec.vacant with present := true, tag := some t, sensed := .tag t, mismatch := mismatch, announced := a }

/-- The announced cassette taken in, R128. -/
def takenIn (a : Announcement) : CasRec :=
  { CasRec.vacant with
    present := true, tag := some a.tag, sensed := .tag a.tag, role := a.role, denom := a.denom, capacity := a.capacity }

/-- A slot's record after the tag check, R128. -/
def checkTag (r : CasRec) (t : Option Nat) : CasRec :=
  if r.present then { r with sensed := sensedOf t, mismatch := t = none || r.tag ≠ t }
  else
    match t, r.announced with
    | none, _ => { r with sensed := .none }
    | some x, some a => if a.tag = x then takenIn a else foundCassette x true (some a)
    | some x, none => foundCassette x true none

/-- A slot's record after the first tag check since store loss, R128. Every cassette found is UNASSIGNED then: an
announcement made since the store loss stays on the slot, also where its tag is the one read (DESIGN CHOICE, log entry 73). -/
def firstTag (r : CasRec) (t : Option Nat) : CasRec :=
  match t with
  | some x => foundCassette x false r.announced
  | none => { r with sensed := .none }

/-- The slots of module `m` after its tag check. -/
def checkTags (m : Nat) (tags : Tab 6 (Option Nat)) (s : State) : State :=
  let fresh := s.recycler.freshTags.get false m
  State.each (fun i s => changeCassette (6 * m + i) (fun r =>
    if fresh then firstTag r (tags.get none i) else checkTag r (tags.get none i)) s) (List.range 6) s

/-- The tag check of module `m` is done: its start step is PURGE_WAIT. -/
def tagsRead (m : Nat) (tags : Tab 6 (Option Nat)) (s : State) : State :=
  let r := s.module m
  if r.state = .starting ∧ r.step = .tags then
    let s1 := checkTags m tags s
    let s2 := { s1 with recycler := { s1.recycler with freshTags := s1.recycler.freshTags.set m false } }
    settle (s2.setModRec m { r with step := .purgeWait })
  else s

/-- TAG CHECK DONE, R128. -/
def execTagCheckDone (module : Fin 2) (tags : Tab 6 (Option Nat)) (s : State) : Host.Outcome State Fault Refusal :=
  .next (event (tagsRead module.val tags) s)

/-! ### The end of a purge cycle, R143 -/

/-- PURGE ENDED: the cycle in progress ends. -/
def purgeOver (clear : Bool) (notes : Nat) (s : State) : State :=
  match s.recycler.purge with
  | some c => settle (if clear then purgeClear c notes s else purgeFailed c s)
  | none => s

/-- PURGE ENDED, R143. -/
def execPurgeEnded (clear : Bool) (notes : Nat) (s : State) : Host.Outcome State Fault Refusal :=
  .next (event (purgeOver clear notes) s)

end Sys2Proof.Machine
end

