-- ==== Sys2Proof/Machine/Dispatch.lean ====
section
/-! DEFINITION. One arm per command: each is one direct call of the command's meaning. -/

namespace Sys2Proof.Machine

def exec (i : Instr) (s : State) : Host.Outcome State Fault Refusal :=
  match i with
  -- Book unit
  | .setDenomination tag body => Sys2Proof.Machine.execSetDenomination tag body s
  | .clearDenomination tag body => Sys2Proof.Machine.execClearDenomination tag body s
  | .queryStock tag body => Sys2Proof.Machine.execQueryStock tag body s
  | .queryPosition tag body => Sys2Proof.Machine.execQueryPosition tag body s
  | .postPosition tag body => Sys2Proof.Machine.execPostPosition tag body s
  | .setPostingMode tag body => Sys2Proof.Machine.execSetPostingMode tag body s
  | .fetchPostings tag body => Sys2Proof.Machine.execFetchPostings tag body s
  | .adjustPosition tag body => Sys2Proof.Machine.execAdjustPosition tag body s
  | .opening tag body => Sys2Proof.Machine.execOpening tag body s
  -- Till desk
  | .setTemplate tag body => Sys2Proof.Machine.execSetTemplate tag body s
  | .buildFloat tag body => Sys2Proof.Machine.execBuildFloat tag body s
  | .floatHanded tag body => Sys2Proof.Machine.execFloatHanded tag body s
  | .acceptShort tag body => Sys2Proof.Machine.execAcceptShort tag body s
  | .rebuild tag body => Sys2Proof.Machine.execRebuild tag body s
  | .cancelBuild tag body => Sys2Proof.Machine.execCancelBuild tag body s
  | .queryBuilds tag body => Sys2Proof.Machine.execQueryBuilds tag body s
  | .reportSales tag body => Sys2Proof.Machine.execReportSales tag body s
  | .acceptVariance tag body => Sys2Proof.Machine.execAcceptVariance tag body s
  | .closeTill tag body => Sys2Proof.Machine.execCloseTill tag body s
  | .queryTill tag body => Sys2Proof.Machine.execQueryTill tag body s
  -- Count unit
  | .setLine tag body => Sys2Proof.Machine.execSetLine tag body s
  | .resetStation tag body => Sys2Proof.Machine.execResetStation tag body s
  | .stationQuery tag body => Sys2Proof.Machine.execStationQuery tag body s
  | .startCount tag body => Sys2Proof.Machine.execStartCount tag body s
  | .declareCoin tag body => Sys2Proof.Machine.execDeclareCoin tag body s
  | .setCoinLimit tag body => Sys2Proof.Machine.execSetCoinLimit tag body s
  | .acceptCount tag body => Sys2Proof.Machine.execAcceptCount tag body s
  | .rejectCount tag body => Sys2Proof.Machine.execRejectCount tag body s
  | .voidLot tag body => Sys2Proof.Machine.execVoidLot tag body s
  | .resumeDisposal tag body => Sys2Proof.Machine.execResumeDisposal tag body s
  | .disposeLotReserve tag body => Sys2Proof.Machine.execDisposeLotReserve tag body s
  | .queryLot tag body => Sys2Proof.Machine.execQueryLot tag body s
  | .queryJobs tag body => Sys2Proof.Machine.execQueryJobs tag body s
  -- Recycler controller
  | .setCassette tag body => Sys2Proof.Machine.execSetCassette tag body s
  | .insertCassette tag body => Sys2Proof.Machine.execInsertCassette tag body s
  | .removeCassette tag body => Sys2Proof.Machine.execRemoveCassette tag body s
  | .setRoute tag body => Sys2Proof.Machine.execSetRoute tag body s
  | .queryRecycler tag body => Sys2Proof.Machine.execQueryRecycler tag body s
  | .setArbiter tag body => Sys2Proof.Machine.execSetArbiter tag body s
  | .openFloatWindow tag body => Sys2Proof.Machine.execOpenFloatWindow tag body s
  | .closeFloatWindow tag body => Sys2Proof.Machine.execCloseFloatWindow tag body s
  | .queryArbiter tag body => Sys2Proof.Machine.execQueryArbiter tag body s
  | .setFaultPolicy tag body => Sys2Proof.Machine.execSetFaultPolicy tag body s
  | .clearBucket tag body => Sys2Proof.Machine.execClearBucket tag body s
  | .setEvacuation tag body => Sys2Proof.Machine.execSetEvacuation tag body s
  | .startEvacuation tag body => Sys2Proof.Machine.execStartEvacuation tag body s
  | .queryEvacuation tag body => Sys2Proof.Machine.execQueryEvacuation tag body s
  -- Bay controller
  | .openBag tag body => Sys2Proof.Machine.execOpenBag tag body s
  | .fillBag tag body => Sys2Proof.Machine.execFillBag tag body s
  | .closeBag tag body => Sys2Proof.Machine.execCloseBag tag body s
  | .discardContainer tag body => Sys2Proof.Machine.execDiscardContainer tag body s
  | .createConsignment tag body => Sys2Proof.Machine.execCreateConsignment tag body s
  | .addItem tag body => Sys2Proof.Machine.execAddItem tag body s
  | .stage tag body => Sys2Proof.Machine.execStage tag body s
  | .engage tag body => Sys2Proof.Machine.execEngage tag body s
  | .retrieve tag body => Sys2Proof.Machine.execRetrieve tag body s
  | .lockBay tag body => Sys2Proof.Machine.execLockBay tag body s
  | .abort tag body => Sys2Proof.Machine.execAbort tag body s
  | .setDoorLimit tag body => Sys2Proof.Machine.execSetDoorLimit tag body s
  | .queryContainer tag body => Sys2Proof.Machine.execQueryContainer tag body s
  | .queryConsignment tag body => Sys2Proof.Machine.execQueryConsignment tag body s
  | .queryBay tag body => Sys2Proof.Machine.execQueryBay tag body s
  -- Office control
  | .enterHold tag body => Sys2Proof.Machine.execEnterHold tag body s
  | .leaveHold tag body => Sys2Proof.Machine.execLeaveHold tag body s
  | .setRosterEntry tag body => Sys2Proof.Machine.execSetRosterEntry tag body s
  | .openSafe tag body => Sys2Proof.Machine.execOpenSafe tag body s
  | .closeSafe tag body => Sys2Proof.Machine.execCloseSafe tag body s
  | .setSafeRelock tag body => Sys2Proof.Machine.execSetSafeRelock tag body s
  | .setClock tag body => Sys2Proof.Machine.execSetClock tag body s
  | .clearFaultRecord tag body => Sys2Proof.Machine.execClearFaultRecord tag body s
  -- Link unit
  | .getStatus tag body => Sys2Proof.Machine.execGetStatus tag body s
  | .restart tag body => Sys2Proof.Machine.execRestart tag body s
  | .unknownRequest code tag => Sys2Proof.Machine.execUnknownRequest code tag s
  | .linkBusy code tag => Sys2Proof.Machine.execLinkBusy code tag s
  | .droppedFrame reason => Sys2Proof.Machine.execDroppedFrame reason s
  | .byteGapTimeout => Sys2Proof.Machine.execByteGapTimeout s
  | .lineBreak => Sys2Proof.Machine.execLineBreak s
  | .frameSent => Sys2Proof.Machine.execFrameSent s
  -- Power and time
  | .powerOn storeGood => Sys2Proof.Machine.execPowerOn storeGood s
  | .powerLoss => Sys2Proof.Machine.execPowerLoss s
  | .clockTick => Sys2Proof.Machine.execClockTick s
  | .windowOpen consignment => Sys2Proof.Machine.execWindowOpen consignment s
  | .windowClose consignment => Sys2Proof.Machine.execWindowClose consignment s
  | .floatWindowExpiry => Sys2Proof.Machine.execFloatWindowExpiry s
  | .heldOpen door => Sys2Proof.Machine.execHeldOpen door s
  | .courierDoorTimeout => Sys2Proof.Machine.execCourierDoorTimeout s
  | .relockTime => Sys2Proof.Machine.execRelockTime s
  -- Safe and bay sensors and readers
  | .safeSensorOpen => Sys2Proof.Machine.execSafeSensorOpen s
  | .safeSensorClosed => Sys2Proof.Machine.execSafeSensorClosed s
  | .officeDoorOpened => Sys2Proof.Machine.execOfficeDoorOpened s
  | .officeDoorClosed => Sys2Proof.Machine.execOfficeDoorClosed s
  | .courierDoorOpened => Sys2Proof.Machine.execCourierDoorOpened s
  | .courierDoorClosed => Sys2Proof.Machine.execCourierDoorClosed s
  | .officeSideRead number => Sys2Proof.Machine.execOfficeSideRead number s
  | .courierSideRead number => Sys2Proof.Machine.execCourierSideRead number s
  -- Station line
  | .pollCycle => Sys2Proof.Machine.execPollCycle s
  | .attachMark => Sys2Proof.Machine.execAttachMark s
  | .recordSent signals => Sys2Proof.Machine.execRecordSent signals s
  | .replyTimeout => Sys2Proof.Machine.execReplyTimeout s
  | .recordGapTimeout signals => Sys2Proof.Machine.execRecordGapTimeout signals s
  | .failedRecord signals => Sys2Proof.Machine.execFailedRecord signals s
  | .stationState station signals mech stack => Sys2Proof.Machine.execStationState station signals mech stack s
  | .reportHead station signals head => Sys2Proof.Machine.execReportHead station signals head s
  | .reportItem station signals item => Sys2Proof.Machine.execReportItem station signals item s
  | .reportEnd station signals last => Sys2Proof.Machine.execReportEnd station signals last s
  | .reportQuietTimeout => Sys2Proof.Machine.execReportQuietTimeout s
  | .reportRecordTimeout => Sys2Proof.Machine.execReportRecordTimeout s
  -- Recycler mechanism
  | .noteRead point reading => Sys2Proof.Machine.execNoteRead point reading s
  | .noteArrived dest => Sys2Proof.Machine.execNoteArrived dest s
  | .misfeed point => Sys2Proof.Machine.execMisfeed point s
  | .doublePick point => Sys2Proof.Machine.execDoublePick point s
  | .jam point => Sys2Proof.Machine.execJam point s
  | .moduleFault module => Sys2Proof.Machine.execModuleFault module s
  | .moduleFaultCleared module => Sys2Proof.Machine.execModuleFaultCleared module s
  | .headEmpty h => Sys2Proof.Machine.execHeadEmpty h s
  | .headLoaded h => Sys2Proof.Machine.execHeadLoaded h s
  | .tagCheckDone module tags => Sys2Proof.Machine.execTagCheckDone module tags s
  | .purgeEnded clear notes => Sys2Proof.Machine.execPurgeEnded clear notes s

end Sys2Proof.Machine
end

