-- ==== Sys2Proof/Machine/Step.lean ====
section
/-! DEFINITION. One step of the controller: the command at the front of its queue, or, on an empty queue, the one thing the
mechanism does without an event of its own, the next pick of a cassette run. -/

namespace Sys2Proof.Machine

/-- A step on an empty queue (log entry 8): a RUNNING DISPENSE or EVACUATE run picks its next note into the path where a
pick is made now (R138), and otherwise the controller idles. -/
def idle (s : State) : State :=
  match s.powered, s.cassettePick with
  | true, some n => pickNote n s
  | _, _ => s

/-- One step: the command at the front of the queue acts on the state with the queue's rest. -/
def step (s : State) : Host.Outcome State Fault Refusal :=
  match s.pending with
  | [] => .next (idle s)
  | c :: rest => exec c { s with pending := rest }

/-- The state with the command a table word spells at the front of its queue. No row of the table has bits, so no word
spells a command and the state is unchanged. -/
def State.withFetchWord (s : State) (_nbits _w : Nat) : State := s

end Sys2Proof.Machine
end

