-- ==== Sys2Proof/Decode.lean ====
section
/-! DEFINITION. From words and bytes to commands. No row of spec/opcode_table.json has bits, so no table word spells a
command. A received REQUEST frame does: its code, its tag and its body are read here by R201 and Table 11-2 into the
request the frame is, with the widths that the stated range of each field gives (log entry 31). -/

namespace Sys2Proof

/-- The command a table word spells: none, since no row of the table gives bits. -/
def decodeTableWord (_nbits _w : Nat) : Option Instr := none

end Sys2Proof

namespace Sys2Proof.Parse

/-! ### Reading a body, R201 -/

/-- A reader of body fields: it takes bytes from the front, or fails where they do not suffice or do not match. -/
abbrev Parser := StateT (List Byte) Option

/-- The number in the next `k` bytes, most significant byte first, after the bytes already read. -/
def readNat : Nat → Nat → List Byte → Option (Nat × List Byte)
  | 0, acc, l => some (acc, l)
  | _ + 1, _, [] => none
  | k + 1, acc, b :: l => readNat k (acc * 256 + b.toNat) l

/-- A number of `k` bytes. -/
def num (k : Nat) : Parser Nat := readNat k 0

/-- A signed number of `k` bytes, two's complement. -/
def signed (k : Nat) : Parser Int := do
  let n ← num k
  return if n < 2 ^ (8 * k - 1) then (n : Int) else (n : Int) - 2 ^ (8 * k)

/-- `n` items one after another. -/
def many {α : Type} (p : Parser α) : Nat → Parser (List α)
  | 0 => pure []
  | n + 1 => do
    let a ← p
    let l ← many p n
    return a :: l

/-- A list: a one-byte count of its entries, then the entries. -/
def list {α : Type} (p : Parser α) : Parser (List α) := do
  let n ← num 1
  many p n

/-- An optional field: one byte, 1 present or 0 absent, then the field. -/
def optional {α : Type} (p : Parser α) : Parser (Option α) := do
  match ← num 1 with
  | 0 => return none
  | 1 => return some (← p)
  | _ => fun _ => none

/-- A choice among named values: one byte, numbered from 1 in the order given; `none` for a byte that names no value. -/
def choice {α : Type} (l : List α) : Parser (Option α) := do
  match ← num 1 with
  | 0 => return none
  | n + 1 => return l[n]?

def slotAddr : Parser SlotAddr := do
  let m ← num 1
  let s ← num 1
  return ⟨m, s⟩

def pair : Parser Pair := do
  let d ← num 1
  let n ← num 2
  return ⟨d, n⟩

/-- An operator number. -/
def operator : Parser Nat := num 3

/-! ### The bodies, in the order in which each rule names its fields -/

def setDenominationBody : Parser SetDenominationReq := do
  let i ← num 1
  match ← choice [DenomKind.note, .coin, .roll] with
  | some .note => return ⟨i, .note (← num 3)⟩
  | some .coin => return ⟨i, .coin (← num 3)⟩
  | some .roll =>
    let c ← num 1
    let n ← num 1
    return ⟨i, .roll c n⟩
  | none => return ⟨i, .unknownKind⟩

def queryPositionBody : Parser QueryPositionReq := do
  let p ← num 1
  let o ← choice [QueryOption.peek, .settle]
  return ⟨p, o⟩

def setPostingModeBody : Parser SetPostingModeReq := do
  let p ← num 1
  let m ← choice [PostingMode.through, .held]
  return ⟨p, m⟩

def adjustBody : Parser AdjustReq := do
  let p ← num 1
  let d ← choice [Direction.into, .outOf]
  let l ← list pair
  let a ← operator
  let b ← operator
  return ⟨p, d, l, a, b⟩

def openingBody : Parser OpeningReq := do
  let p ← num 1
  let l ← list pair
  let a ← operator
  let b ← operator
  return ⟨p, l, a, b⟩

def templateEntry : Parser TemplateEntry := do
  let d ← num 1
  let p ← num 2
  let lo ← num 2
  let hi ← num 2
  return ⟨d, p, lo, hi⟩

def setTemplateBody : Parser SetTemplateReq := do
  let c ← num 1
  let v ← num 5
  let s ← num 5
  let l ← num 6
  let a ← num 6
  let b ← num 6
  let es ← list templateEntry
  return ⟨c, v, s, l, a, b, es⟩

def buildFloatBody : Parser BuildFloatReq := do
  let t ← num 1
  let c ← num 1
  return ⟨t, c⟩

def tillOpBody : Parser TillOpReq := do
  let t ← num 1
  let o ← operator
  return ⟨t, o⟩

def reportSalesBody : Parser ReportSalesReq := do
  let t ← num 1
  let v ← signed 6
  return ⟨t, v⟩

def acceptVarianceBody : Parser AcceptVarianceReq := do
  let t ← num 1
  let a ← operator
  let b ← operator
  return ⟨t, a, b⟩

def setLineBody : Parser SetLineReq := do
  let r ← num 2
  let l ← num 1
  let p ← num 1
  return ⟨r, l, p⟩

/-- The sources of START COUNT are numbered in the order of Table 5-1. -/
def countSource : Parser CountSource := do
  match ← num 1 with
  | 1 => return .pickup (← num 1)
  | 2 => return .ret (← num 1)
  | 3 => return .container (← num 1)
  | 4 => return .reserveRecount (← list (num 1))
  | 5 => return .purge (← num 1)
  | 6 => return .stranded (← num 1)
  | _ => return .unknown

def stationSel : Parser (Option StationSel) :=
  choice [.one 1, .one 2, .one 3, .one 4, .any, .coinOnly]

def startCountBody : Parser StartCountReq := do
  let s ← countSource
  let n ← stationSel
  let v ← optional (num 6)
  return ⟨s, n, v⟩

def declareCoinBody : Parser DeclareCoinReq := do
  let n ← num 1
  let l ← list pair
  let a ← operator
  let b ← optional operator
  return ⟨n, l, a, b⟩

def disposal : Parser (Option Disposal) := do
  match ← num 1 with
  | 1 => return some .deposit
  | 2 => return some .reserve
  | 3 => return some (.container (← num 1))
  | _ => return none

def acceptCountBody : Parser AcceptCountReq := do
  let n ← num 1
  let d ← disposal
  let a ← operator
  let b ← optional operator
  return ⟨n, d, a, b⟩

def disposeLotReserveBody : Parser DisposeLotReserveReq := do
  let n ← num 1
  let o ← operator
  return ⟨n, o⟩

def role : Parser (Option Role) := choice [.unassigned, .recycle, .depositOnly, .spare, .retired]

def setCassetteBody : Parser SetCassetteReq := do
  let s ← slotAddr
  let r ← role
  let d ← optional (num 1)
  let c ← num 2
  return ⟨s, r, d, c⟩

def insertCassetteBody : Parser InsertCassetteReq := do
  let s ← slotAddr
  let t ← num 4
  let r ← role
  let d ← optional (num 1)
  let c ← num 2
  return ⟨s, t, r, d, c⟩

def removeCassetteBody : Parser RemoveCassetteReq := do
  let s ← slotAddr
  let o ← choice [RemoveOption.empty, .forCollection, .stranded]
  let a ← operator
  let b ← operator
  return ⟨s, o, a, b⟩

def range : Parser RangeReq := do
  let l ← num 1
  let ws ← list slotAddr
  return ⟨l, ws⟩

def setRouteBody : Parser SetRouteReq := do
  let d ← num 1
  let rs ← list range
  return ⟨d, rs⟩

def setArbiterBody : Parser SetArbiterReq := do
  let n ← num 1
  let r ← num 1
  let d ← num 1
  let l ← num 2
  let c ← num 2
  let p ← num 1
  let w ← choice [Preemption.never, .inWindow, .always]
  return ⟨n, r, d, l, c, p, w⟩

def setFaultPolicyBody : Parser SetFaultPolicyReq := do
  let t ← num 1
  let l ← num 2
  return ⟨t, l⟩

def slotOpsBody : Parser SlotOpsReq := do
  let s ← slotAddr
  let a ← operator
  let b ← operator
  return ⟨s, a, b⟩

def setEvacuationBody : Parser SetEvacuationReq := do
  let m ← num 1
  let e ← choice [true, false]
  return ⟨m, e⟩

def fillBagBody : Parser FillBagReq := do
  let n ← num 1
  let s ← choice [FillSource.reserve, .suspect, .purge0, .purge1]
  let l ← list pair
  let o ← operator
  return ⟨n, s, l, o⟩

def deliveryItem : Parser DeliveryItemReq := do
  let n ← num 4
  let v ← num 6
  let l ← list pair
  return ⟨n, v, l⟩

/-- The list of items is sent for a delivery only, since it depends on the kind (R178, R201). -/
def createConsignmentBody : Parser CreateConsignmentReq := do
  let k ← choice [ConsKind.collection, .delivery]
  let r ← num 2
  let a ← num 4
  let b ← num 4
  match k with
  | some .delivery => return ⟨k, r, a, b, ← list deliveryItem⟩
  | _ => return ⟨k, r, a, b, []⟩

def addItemBody : Parser AddItemReq := do
  let k ← num 1
  let n ← num 1
  return ⟨k, n⟩

def engageBody : Parser EngageReq := do
  let k ← num 1
  let r ← num 2
  let a ← operator
  let b ← operator
  return ⟨k, r, a, b⟩

/-- The roles of a list of role bytes, CASHIER 1, SUPERVISOR 2, CUSTODIAN 3; none where one names no role. -/
def rolesOf (l : List Nat) : Option Roles :=
  if l.all fun n => 1 ≤ n && n ≤ 3 then some ⟨l.contains 1, l.contains 2, l.contains 3⟩ else none

/-- A set of roles travels as a list of choices; EMPTY is the first of the two contents an entry may be given. -/
def rosterContent : Parser (Option RosterContent) := do
  match ← num 1 with
  | 1 => return none
  | 2 =>
    let n ← operator
    let l ← list (num 1)
    let a ← choice [true, false]
    return some ⟨n, if a = none then none else rolesOf l, a.getD false⟩
  | _ => fun _ => none

def setRosterBody : Parser SetRosterReq := do
  let i ← num 1
  let c ← rosterContent
  let a ← operator
  let b ← operator
  return ⟨i, c, a, b⟩

def openSafeBody : Parser OpenSafeReq := do
  let a ← operator
  let b ← operator
  return ⟨a, b⟩

/-- No body. -/
def noBody : Parser Unit := pure ()

end Sys2Proof.Parse

namespace Sys2Proof

open Parse

/-! ### The request a frame is -/

/-- The body read whole: its fields, or a body that is too short, too long or does not match (R203). -/
def whole {α : Type} (p : Parser α) (bytes : List Byte) : Body α :=
  match p bytes with
  | some (a, []) => .good a
  | _ => .bad

/-- Requests of the book unit and the till desk, Table 11-2. -/
def moneyRequest (code tag : Nat) (b : List Byte) : Option Instr :=
  match code with
  | 16 => some (.setDenomination tag (whole setDenominationBody b))
  | 17 => some (.clearDenomination tag (whole (num 1) b))
  | 18 => some (.queryStock tag (whole noBody b))
  | 19 => some (.queryPosition tag (whole queryPositionBody b))
  | 20 => some (.postPosition tag (whole (num 1) b))
  | 21 => some (.setPostingMode tag (whole setPostingModeBody b))
  | 22 => some (.fetchPostings tag (whole (num 1) b))
  | 23 => some (.adjustPosition tag (whole adjustBody b))
  | 24 => some (.opening tag (whole openingBody b))
  | 32 => some (.setTemplate tag (whole setTemplateBody b))
  | 33 => some (.buildFloat tag (whole buildFloatBody b))
  | 34 => some (.floatHanded tag (whole tillOpBody b))
  | 35 => some (.acceptShort tag (whole tillOpBody b))
  | 36 => some (.rebuild tag (whole (num 1) b))
  | 37 => some (.cancelBuild tag (whole (num 1) b))
  | 38 => some (.queryBuilds tag (whole noBody b))
  | 39 => some (.reportSales tag (whole reportSalesBody b))
  | 40 => some (.acceptVariance tag (whole acceptVarianceBody b))
  | 41 => some (.closeTill tag (whole (num 1) b))
  | 42 => some (.queryTill tag (whole (num 1) b))
  | _ => none

/-- Requests of the count unit and the recycler controller, Table 11-2. -/
def cashRequest (code tag : Nat) (b : List Byte) : Option Instr :=
  match code with
  | 48 => some (.setLine tag (whole setLineBody b))
  | 49 => some (.resetStation tag (whole (num 1) b))
  | 50 => some (.stationQuery tag (whole (num 1) b))
  | 51 => some (.startCount tag (whole startCountBody b))
  | 52 => some (.declareCoin tag (whole declareCoinBody b))
  | 53 => some (.setCoinLimit tag (whole (num 4) b))
  | 54 => some (.acceptCount tag (whole acceptCountBody b))
  | 55 => some (.rejectCount tag (whole (num 1) b))
  | 56 => some (.voidLot tag (whole (num 1) b))
  | 57 => some (.resumeDisposal tag (whole (num 1) b))
  | 58 => some (.disposeLotReserve tag (whole disposeLotReserveBody b))
  | 59 => some (.queryLot tag (whole (num 1) b))
  | 60 => some (.queryJobs tag (whole noBody b))
  | 64 => some (.setCassette tag (whole setCassetteBody b))
  | 65 => some (.insertCassette tag (whole insertCassetteBody b))
  | 66 => some (.removeCassette tag (whole removeCassetteBody b))
  | 67 => some (.setRoute tag (whole setRouteBody b))
  | 68 => some (.queryRecycler tag (whole noBody b))
  | 69 => some (.setArbiter tag (whole setArbiterBody b))
  | 70 => some (.openFloatWindow tag (whole (num 2) b))
  | 71 => some (.closeFloatWindow tag (whole noBody b))
  | 72 => some (.queryArbiter tag (whole noBody b))
  | 73 => some (.setFaultPolicy tag (whole setFaultPolicyBody b))
  | 74 => some (.clearBucket tag (whole slotOpsBody b))
  | 75 => some (.setEvacuation tag (whole setEvacuationBody b))
  | 76 => some (.startEvacuation tag (whole slotOpsBody b))
  | 77 => some (.queryEvacuation tag (whole noBody b))
  | _ => none

/-- Requests of the bay controller, office control and the link unit, Table 11-2. -/
def officeRequest (code tag : Nat) (b : List Byte) : Option Instr :=
  match code with
  | 80 => some (.openBag tag (whole (num 4) b))
  | 81 => some (.fillBag tag (whole fillBagBody b))
  | 82 => some (.closeBag tag (whole (num 1) b))
  | 83 => some (.discardContainer tag (whole (num 1) b))
  | 84 => some (.createConsignment tag (whole createConsignmentBody b))
  | 85 => some (.addItem tag (whole addItemBody b))
  | 86 => some (.stage tag (whole (num 1) b))
  | 87 => some (.engage tag (whole engageBody b))
  | 88 => some (.retrieve tag (whole noBody b))
  | 89 => some (.lockBay tag (whole noBody b))
  | 90 => some (.abort tag (whole (num 1) b))
  | 91 => some (.setDoorLimit tag (whole (num 2) b))
  | 92 => some (.queryContainer tag (whole (num 1) b))
  | 93 => some (.queryConsignment tag (whole (num 1) b))
  | 94 => some (.queryBay tag (whole noBody b))
  | 96 => some (.enterHold tag (whole noBody b))
  | 97 => some (.leaveHold tag (whole noBody b))
  | 98 => some (.setRosterEntry tag (whole setRosterBody b))
  | 99 => some (.openSafe tag (whole openSafeBody b))
  | 100 => some (.closeSafe tag (whole noBody b))
  | 101 => some (.setSafeRelock tag (whole (num 2) b))
  | 102 => some (.setClock tag (whole (num 4) b))
  | 103 => some (.clearFaultRecord tag (whole noBody b))
  | 112 => some (.getStatus tag (whole noBody b))
  | 113 => some (.restart tag (whole noBody b))
  | _ => none

/-- The command a received request is: that of its code in Table 11-2, or an unknown request (R203). -/
def decodeRequest (code tag : Nat) (b : List Byte) : Instr :=
  match moneyRequest code tag b with
  | some i => i
  | none =>
    match cashRequest code tag b with
    | some i => i
    | none =>
      match officeRequest code tag b with
      | some i => i
      | none => .unknownRequest code tag

/-! ### The code and the tag a request carries -/

/-- The request code of a command, Table 11-2; none for a command that is no request of the table. -/
def requestCode : Instr → Option Nat
  | .setDenomination _ _ => some 16
  | .clearDenomination _ _ => some 17
  | .queryStock _ _ => some 18
  | .queryPosition _ _ => some 19
  | .postPosition _ _ => some 20
  | .setPostingMode _ _ => some 21
  | .fetchPostings _ _ => some 22
  | .adjustPosition _ _ => some 23
  | .opening _ _ => some 24
  | .setTemplate _ _ => some 32
  | .buildFloat _ _ => some 33
  | .floatHanded _ _ => some 34
  | .acceptShort _ _ => some 35
  | .rebuild _ _ => some 36
  | .cancelBuild _ _ => some 37
  | .queryBuilds _ _ => some 38
  | .reportSales _ _ => some 39
  | .acceptVariance _ _ => some 40
  | .closeTill _ _ => some 41
  | .queryTill _ _ => some 42
  | .setLine _ _ => some 48
  | .resetStation _ _ => some 49
  | .stationQuery _ _ => some 50
  | .startCount _ _ => some 51
  | .declareCoin _ _ => some 52
  | .setCoinLimit _ _ => some 53
  | .acceptCount _ _ => some 54
  | .rejectCount _ _ => some 55
  | .voidLot _ _ => some 56
  | .resumeDisposal _ _ => some 57
  | .disposeLotReserve _ _ => some 58
  | .queryLot _ _ => some 59
  | .queryJobs _ _ => some 60
  | .setCassette _ _ => some 64
  | .insertCassette _ _ => some 65
  | .removeCassette _ _ => some 66
  | .setRoute _ _ => some 67
  | .queryRecycler _ _ => some 68
  | .setArbiter _ _ => some 69
  | .openFloatWindow _ _ => some 70
  | .closeFloatWindow _ _ => some 71
  | .queryArbiter _ _ => some 72
  | .setFaultPolicy _ _ => some 73
  | .clearBucket _ _ => some 74
  | .setEvacuation _ _ => some 75
  | .startEvacuation _ _ => some 76
  | .queryEvacuation _ _ => some 77
  | .openBag _ _ => some 80
  | .fillBag _ _ => some 81
  | .closeBag _ _ => some 82
  | .discardContainer _ _ => some 83
  | .createConsignment _ _ => some 84
  | .addItem _ _ => some 85
  | .stage _ _ => some 86
  | .engage _ _ => some 87
  | .retrieve _ _ => some 88
  | .lockBay _ _ => some 89
  | .abort _ _ => some 90
  | .setDoorLimit _ _ => some 91
  | .queryContainer _ _ => some 92
  | .queryConsignment _ _ => some 93
  | .queryBay _ _ => some 94
  | .enterHold _ _ => some 96
  | .leaveHold _ _ => some 97
  | .setRosterEntry _ _ => some 98
  | .openSafe _ _ => some 99
  | .closeSafe _ _ => some 100
  | .setSafeRelock _ _ => some 101
  | .setClock _ _ => some 102
  | .clearFaultRecord _ _ => some 103
  | .getStatus _ _ => some 112
  | .restart _ _ => some 113
  | .unknownRequest _ _ | .linkBusy _ _ | .droppedFrame _ | .byteGapTimeout | .lineBreak | .frameSent
  | .powerOn _ | .powerLoss | .clockTick | .windowOpen _ | .windowClose _ | .floatWindowExpiry | .heldOpen _
  | .courierDoorTimeout | .relockTime | .safeSensorOpen | .safeSensorClosed | .officeDoorOpened
  | .officeDoorClosed | .courierDoorOpened | .courierDoorClosed | .officeSideRead _ | .courierSideRead _
  | .pollCycle | .attachMark | .recordSent _ | .replyTimeout | .recordGapTimeout _ | .failedRecord _
  | .stationState _ _ _ _ | .reportHead _ _ _ | .reportItem _ _ _ | .reportEnd _ _ _ | .reportQuietTimeout
  | .reportRecordTimeout | .noteRead _ _ | .noteArrived _ | .misfeed _ | .doublePick _ | .jam _
  | .moduleFault _ | .moduleFaultCleared _ | .headEmpty _ | .headLoaded _ | .tagCheckDone _ _ | .purgeEnded _ _ => none

/-- The tag a request of the table carries. -/
def requestTag : Instr → Option Nat
  | .setDenomination t _ | .clearDenomination t _ | .queryStock t _ | .queryPosition t _ | .postPosition t _
  | .setPostingMode t _ | .fetchPostings t _ | .adjustPosition t _ | .opening t _ | .setTemplate t _
  | .buildFloat t _ | .floatHanded t _ | .acceptShort t _ | .rebuild t _ | .cancelBuild t _ | .queryBuilds t _
  | .reportSales t _ | .acceptVariance t _ | .closeTill t _ | .queryTill t _ | .setLine t _ | .resetStation t _
  | .stationQuery t _ | .startCount t _ | .declareCoin t _ | .setCoinLimit t _ | .acceptCount t _
  | .rejectCount t _ | .voidLot t _ | .resumeDisposal t _ | .disposeLotReserve t _ | .queryLot t _
  | .queryJobs t _ | .setCassette t _ | .insertCassette t _ | .removeCassette t _ | .setRoute t _
  | .queryRecycler t _ | .setArbiter t _ | .openFloatWindow t _ | .closeFloatWindow t _ | .queryArbiter t _
  | .setFaultPolicy t _ | .clearBucket t _ | .setEvacuation t _ | .startEvacuation t _ | .queryEvacuation t _
  | .openBag t _ | .fillBag t _ | .closeBag t _ | .discardContainer t _ | .createConsignment t _ | .addItem t _
  | .stage t _ | .engage t _ | .retrieve t _ | .lockBay t _ | .abort t _ | .setDoorLimit t _
  | .queryContainer t _ | .queryConsignment t _ | .queryBay t _ | .enterHold t _ | .leaveHold t _
  | .setRosterEntry t _ | .openSafe t _ | .closeSafe t _ | .setSafeRelock t _ | .setClock t _
  | .clearFaultRecord t _ | .getStatus t _ | .restart t _ => some t
  | .unknownRequest _ _ | .linkBusy _ _ | .droppedFrame _ | .byteGapTimeout | .lineBreak | .frameSent
  | .powerOn _ | .powerLoss | .clockTick | .windowOpen _ | .windowClose _ | .floatWindowExpiry | .heldOpen _
  | .courierDoorTimeout | .relockTime | .safeSensorOpen | .safeSensorClosed | .officeDoorOpened
  | .officeDoorClosed | .courierDoorOpened | .courierDoorClosed | .officeSideRead _ | .courierSideRead _
  | .pollCycle | .attachMark | .recordSent _ | .replyTimeout | .recordGapTimeout _ | .failedRecord _
  | .stationState _ _ _ _ | .reportHead _ _ _ | .reportItem _ _ _ | .reportEnd _ _ _ | .reportQuietTimeout
  | .reportRecordTimeout | .noteRead _ _ | .noteArrived _ | .misfeed _ | .doublePick _ | .jam _
  | .moduleFault _ | .moduleFaultCleared _ | .headEmpty _ | .headLoaded _ | .tagCheckDone _ _ | .purgeEnded _ _ => none

end Sys2Proof
end

