-- ==== Sys2Proof/Machine/Wire.lean ====
section
/-! DEFINITION. The bytes of the two lines: frames, their CRC and the receiver (R201, R202), the bodies of replies and
notices (R205, R206), and the records of the station line (R82, R83). The commands of the opcode table are frames and
records already assembled; these functions say how bytes become commands and how frames become bytes. -/

namespace Sys2Proof.Machine

/-! ### Bytes of fields, R201 -/

/-- The `k` low bytes of a number, most significant byte first. -/
def natBytes : Nat → Nat → List Byte
  | 0, _ => []
  | k + 1, n => BitVec.ofNat 8 (n / 2 ^ (8 * k)) :: natBytes k n

/-- A field in its bytes; a negative value in two's complement. -/
def Field.encode (f : Field) : List Byte := natBytes f.bytes (f.value % 2 ^ (8 * f.bytes)).toNat

def fieldsBytes (l : List Field) : List Byte := (l.map Field.encode).flatten

/-! ### The CRC, R201 -/

/-- One bit of the CRC register, generator x^16 + x^12 + x^5 + 1. -/
def crcBit (c : BitVec 16) : BitVec 16 := if c.msb then (c <<< 1) ^^^ 0x1021#16 else c <<< 1

/-- One byte, taken most significant bit first. -/
def crcByte (c : BitVec 16) (b : Byte) : BitVec 16 :=
  crcBit (crcBit (crcBit (crcBit (crcBit (crcBit (crcBit (crcBit (c ^^^ (b.setWidth 16 <<< 8)))))))))

/-- The CRC over some bytes: the register starts at 0xFFFF and is sent as it stands. -/
def crc (l : List Byte) : BitVec 16 := l.foldl crcByte 0xFFFF#16

/-! ### Frames, Table 11-1 -/

/-- The bytes of a frame from its kind, code, tag and body. -/
def frameBytes (kind code tag : Nat) (body : List Byte) : List Byte :=
  let covered := natBytes 2 body.length ++ [BitVec.ofNat 8 kind, BitVec.ofNat 8 code, BitVec.ofNat 8 tag] ++ body
  0xA5#8 :: covered ++ natBytes 2 (crc covered).toNat

/-- Frame kinds, Table 11-1. -/
def requestKind : Nat := 1
def replyKind : Nat := 2
def noticeKind : Nat := 3

/-! ### Reply bodies, R205 -/

/-- The items of a list that fit in `room` bytes, whole. -/
def itemsThatFit : Nat → List (List Field) → List (List Field)
  | _, [] => []
  | room, x :: l => if fieldBytes x ≤ room then x :: itemsThatFit (room - fieldBytes x) l else []

/-- The lists of a reply cut by at least `excess` bytes, at a last whole item: the last list, and where that is not enough the
one before it, and so on (R205, log entry 33). With them, the bytes that are still over. -/
def cutLists (excess : Nat) :
    List (List (List Field) × List (List Field)) → Nat × List (List (List Field) × List (List Field))
  | [] => (excess, [])
  | (l, a) :: ls =>
    let (n, cut) := cutLists excess ls
    let sent := itemsThatFit (fieldBytes l.flatten - n) l
    (n - (fieldBytes l.flatten - fieldBytes sent.flatten), (sent, a) :: cut)

/-- What a reply's lists send, in whole items: each list's count, its items and the fields after it. -/
def listsItems (l : List (List (List Field) × List (List Field))) : List (List Field) :=
  (l.map fun q => [u1 q.1.length] :: q.1 ++ q.2).flatten

/-- A reply's data with its lists cut (R205). -/
def Reply.data (r : Reply) : List (List Field) :=
  let whole := 1 + fieldBytes r.fields + fieldBytes (listsItems r.lists).flatten
  r.fields.map (fun f => [f]) ++ listsItems (cutLists (whole - Config.maxReplyBody) r.lists).2

/-- A reply body: the status and the data, of at most 512 bytes (R205). Where the data exceed it with every list cut empty,
whole fields at the end are left out (DESIGN CHOICE, log entry 33). -/
def replyBody (r : Reply) : List Byte :=
  BitVec.ofNat 8 r.status.code :: fieldsBytes (itemsThatFit (Config.maxReplyBody - 1) r.data).flatten

/-! ### Notices, Tables 11-4 and 11-5 -/

/-- Notice codes, Table 11-4. -/
def NoticeBody.code : NoticeBody → Nat
  | .started .. => 1
  | .pickupDue .. => 2
  | .buildReady .. | .buildCancelled .. => 3
  | .buildShort .. => 4
  | .countDone .. => 5
  | .countFailed .. => 6
  | .lotDone .. | .lotInterrupted .. => 7
  | .cassetteFull .. => 8
  | .atThreshold .. => 9
  | .evacuationStarted .. => 10
  | .evacuationDone .. => 11
  | .evacuationStranded .. => 12
  | .moduleState .. => 13
  | .stationState .. => 14
  | .consignmentState .. => 15
  | .readerReject .. => 16
  | .doorAlarm .. => 17
  | .safeRelocked .. => 18
  | .holdReached .. => 19
  | .postingsWaiting .. => 20
  | .varianceException .. => 21
  | .purgeRecovered .. => 22

/-- Causes of READER_REJECT, in the order in which R183, R186 and R188 name them; REFUSED carries the book's code. -/
def rejectFields : RejectCause → List Field
  | .notExpected => [u1 1]
  | .notActive => [u1 2]
  | .repeated => [u1 3]
  | .refused c => [u1 4, u1 c.code]

/-- The fields a notice's rule names. COUNT_DONE carries one presence byte for the declared value and the difference formed
with it, and COUNT_FAILED one for the station, which a coin-only lot has none of (DESIGN CHOICE, log entries 87 and 86). The
number of ways in EVACUATION_DONE has 2 bytes; PURGE_RECOVERED lists its sources, each as a side with a list of its non-zero
pairs, and the number of notes arrived has 2 bytes (DESIGN CHOICE, log entry 88). -/
def NoticeBody.fields : NoticeBody → List Field
  | .started restart good m c => [u1 (if restart then 2 else 1), u1 (if good then 1 else 2), u1 m.code, u4 c]
  | .pickupDue t d l => [u1 t, i6 d, u6 l]
  | .buildReady k t p v => [u1 k, u1 t, u1 1, u5 p, u5 v]
  | .buildCancelled k t => [u1 k, u1 t, u1 2]
  | .buildShort k t c d p v n => [u1 k, u1 t, u1 c.code] ++ opt d (fun x => [u1 x]) ++ [u5 p, u5 v, u5 n]
  | .countDone n src st a b cv sv decl =>
    u1 n :: sourceFields src ++ opt st (fun x => [u1 x]) ++ [u2 a, u2 b, u5 cv, u5 sv]
      ++ opt decl fun v => [u6 v, i6 ((cv : Int) - v)]
  | .countFailed n st c => u1 n :: opt st (fun x => [u1 x]) ++ [u1 c.code]
  | .lotDone n src d v => [u1 1, u1 n] ++ sourceFields src ++ opt d disposalFields ++ [u5 v]
  | .lotInterrupted n c => [u1 2, u1 n] ++ countFields c
  | .cassetteFull c d n cap lvl => slotFields c ++ opt d (fun x => [u1 x]) ++ [u2 n, u2 cap, u1 lvl]
  | .atThreshold c r d b t n => slotFields c ++ [u1 (roleCode r)] ++ opt d (fun x => [u1 x]) ++ [u1 b, u1 t, u2 n]
  | .evacuationStarted a b d n f => slotFields a ++ slotFields b ++ opt d (fun x => [u1 x]) ++ [u2 n, flag f]
  | .evacuationDone a b n m w => slotFields a ++ slotFields b ++ [u2 n, u2 m, u2 w]
  | .evacuationStranded a b m r => slotFields a ++ slotFields b ++ [u2 m, u2 r]
  | .moduleState m now left => [u1 m, u1 now.code, u1 left.code]
  | .stationState n st m k => [u1 n, u1 st.code, u1 (mechCode m), u2 k]
  | .consignmentState k kind r now left n d =>
    [u1 k, u1 (consKindCode kind), u2 r, u1 now.code, u1 left.code, u1 n, u1 d]
  | .readerReject d n c => [u1 (doorCode d), u4 n] ++ rejectFields c
  | .doorAlarm d c t => [u1 d.code, u1 c.code, u4 t]
  | .safeRelocked t o => [u4 t, flag o]
  | .holdReached t => [u4 t]
  | .postingsWaiting n => [u1 n]
  | .varianceException t n v b => [u1 t, u2 n, i6 v, u1 b.code]
  | .purgeRecovered m l n ns =>
    u1 m :: listField l (fun q => positionSide q.1 ++ countList q.2) ++ u2 n :: listField ns fun k => [u4 k]

/-- A notice body: its number, its clock and its fields. -/
def noticeBytes (n : Notice) : List Byte := fieldsBytes ([u2 n.number, u4 n.clock] ++ n.body.fields)

/-- The bytes of a frame the transmitter sends. -/
def Frame.encode : Frame → List Byte
  | .reply code tag r => frameBytes replyKind code tag (replyBody r)
  | .busy code tag => frameBytes replyKind code tag (replyBody (refusal .linkBusy))
  | .notice n => frameBytes noticeKind n.body.code 0 (noticeBytes n)

/-! ### The receiver, R202 -/

/-- What a byte brings the receiver to: a whole frame dropped, or a received request. -/
inductive Received where
  | request (code tag : Nat) (body : List Byte)
  | dropped (reason : DropReason)
  deriving DecidableEq, Repr

/-- The length field of the bytes assembled so far. -/
def lengthField (l : List Byte) : Nat := (l.getD 1 0).toNat * 256 + (l.getD 2 0).toNat

/-- A frame assembled whole is judged: its CRC, then its kind. -/
def judgeFrame (l : List Byte) : Received :=
  let n := lengthField l
  let covered := (l.drop 1).take (5 + n)
  if l.drop (6 + n) ≠ natBytes 2 (crc covered).toNat then .dropped .crc
  else if (l.getD 3 0).toNat ≠ requestKind then .dropped .kind
  else .request (l.getD 4 0).toNat (l.getD 5 0).toNat ((l.drop 6).take n)

/-- One byte at the receiver: hunting for a sync byte, or assembling a frame of the length its bytes 1 and 2 give. -/
def receiveByte (r : Receiver) (b : Byte) : Receiver × Option Received :=
  match r with
  | .hunting => if b = 0xA5#8 then (.assembling [b], none) else (.hunting, none)
  | .assembling l =>
    let l1 := l ++ [b]
    if l1.length < 3 then (.assembling l1, none)
    else if 512 < lengthField l1 then (.hunting, some (.dropped .length))
    else if l1.length < 8 + lengthField l1 then (.assembling l1, none)
    else (.hunting, some (judgeFrame l1))

/-- Bytes at the receiver, one after another: what it makes of them. -/
def receiveBytes : Receiver → List Byte → Receiver × List Received
  | r, [] => (r, [])
  | r, b :: l =>
    let (r1, x) := receiveByte r b
    let (r2, xs) := receiveBytes r1 l
    (r2, x.toList ++ xs)

/-- The command that what the receiver makes of bytes is to the controller (R202, R203). -/
def Received.command : Received → Instr
  | .request code tag body => decodeRequest code tag body
  | .dropped r => .droppedFrame r

/-! ### Characters of the station line, R80 -/

/-- One bit-time of a character. -/
inductive LineBit where
  | start
  | data (b : Bool)
  | parity (b : Bool)
  | guard
  deriving DecidableEq, Repr

/-- The data bits of a character, lowest first. -/
def dataBits (b : Byte) : List Bool := (List.range 8).map b.getLsbD

/-- The parity bit that makes the number of ones among the data and parity bits even. -/
def parityBit (l : List Bool) : Bool := l.foldl (fun p b => p != b) false

/-- A character: one start bit, eight data bits lowest first, the parity bit and a guard of two bit-times. -/
def charBits (b : Byte) : List LineBit :=
  .start :: (dataBits b).map .data ++ [.parity (parityBit (dataBits b)), .guard, .guard]

/-- The byte of eight data bits, lowest first. -/
def byteOf : List Bool → Nat
  | [] => 0
  | b :: l => (if b then 1 else 0) + 2 * byteOf l

/-- What a receiver makes of the twelve bit-times of a character: its byte, or none where the parity is bad, when the receiver
drives the error signal and expects the character again (R80, R81). -/
def readChar (l : List LineBit) : Option Byte :=
  match l with
  | [.start, .data a, .data b, .data c, .data d, .data e, .data f, .data g, .data h, .parity p, .guard, .guard] =>
    let bits := [a, b, c, d, e, f, g, h]
    if p = parityBit bits then some (BitVec.ofNat 8 (byteOf bits)) else none
  | _ => none

/-! ### Records of the station line, R82, R83 -/

/-- The check byte: the sum of all bytes of the record is zero modulo 256. -/
def recordCheck (l : List Byte) : Byte := -(l.foldl (· + ·) 0)

/-- The bytes of a record from its address, kind and body. -/
def recordBytes (address kind : Nat) (body : List Byte) : List Byte :=
  let l := BitVec.ofNat 8 address :: BitVec.ofNat 8 kind :: BitVec.ofNat 8 body.length :: body
  l ++ [recordCheck l]

/-- The record the controller sends to station `n`, Table 4-3. -/
def LineRecord.encode (n : Nat) : LineRecord → List Byte
  | .attach => recordBytes n 1 []
  | .poll => recordBytes n 2 []
  | .command c =>
    match commandFields c with
    | k :: body => recordBytes n k.value.toNat (fieldsBytes body)
    | [] => []

/-- The mechanism state a STATE record shows; none for an unknown code, which is a content fault of a good record (R83). -/
def mechOf : Nat → Option MechState
  | 1 => some .ready
  | 2 => some .feeding
  | 3 => some .reportReady
  | 4 => some .stackHold
  | 5 => some .jam
  | 6 => some .coverOpen
  | _ => none

/-- A good record from a station, as its kind and body length make it; none for a failed record (R83). -/
def recordCommand (station : Fin 4) (signals : List Nat) (kind : Nat) (body : List Byte) : Option Instr :=
  match kind, body.map BitVec.toNat with
  | 33, [m, a, b] => some (.stationState station signals (mechOf m) (256 * a + b))
  | 34, [j, k, a, b, c, d] => some (.reportHead station signals ⟨j, k, 256 * a + b, 256 * c + d⟩)
  | 35, [d, a0, b0, a1, b1, a2, b2, a3, b3, a, b] =>
    some (.reportItem station signals
      ⟨d, 256 * a0 + b0, 256 * a1 + b1, 256 * a2 + b2, 256 * a3 + b3, 256 * a + b⟩)
  | 36, [j, a, b] => some (.reportEnd station signals ⟨j, 256 * a + b⟩)
  | _, _ => none

/-- The station whose records carry this address: 128 plus its number. -/
def stationOf (address : Nat) : Option (Fin 4) :=
  match address with
  | 129 => some 0
  | 130 => some 1
  | 131 => some 2
  | 132 => some 3
  | _ => none

/-- The command that a record's bytes are: a good record, or a failed one (R83). -/
def answerCommand (signals : List Nat) (l : List Byte) : Instr :=
  match l with
  | a :: k :: n :: rest =>
    if l.foldl (· + ·) 0 = 0#8 ∧ rest.length = n.toNat + 1 then
      match stationOf a.toNat with
      | some st => (recordCommand st signals k.toNat rest.dropLast).getD (.failedRecord signals)
      | none => .failedRecord signals
    else .failedRecord signals
  | _ => .failedRecord signals

end Sys2Proof.Machine
end

