-- ==== Sys2Proof/Safety.lean ====
section
/-! DEFINITION. What the spec calls its laws, as predicates on a state: what a safe controller never leaves. -/

namespace Sys2Proof.Machine

/-- The controller can take a request: power is present, no request is in hand (R203), and the link is not stopping for a
RESTART (R210). -/
def State.ready (s : State) : Prop := s.powered = true ∧ s.link.inHand = none ∧ s.link.stopping = false

/-- `t` is `s` but for what an availability cut may change (R20, R21, R60, R146): the reservation entries, the builds, the
dispense request, the end cause of the run in progress, and the notices. -/
def CutChangesOnly (s t : State) : Prop :=
  ∃ (entries : List ResEntry) (builds : Tab 4 (Option Build)) (req : Option DispenseReq) (withdrawn : Bool)
    (cause : Option EndCause) (notices : List Notice) (number : Nat) (lost : Bool), t = { s with
      book := { s.book with reservations := entries }
      desk := { s.desk with builds := builds }
      arbiter := { s.arbiter with dispense := req, dispenseWithdrawn := withdrawn }
      recycler := { s.recycler with run := { s.recycler.run with cause := cause } }
      link := { s.link with notices := notices, noticeNumber := number, noticeLost := lost } }

/-- A request whose body does not decode into its fields (R203, case 2). -/
def undecoded (c : Instr) : Bool :=
  match c with
  | .setDenomination _ .bad | .clearDenomination _ .bad | .queryStock _ .bad | .queryPosition _ .bad
  | .postPosition _ .bad | .setPostingMode _ .bad | .fetchPostings _ .bad | .adjustPosition _ .bad
  | .opening _ .bad | .setTemplate _ .bad | .buildFloat _ .bad | .floatHanded _ .bad | .acceptShort _ .bad
  | .rebuild _ .bad | .cancelBuild _ .bad | .queryBuilds _ .bad | .reportSales _ .bad | .acceptVariance _ .bad
  | .closeTill _ .bad | .queryTill _ .bad | .setLine _ .bad | .resetStation _ .bad | .stationQuery _ .bad
  | .startCount _ .bad | .declareCoin _ .bad | .setCoinLimit _ .bad | .acceptCount _ .bad | .rejectCount _ .bad
  | .voidLot _ .bad | .resumeDisposal _ .bad | .disposeLotReserve _ .bad | .queryLot _ .bad | .queryJobs _ .bad
  | .setCassette _ .bad | .insertCassette _ .bad | .removeCassette _ .bad | .setRoute _ .bad
  | .queryRecycler _ .bad | .setArbiter _ .bad | .openFloatWindow _ .bad | .closeFloatWindow _ .bad
  | .queryArbiter _ .bad | .setFaultPolicy _ .bad | .clearBucket _ .bad | .setEvacuation _ .bad
  | .startEvacuation _ .bad | .queryEvacuation _ .bad | .openBag _ .bad | .fillBag _ .bad | .closeBag _ .bad
  | .discardContainer _ .bad | .createConsignment _ .bad | .addItem _ .bad | .stage _ .bad | .engage _ .bad
  | .retrieve _ .bad | .lockBay _ .bad | .abort _ .bad | .setDoorLimit _ .bad | .queryContainer _ .bad
  | .queryConsignment _ .bad | .queryBay _ .bad | .enterHold _ .bad | .leaveHold _ .bad
  | .setRosterEntry _ .bad | .openSafe _ .bad | .closeSafe _ .bad | .setSafeRelock _ .bad | .setClock _ .bad
  | .clearFaultRecord _ .bad | .getStatus _ .bad | .restart _ .bad => true
  | _ => false

/-- The count of denomination `d` over all custody positions. -/
def State.custodySum (s : State) (d : Nat) : Nat :=
  (s.book.positions.list.map fun r => Counts.of r.counts d).foldr (· + ·) 0

/-- The law of the custody totals, R14: for each denomination the sum over all positions is the custody total. -/
def State.totalsLaw (s : State) : Prop := ∀ d < 12, s.custodySum d = Counts.of s.book.totals d

/-- A LOT or CONTAINER slot that is FREE, or whose release is pending, holds no count (R10, R11, R12). -/
def State.emptySlots (s : State) : Prop :=
  ∀ p, 14 ≤ p → p ≤ 173 → ((s.posRec p).inUse = false ∨ (s.posRec p).releasePending = true) →
    (s.posRec p).counts = Counts.zero

/-- The custody law kept by every step: the totals, with nothing left in a slot that is given up. -/
def State.bookLaw (s : State) : Prop := s.totalsLaw ∧ s.emptySlots

/-- The law of the posting queue, R37. -/
def State.queueLaw (s : State) : Prop := s.book.queue.length ≤ Config.postingCap

/-- The law of reservations, R20: the reserved count never exceeds the eligible stock. -/
def State.reservationLaw (s : State) : Prop := ∀ d < 12, s.reserved d ≤ s.eligible d

/-- The law of the deposit account, R148. -/
def State.accountLaw (s : State) : Prop := s.arbiter.account ≤ s.arbiter.settings.clip

/-- Every fault bucket lies between 0 and 255, R158. -/
def State.bucketLaw (s : State) : Prop := ∀ c < 12, (s.cassette c).bucket ≤ Config.bucketTop

/-- The law of the bay doors, R181: never both unlocked. -/
def State.doorLaw (s : State) : Prop := s.doors.office.locked = true ∨ s.doors.courier.locked = true

/-- The law of the notice queue, R206, and the bound on owed LINK_BUSY replies, R203. -/
def State.linkLaw (s : State) : Prop :=
  s.link.notices.length ≤ Config.noticeCap ∧ s.link.owed.length ≤ Config.owedCap

/-- No two roster entries hold one operator number, R195. -/
def State.rosterLaw (s : State) : Prop :=
  ∀ i j, i < 32 → j < 32 → i ≠ j → ∀ a b, s.office.roster.get none i = some a → s.office.roster.get none j = some b →
    a.number ≠ b.number

/-- The job queue holds at most 16 jobs, R103. -/
def State.jobsLaw (s : State) : Prop := s.count.jobs.length ≤ Config.jobCap

/-- A present cassette that is not RETIRED and whose bucket has reached the threshold carries AT_THRESHOLD, R159, R160. -/
def State.thresholdLaw (s : State) : Prop :=
  1 ≤ s.evac.threshold ∧ ∀ c < 12, (s.cassette c).present = true → (s.cassette c).role ≠ .retired →
    s.evac.threshold ≤ (s.cassette c).bucket → (s.cassette c).atThreshold = true

/-- The law of the cassettes, R126: a cassette's count never exceeds its capacity, and one with a non-zero count holds only
notes of its recorded denomination. A slot that is not present holds nothing (R125), and no slot of a module whose first tag
check after store loss is still to come is present (R128). -/
def State.cassetteLaw (s : State) : Prop :=
  ∀ c < 12, s.cassetteCount c ≤ (s.cassette c).capacity ∧
    (∀ d < 12, s.held (cassettePos c) d ≠ 0 → (s.cassette c).denom = some d) ∧
    ((s.cassette c).present = false → s.cassetteCount c = 0) ∧
    (s.recycler.freshTags.get false (moduleOf c) = true → (s.cassette c).present = false)

/-- The law of evacuation, R162, of the pair of an ACTIVE or PAUSED record: two present cassettes of one module, the source
marked EVAC_SOURCE and the spare, of role SPARE, marked EVAC_SPARE, whose counts together never exceed the spare's
capacity. -/
def State.evacLaw (s : State) : Prop :=
  match s.evacPair with
  | none => True
  | some (a, b) =>
    a < 12 ∧ b < 12 ∧ a ≠ b ∧ moduleOf a = moduleOf b ∧ (s.cassette a).present = true ∧ (s.cassette b).present = true ∧
      (s.cassette a).evacSource = true ∧ (s.cassette b).evacSpare = true ∧ (s.cassette b).role = .spare ∧
      s.cassetteCount a + s.cassetteCount b ≤ (s.cassette b).capacity

/-- What holds of the cassettes together. -/
def State.recyclerLaw (s : State) : Prop := s.thresholdLaw ∧ s.cassetteLaw ∧ s.evacLaw

/-- The numbers of the container register, R172: those of the container records that are not FREE, and those of the items
that deliveries still expect. -/
def State.registerNumbers (s : State) : List Nat :=
  (s.bay.containers.list.filterMap fun r => r.map (·.number)) ++
    (s.bay.consignments.list.map fun r => match r with
      | some c => c.expected.map (·.number)
      | none => []).flatten

/-- The law of container numbers, R172: none is held twice. -/
def State.registerLaw (s : State) : Prop := s.registerNumbers.Nodup

/-- A lot belongs to its till while it is WAITING, COUNTING or COUNTED: the till is in PICKUP or RETURNING with this lot as
its open lot (R102). -/
def State.lotOfTill (s : State) (n : Nat) (l : LotRec) : Prop :=
  l.inCount = true → match l.source with
    | .pickup t => (s.till t).state = .pickup ∧ (s.till t).openLot = some n
    | .ret t => (s.till t).state = .returning ∧ (s.till t).openLot = some n
    | _ => True

/-- The law of one lot per till, R102, with what keeps it: a lot record lies in a claimed slot, whose release is pending
only when the lot is VOID or DISPOSED (R115, R118); a station's job is of a lot COUNTING there (R104); and the till of a
build is in BUILDING and of no other build (R63). -/
def State.tillLaw (s : State) : Prop :=
  (∀ n < 64, ∀ l, s.lot n = some l → (s.posRec (lotPos n)).inUse = true ∧ s.lotOfTill n l ∧
    ((s.posRec (lotPos n)).releasePending = true → l.state = .void ∨ l.state = .disposed)) ∧
  (∀ k ∈ stationNumbers, ∀ j n, (s.station k).job = some (j, n) →
    ∃ l, s.lot n = some l ∧ l.state = .counting ∧ l.counting = some k) ∧
  (∀ k < 4, ∀ b, s.build k = some b → (s.till b.till).state = .building ∧
    ∀ i < 4, ∀ c, s.build i = some c → c.till = b.till → i = k)

/-- The laws the spec names, all together. -/
def State.lawful (s : State) : Prop :=
  s.bookLaw ∧ s.queueLaw ∧ s.reservationLaw ∧ s.accountLaw ∧ s.bucketLaw ∧ s.doorLaw ∧ s.linkLaw ∧ s.rosterLaw ∧
    s.jobsLaw ∧ s.recyclerLaw ∧ s.registerLaw ∧ s.tillLaw

end Sys2Proof.Machine
end

