-- ==== Sys2Proof/WellFormed.lean ====
section
/-! DEFINITION. Well-formed commands: every field of a request, a record or an event fits the bytes that carry it (R201,
Table 4-2, Table 4-3), and every list fits its one-byte count. The machine gives every command a meaning, well-formed or
not; a command that a line brings is well-formed. -/

namespace Sys2Proof

/-- A number fits `k` bytes. -/
def fits (k n : Nat) : Bool := n < 256 ^ k

/-- A list fits its one-byte count, and each item is well-formed. -/
def listFits {α : Type} (p : α → Bool) (l : List α) : Bool := l.length < 256 && l.all p

/-- An optional number fits `k` bytes where it is present. -/
def optFits (k : Nat) : Option Nat → Bool
  | some n => fits k n
  | none => true

/-- A signed number fits `k` bytes in two's complement. -/
def signedFits (k : Nat) (v : Int) : Bool := decide (-(256 ^ k : Int) ≤ 2 * v ∧ 2 * v < (256 ^ k : Int))

/-- A body whose fields are well-formed; a body that does not decode is one too. -/
def bodyFits {α : Type} (p : α → Bool) : Body α → Bool
  | .good a => p a
  | .bad => true

def pairFits (q : Pair) : Bool := fits 1 q.denom && fits 2 q.count
def slotFits (a : SlotAddr) : Bool := fits 1 a.module && fits 1 a.slot
def opFits (n : Nat) : Bool := fits 3 n

def specFits : DenomSpec → Bool
  | .note f => fits 3 f
  | .coin f => fits 3 f
  | .roll c n => fits 1 c && fits 1 n
  | .unknownKind => true

def templateFits (e : TemplateEntry) : Bool := fits 1 e.denom && fits 2 e.pref && fits 2 e.min && fits 2 e.max

def sourceFits : CountSource → Bool
  | .pickup n => fits 1 n
  | .ret n => fits 1 n
  | .container n => fits 1 n
  | .reserveRecount l => listFits (fits 1) l
  | .purge n => fits 1 n
  | .stranded n => fits 1 n
  | .unknown => true

def stationSelFits : Option StationSel → Bool
  | some (.one n) => 1 ≤ n && n ≤ 4
  | _ => true

def disposalFits : Option Disposal → Bool
  | some (.container n) => fits 1 n
  | _ => true

def rangeFits (r : RangeReq) : Bool := fits 1 r.limit && listFits slotFits r.ways
def itemFits (i : DeliveryItemReq) : Bool := fits 4 i.number && fits 6 i.declaredValue && listFits pairFits i.pairs

/-- The items of a consignment travel for a delivery only. -/
def itemsFit (q : CreateConsignmentReq) : Bool :=
  listFits itemFits q.items && (q.kind = some .delivery || q.items.isEmpty)

def contentFits : Option RosterContent → Bool
  | some c => opFits c.number
  | none => true

/-- The error signals seen on the characters of a record: at most one more than the greatest repeat limit each. -/
def signalsFit (l : List Nat) : Bool := l.all (· ≤ 8)

def recordFits (r : ItemRecord) : Bool :=
  fits 1 r.denom && fits 2 r.band0 && fits 2 r.band1 && fits 2 r.band2 && fits 2 r.band3 && fits 2 r.suspects

/-- A well-formed command. -/
def Instr.wf : Instr → Bool
  | .setDenomination t b => fits 1 t && bodyFits (fun q => fits 1 q.index && specFits q.spec) b
  | .clearDenomination t b => fits 1 t && bodyFits (fits 1) b
  | .queryStock t _ => fits 1 t
  | .queryPosition t b => fits 1 t && bodyFits (fun q => fits 1 q.position) b
  | .postPosition t b => fits 1 t && bodyFits (fits 1) b
  | .setPostingMode t b => fits 1 t && bodyFits (fun q => fits 1 q.position) b
  | .fetchPostings t b => fits 1 t && bodyFits (fits 1) b
  | .adjustPosition t b =>
    fits 1 t && bodyFits (fun q => fits 1 q.position && listFits pairFits q.pairs && opFits q.op1 && opFits q.op2) b
  | .opening t b =>
    fits 1 t && bodyFits (fun q => fits 1 q.position && listFits pairFits q.pairs && opFits q.op1 && opFits q.op2) b
  | .setTemplate t b =>
    fits 1 t && bodyFits (fun q => fits 1 q.cls && fits 5 q.target && fits 5 q.short && fits 6 q.pickupLimit
      && fits 6 q.tolOk && fits 6 q.tolReview && listFits templateFits q.entries) b
  | .buildFloat t b => fits 1 t && bodyFits (fun q => fits 1 q.till && fits 1 q.cls) b
  | .floatHanded t b => fits 1 t && bodyFits (fun q => fits 1 q.till && opFits q.op) b
  | .acceptShort t b => fits 1 t && bodyFits (fun q => fits 1 q.till && opFits q.op) b
  | .rebuild t b => fits 1 t && bodyFits (fits 1) b
  | .cancelBuild t b => fits 1 t && bodyFits (fits 1) b
  | .queryBuilds t _ => fits 1 t
  | .reportSales t b => fits 1 t && bodyFits (fun q => fits 1 q.till && signedFits 6 q.figure) b
  | .acceptVariance t b => fits 1 t && bodyFits (fun q => fits 1 q.till && opFits q.op1 && opFits q.op2) b
  | .closeTill t b => fits 1 t && bodyFits (fits 1) b
  | .queryTill t b => fits 1 t && bodyFits (fits 1) b
  | .setLine t b => fits 1 t && bodyFits (fun q => fits 2 q.bitRate && fits 1 q.repeatLimit && fits 1 q.pollInterval) b
  | .resetStation t b => fits 1 t && bodyFits (fits 1) b
  | .stationQuery t b => fits 1 t && bodyFits (fits 1) b
  | .startCount t b =>
    fits 1 t && bodyFits (fun q => sourceFits q.source && stationSelFits q.station && optFits 6 q.declared) b
  | .declareCoin t b =>
    fits 1 t && bodyFits (fun q => fits 1 q.lot && listFits pairFits q.pairs && opFits q.op1 && optFits 3 q.op2) b
  | .setCoinLimit t b => fits 1 t && bodyFits (fits 4) b
  | .acceptCount t b =>
    fits 1 t && bodyFits (fun q => fits 1 q.lot && disposalFits q.disposal && opFits q.op1 && optFits 3 q.op2) b
  | .rejectCount t b => fits 1 t && bodyFits (fits 1) b
  | .voidLot t b => fits 1 t && bodyFits (fits 1) b
  | .resumeDisposal t b => fits 1 t && bodyFits (fits 1) b
  | .disposeLotReserve t b => fits 1 t && bodyFits (fun q => fits 1 q.lot && opFits q.op) b
  | .queryLot t b => fits 1 t && bodyFits (fits 1) b
  | .queryJobs t _ => fits 1 t
  | .setCassette t b => fits 1 t && bodyFits (fun q => slotFits q.slot && optFits 1 q.denom && fits 2 q.capacity) b
  | .insertCassette t b =>
    fits 1 t && bodyFits (fun q => slotFits q.slot && fits 4 q.tagNumber && optFits 1 q.denom && fits 2 q.capacity) b
  | .removeCassette t b => fits 1 t && bodyFits (fun q => slotFits q.slot && opFits q.op1 && opFits q.op2) b
  | .setRoute t b => fits 1 t && bodyFits (fun q => fits 1 q.denom && listFits rangeFits q.ranges) b
  | .queryRecycler t _ => fits 1 t
  | .setArbiter t b =>
    fits 1 t && bodyFits (fun q => fits 1 q.runLength && fits 1 q.ratio && fits 1 q.decr && fits 2 q.limit
      && fits 2 q.clip && fits 1 q.patience) b
  | .openFloatWindow t b => fits 1 t && bodyFits (fits 2) b
  | .closeFloatWindow t _ => fits 1 t
  | .queryArbiter t _ => fits 1 t
  | .setFaultPolicy t b => fits 1 t && bodyFits (fun q => fits 1 q.threshold && fits 2 q.leakNotes) b
  | .clearBucket t b => fits 1 t && bodyFits (fun q => slotFits q.slot && opFits q.op1 && opFits q.op2) b
  | .setEvacuation t b => fits 1 t && bodyFits (fun q => fits 1 q.module) b
  | .startEvacuation t b => fits 1 t && bodyFits (fun q => slotFits q.slot && opFits q.op1 && opFits q.op2) b
  | .queryEvacuation t _ => fits 1 t
  | .openBag t b => fits 1 t && bodyFits (fits 4) b
  | .fillBag t b => fits 1 t && bodyFits (fun q => fits 1 q.slot && listFits pairFits q.pairs && opFits q.op) b
  | .closeBag t b => fits 1 t && bodyFits (fits 1) b
  | .discardContainer t b => fits 1 t && bodyFits (fits 1) b
  | .createConsignment t b =>
    fits 1 t && bodyFits (fun q => fits 2 q.route && fits 4 q.windowOpen && fits 4 q.windowClose && itemsFit q) b
  | .addItem t b => fits 1 t && bodyFits (fun q => fits 1 q.consignment && fits 1 q.container) b
  | .stage t b => fits 1 t && bodyFits (fits 1) b
  | .engage t b =>
    fits 1 t && bodyFits (fun q => fits 1 q.consignment && fits 2 q.route && opFits q.op1 && opFits q.op2) b
  | .retrieve t _ => fits 1 t
  | .lockBay t _ => fits 1 t
  | .abort t b => fits 1 t && bodyFits (fits 1) b
  | .setDoorLimit t b => fits 1 t && bodyFits (fits 2) b
  | .queryContainer t b => fits 1 t && bodyFits (fits 1) b
  | .queryConsignment t b => fits 1 t && bodyFits (fits 1) b
  | .queryBay t _ => fits 1 t
  | .enterHold t _ => fits 1 t
  | .leaveHold t _ => fits 1 t
  | .setRosterEntry t b =>
    fits 1 t && bodyFits (fun q => fits 1 q.entry && contentFits q.content && opFits q.op1 && opFits q.op2) b
  | .openSafe t b => fits 1 t && bodyFits (fun q => opFits q.op1 && opFits q.op2) b
  | .closeSafe t _ => fits 1 t
  | .setSafeRelock t b => fits 1 t && bodyFits (fits 2) b
  | .setClock t b => fits 1 t && bodyFits (fits 4) b
  | .clearFaultRecord t _ => fits 1 t
  | .getStatus t _ => fits 1 t
  | .restart t _ => fits 1 t
  | .unknownRequest c t => fits 1 c && fits 1 t
  | .linkBusy c t => fits 1 c && fits 1 t
  | .officeSideRead n => fits 4 n
  | .courierSideRead n => fits 4 n
  | .recordSent l => signalsFit l
  | .recordGapTimeout l => signalsFit l
  | .failedRecord l => signalsFit l
  | .stationState _ l _ k => signalsFit l && fits 2 k
  | .reportHead _ l h => signalsFit l && fits 1 h.job && fits 1 h.items && fits 2 h.notes && fits 2 h.suspects
  | .reportItem _ l i => signalsFit l && recordFits i
  | .reportEnd _ l e => signalsFit l && fits 1 e.job && fits 2 e.total
  | .noteRead _ (.note d _) => d < 12
  | .noteRead _ .noRead => true
  | .tagCheckDone _ tags => tags.list.all (optFits 4)
  | .purgeEnded _ n => fits 2 n
  | .droppedFrame _ | .byteGapTimeout | .lineBreak | .frameSent | .powerOn _ | .powerLoss | .clockTick | .windowOpen _
  | .windowClose _ | .floatWindowExpiry | .heldOpen _ | .courierDoorTimeout | .relockTime | .safeSensorOpen
  | .safeSensorClosed | .officeDoorOpened | .officeDoorClosed | .courierDoorOpened | .courierDoorClosed | .pollCycle
  | .attachMark | .replyTimeout | .reportQuietTimeout | .reportRecordTimeout | .noteArrived _ | .misfeed _
  | .doublePick _ | .jam _ | .moduleFault _ | .moduleFaultCleared _ | .headEmpty _ | .headLoaded _ => true

end Sys2Proof
end

