-- ==== Sys2Proof/Certificates/Slice0/Obligations.lean ====
section
/-! DEFINITION. The statements about the controller, each a proposition for the provers. The result statements give the
whole next state: what they do not name is unchanged. `respond code tag r t` is the state `t` with the request of that
code and tag in hand and the reply `r` formed for it (R203, R204); `heard s` is `s` with the receiver hunting (R202);
`settle t` is `t` after the changes that the blocks make of themselves in the same event, and `t` itself where none is due.
-/

open Sys2Proof Sys2Proof.Machine

/-! ### The machine as a whole -/

/-- One step takes the command at the front of the queue and runs it on the state with the queue's rest. -/
def Obligations.StepTakesFrontCommand : Prop :=
  ∀ (c : Instr) (rest : List Instr) (s : State),
    step { s with pending := c :: rest } = exec c { s with pending := rest }

/-- On an empty queue the controller idles, but for the next pick of a cassette run: the note joins the notes in path and
the failed picks become 0 (the model's choice of when a pick is made, log entry 8). -/
def Obligations.EmptyQueuePicksOrIdles : Prop :=
  ∀ s : State, s.pending = [] →
    (s.powered = false ∨ s.cassettePick = none → step s = .next s) ∧
    (∀ n, s.powered = true → s.cassettePick = some n →
      step s = .next (s.setRun { s.recycler.run with path := s.recycler.run.path ++ [n], failed := 0 }))

/-- Every command, in every state, answers a next state and leaves the commands that wait. That no rule of the spec stops the
controller is read from the spec by inference (DEDUCED, log entry 10), and that a command to a controller without power is
taken and does nothing is the model's choice (log entry 11). -/
def Obligations.EveryCommandAnswersNext : Prop :=
  ∀ (c : Instr) (s : State), ∃ t, exec c s = .next t ∧ t.pending = s.pending

/-- The reset state has the book of R24: every denomination EMPTY, every fixed position IN_USE with zero counts, no mark,
THROUGH, every LOT and CONTAINER slot FREE, every custody total zero, no reservation, the opening condition set, and the
office in HOLD. Every start whose store fails its check leaves the same book and the same mode, whatever the store held. -/
def Obligations.ResetBookIsStoreLoss : Prop :=
  (∀ d < 12, State.reset.denom d = .empty ∧ Counts.of State.reset.book.totals d = 0) ∧
  (∀ p < 177, (p < 14 ∨ 173 < p) → State.reset.posRec p = ⟨true, Counts.zero, Marks.clear, .through, false, false, false, 0⟩) ∧
  (∀ p, 14 ≤ p → p ≤ 173 → (State.reset.posRec p).inUse = false) ∧
  State.reset.book.reservations = [] ∧ State.reset.book.opening = true ∧ State.reset.office.mode = .hold ∧
  (∀ s : State, s.powered = false → ∃ t, exec (.powerOn false) s = .next t ∧ t.book = State.reset.book ∧
    t.office.mode = .hold)

/-- A power-on that finds the store failing its check brings a controller whose door sensors read CLOSED to the reset
state, whatever the store held (R24, R209); commands that wait still wait, and the last frames sent are those of the time
before (log entries 1 and 6). -/
def Obligations.FailedStoreStartIsReset : Prop :=
  ∀ s : State, s.powered = false → s.doors.office.sensorOpen = false → s.doors.courier.sensorOpen = false →
    s.office.safe.sensorOpen = false →
    exec (.powerOn false) s = .next { State.reset with
      pending := s.pending, link := { State.reset.link with lastSent := s.link.lastSent } }

/-- Without power nothing acts but the clock, the sensors' readings and the next power-on (R199, R208, R209). -/
def Obligations.UnpoweredControllerIgnoresCommands : Prop :=
  ∀ (c : Instr) (s : State), s.powered = false →
    (match c with
      | .powerOn _ | .clockTick | .safeSensorOpen | .safeSensorClosed | .officeDoorOpened | .officeDoorClosed
      | .courierDoorOpened | .courierDoorClosed => False
      | _ => True) →
    exec c s = .next s

/-- Any request received while one is in hand has no effect but an owed LINK_BUSY reply with its code and tag, and with 8
owed already none at all; the transmitter, if free, then begins its next frame (R203, R204). The receiver has taken the
frame whole and hunts. The same for a LINK BUSY event, whatever code it carries, and for a request with an unknown code.
A request with no request in hand whose body does not decode into its fields is answered BAD_FIELD, and one with a
code that is not in Table 11-2 is answered UNKNOWN_REQUEST; neither has another effect (R203, cases 1 and 2). A request that
comes after the OK reply of a RESTART, while LINK_BUSY replies still leave, is dropped (R210, log entry 7). -/
def Obligations.LinkTurnsRequestsAway : Prop :=
  (∀ (c : Instr) (code tag : Nat) (s : State),
    (requestCode c = some code ∧ requestTag c = some tag ∨ c = .linkBusy code tag ∨
      c = .unknownRequest code tag ∧ code ∉ requestCodes) →
    s.powered = true → s.link.inHand ≠ none →
    exec c s = .next (if s.link.owed.length < 8
      then transmit { heard s with link := { (heard s).link with owed := s.link.owed ++ [(code, tag)] } }
      else heard s)) ∧
  (∀ (s : State), s.ready →
    (∀ (c : Instr) (code tag : Nat), requestCode c = some code → requestTag c = some tag → undecoded c = true →
      exec c s = .next (respond code tag (refusal .badField) (heard s))) ∧
    (∀ code tag : Nat, code ∉ requestCodes →
      exec (.unknownRequest code tag) s = .next (respond code tag (refusal .unknownRequest) (heard s)))) ∧
  (∀ (c : Instr) (code tag : Nat) (s : State),
    (requestCode c = some code ∧ requestTag c = some tag ∨ c = .unknownRequest code tag ∧ code ∉ requestCodes) →
    s.powered = true → s.link.inHand = none → s.link.stopping = true → exec c s = .next (heard s))

/-- A refused request has no effect (R205): the next state is the state it found with the refusal formed. Outside this
stand OPENING, whose first two operators stand whether or not the book applies it (R196), and REMOVE CASSETTE, which
claims a slot and releases it again (R132). -/
def Obligations.RefusedRequestHasNoEffect : Prop :=
  ∀ (c : Instr) (code tag : Nat) (s t : State) (h : InHand), requestCode c = some code → requestTag c = some tag →
    code ≠ 24 → code ≠ 66 → s.ready → exec c s = .next t → t.link.inHand = some h →
    h.reply.status ≠ .ok → h.reply.status ≠ .accepted → t = respond code tag h.reply (heard s)

/-- The link's receiver reads any request frame that R201 lays out: with its bytes heard one after another from hunting, it
hunts again and has received exactly the code, the tag and the body that were sent. A character of the station line, laid out
in its twelve bit-times, is read back as the byte it carries (R80). No command runs these: a request and a record arrive whole (log
entry 9). -/
def Obligations.ReceiverReadsEveryRequestFrame : Prop :=
  ∀ (code tag : Nat) (body : List Byte), code < 256 → tag < 256 → body.length ≤ 512 →
    receiveBytes .hunting (frameBytes 1 code tag body) = (.hunting, [.request code tag body]) ∧
      ∀ b : Byte, readChar (charBits b) = some b

/-- A frame whose CRC, kind or length is wrong is dropped silently (R202), with the reason that the command carries. -/
def Obligations.ReceiverDropsBadFrames : Prop :=
  (∀ (kind code tag : Nat) (body : List Byte), kind < 256 → kind ≠ 1 → body.length ≤ 512 →
    receiveBytes .hunting (frameBytes kind code tag body) = (.hunting, [.dropped .kind])) ∧
  (∀ (kind code tag : Nat) (body wrong : List Byte), body.length ≤ 512 → wrong.length = 2 →
    wrong ≠ (frameBytes kind code tag body).drop (6 + body.length) →
    receiveBytes .hunting ((frameBytes kind code tag body).take (6 + body.length) ++ wrong)
      = (.hunting, [.dropped .crc])) ∧
  (∀ a b : Byte, 512 < a.toNat * 256 + b.toNat → receiveBytes .hunting [0xA5#8, a, b] = (.hunting, [.dropped .length]))

/-! ### The laws of the spec, kept by every step -/

/-- The reset state keeps every law: of the custody totals, the posting queue, reservations, the deposit account, fault
buckets, the bay doors, the notice queue, the roster, the job queue, the cassettes and their flags, evacuation, container
numbers and one lot per till. -/
def Obligations.ResetKeepsEveryLaw : Prop := State.reset.lawful

/-- The law of the custody totals, R14: for each denomination the sum of its counts over all 177 positions is its custody
total, in every state that a step leaves, where it was so before and every slot given up was empty. -/
def Obligations.StepKeepsCustodyTotals : Prop := ∀ s t : State, s.bookLaw → step s = .next t → t.bookLaw

/-- The posting queue never holds more than 128 entries (R37), and the job queue never more than 16 jobs (R103). -/
def Obligations.StepKeepsPostingQueueBound : Prop :=
  (∀ s t : State, s.queueLaw → step s = .next t → t.queueLaw) ∧
  (∀ s t : State, s.jobsLaw → step s = .next t → t.jobsLaw)

/-- The deposit account A never exceeds CLIP, and its arithmetic is that of R148: a note counted in notes moved that arrives
for a DEPOSIT run makes A first the smaller of CLIP and A + RATIO, and every such note then lowers it by DECR, not below 0; a
foreign note at an intake head counts as one when it is read; a note that arrives in a purge bin leaves A. Nothing else of
the event changes A. That a foreign note changes A at its NOTE READ, also one read after the run's end cause, is the model's
choice (log entries 19 and 60, DESIGN CHOICE). -/
def Obligations.StepKeepsDepositAccount : Prop :=
  (∀ s t : State, s.accountLaw → step s = .next t → t.accountLaw) ∧
  (∀ (s t : State) (a : Arrival) (x : PathNote), s.powered = true → s.recycler.run.live = true →
    s.recycler.run.path.find? (fun x => x.dest = arrivalDest a) = some x → exec (.noteArrived a) s = .next t →
    (x.dest = .escrow ∨ (∃ p, x.dest = .pos p ∧ isPurgePos p = false ∧ s.canBook x p = true) →
      t.arbiter.account = (if s.recycler.run.kind = .deposit
        then Nat.min s.arbiter.settings.clip (s.arbiter.account + s.arbiter.settings.ratio)
        else s.arbiter.account) - s.arbiter.settings.decr) ∧
    (∀ p, x.dest = .pos p → isPurgePos p = true → t.arbiter.account = s.arbiter.account)) ∧
  (∀ (s t : State) (h : Fin 2) (n : Nat), s.powered = true → s.recycler.run.roomToPick = true →
    s.picksFrom (.head h) = true → s.recycler.run.lot = some n → exec (.noteRead (.head h) .noRead) s = .next t →
    t.arbiter.account = Nat.min s.arbiter.settings.clip (s.arbiter.account + s.arbiter.settings.ratio)
      - s.arbiter.settings.decr)

/-- Every fault bucket lies between 0 and 255 (R158). Every step keeps the laws of the recycler together: a cassette whose
bucket has reached the threshold carries AT_THRESHOLD (R159, R160); a cassette's count stays within its capacity and of its
denomination (R126); and the counts of an evacuating pair stay together within the spare's capacity (R162, R165). So no note
is placed into a cassette whose bucket has reached the threshold (R159). -/
def Obligations.StepKeepsFaultBuckets : Prop :=
  (∀ s t : State, s.bucketLaw → step s = .next t → t.bucketLaw) ∧
  (∀ s t : State, s.recyclerLaw → step s = .next t → t.recyclerLaw) ∧
  (∀ (s : State) (d g k i c : Nat), s.thresholdLaw → s.place d g = some (k, i, c) →
    (s.cassette c).bucket < s.evac.threshold)

/-- The office door and the courier door are never both unlocked (R181). -/
def Obligations.StepNeverUnlocksBothDoors : Prop := ∀ s t : State, s.doorLaw → step s = .next t → t.doorLaw

/-- The notice queue never holds more than 32 notices, nor the owed LINK_BUSY replies more than 8 (R203, R206). -/
def Obligations.StepKeepsLinkQueues : Prop := ∀ s t : State, s.linkLaw → step s = .next t → t.linkLaw

/-- No operator number appears in two roster entries (R195), and no container number is held by two containers, or by a
container and an expected delivery item (R172). -/
def Obligations.StepKeepsRosterNumbersApart : Prop :=
  (∀ s t : State, s.rosterLaw → step s = .next t → t.rosterLaw) ∧
  (∀ s t : State, s.registerLaw → step s = .next t → t.registerLaw)

/-- Every step keeps the law of reservations R20, that the reserved count of no denomination exceeds its eligible stock, and
the law of one lot per till R102: a pickup or return lot that is WAITING, COUNTING or COUNTED is the open lot of its till,
which is in PICKUP or RETURNING. With the second go what keeps it: lot records lie in claimed slots, a station's job is of a
lot that it is counting, and the till of a build is in BUILDING and of that build alone. -/
def Obligations.StepKeepsReservationsAndOpenLots : Prop :=
  (∀ s t : State, s.reservationLaw → step s = .next t → t.reservationLaw) ∧
  (∀ s t : State, s.tillLaw → step s = .next t → t.tillLaw)

/-- Runs and grants. A step that grants a run, seen by a RUNNING record that was not RUNNING before or is of another kind,
requester, lot or denomination, or has fewer notes or pairs than before, leaves the office TRADING, the safe door LOCKED with
its sensor CLOSED, and no module OFFLINE or STARTING (R149). With grants open the arbiter grants in the order of R150: in an
open float window the dispense request; else the evacuation where it is promoted or its skips have reached PATIENCE; else, where
both wait, the head of the waiting order while A ≤ LIMIT and the dispense request above it; else the one that waits; else the
evacuation. The record granted, and the skip count (R153), are those stated. A deposit-class entry given joins the waiting
order's tail, and moves there when its run closes (R151). A DEPOSIT run that still picks is cut for a grantable dispense
request in the cases of R155 and in no other. A run takes DONE where its request is satisfied, and else LIMIT where its notes
moved have reached its limit (R139; a TRAY_RETURN run is satisfied when the tray holds no more than its escrow, log entry 22).
A run with a cause and no note in path closes, and no other does: its record is IDLE (its fields cleared, log entry 66), no
position carries an in-run mark; its pairs' movements take the next numbers in order and are posted to their THROUGH positions,
source first, with the counts held, which they leave; an escrow that passes its checks goes to RESERVE under one number more
(R30, R139; log entry 21). -/
def Obligations.RunStartsOnlyWithGrantsOpen : Prop :=
  (∀ s t : State, step s = .next t → t.recycler.run.state = .running →
    (s.recycler.run.state ≠ .running ∨ s.recycler.run.kind ≠ t.recycler.run.kind ∨
      s.recycler.run.requester ≠ t.recycler.run.requester ∨ s.recycler.run.lot ≠ t.recycler.run.lot ∨
      s.recycler.run.denom ≠ t.recycler.run.denom ∨ t.recycler.run.moved < s.recycler.run.moved ∨
      t.recycler.run.pairs.length < s.recycler.run.pairs.length) →
    t.office.mode = .trading ∧ t.office.safe.state = .locked ∧ t.office.safe.sensorOpen = false ∧
      ∀ m < 2, (t.module m).state ≠ .offline ∧ (t.module m).state ≠ .starting) ∧
  (∀ s t : State, grantStep s = some t → s.grantsOpen = true) ∧
  (∀ s : State, s.grantsOpen = true →
    let a := s.arbiter
    let n := a.settings.runLength
    let first : Bool := s.evacGrantable && (s.promoted || decide (a.settings.patience ≤ a.skips))
    let start := fun r : Run => grantStep s = some { s with
      arbiter := { a with skips := if a.evacuate then Nat.min 64 (a.skips + 1) else a.skips }
      recycler := { s.recycler with run := r } }
    let record := fun (k : RunKind) (x : Requester) (l d : Option Nat) (limit : Nat) => ({ Run.idle with
      state := .running, kind := k, requester := x, lot := l, denom := d, limit := limit } : Run)
    let toDeposit := fun e : DepositEntry => match e with
      | .head h => start { record .deposit (.head h) (a.heads.get [] h).head? none n with
          cause := if s.headLoaded h then none else some .sourceEmpty }
      | .trayReturn => start (record .trayReturn (.slot (a.trayReturn.getD 0)) none none n)
    let toDispense := fun q : DispenseReq =>
      start (record .dispense (.slot q.slot) none (some q.denom) (Nat.min n q.remaining))
    let toEvacuation := grantStep s = some { s with
      arbiter := { a with skips := 0 }
      recycler := { s.recycler with run := record .evacuate .evacuation none none n } }
    (∀ q, s.windowIsOpen = true → s.dispenseGrantable = true → a.dispense = some q → toDispense q) ∧
    (s.windowIsOpen = false ∨ s.dispenseGrantable = false →
      (first = true → toEvacuation) ∧
      (first = false → ∀ e es, a.order = e :: es →
        (s.dispenseGrantable = false → toDeposit e) ∧
        (∀ q, s.dispenseGrantable = true → a.dispense = some q →
          (a.account ≤ a.settings.limit → toDeposit e) ∧ (a.settings.limit < a.account → toDispense q))) ∧
      (first = false → a.order = [] →
        (∀ q, s.dispenseGrantable = true → a.dispense = some q → toDispense q) ∧
        (s.dispenseGrantable = false → (s.evacGrantable = true → toEvacuation) ∧
          (s.evacGrantable = false → grantStep s = none))))) ∧
  (∀ (s : State) (h n : Nat), n ∉ s.arbiter.heads.get [] h → .head h ∉ s.arbiter.order →
    (giveHead h n s).arbiter.order = s.arbiter.order ++ [.head h]) ∧
  (∀ (s : State) (r : Run) (h : Nat), r.kind = .deposit → r.requester = .head h →
    .head h ∈ (reportEnd r s).arbiter.order → (reportEnd r s).arbiter.order.getLast? = some (.head h)) ∧
  (∀ (s : State) (r : Run) (k : Nat), r.kind = .trayReturn → s.arbiter.trayReturn = some k → (s.build k).isSome = true →
    .trayReturn ∈ (reportEnd r s).arbiter.order → (reportEnd r s).arbiter.order.getLast? = some .trayReturn) ∧
  (∀ s : State,
    let a := s.arbiter
    preemptStep s = (if s.recycler.run.state = .running ∧ s.recycler.run.interrupted = false ∧
        s.recycler.run.kind = .deposit ∧ s.recycler.run.cause = none ∧ s.dispenseGrantable = true ∧
        (a.settings.preemption ≠ .never ∧ s.windowIsOpen = true ∨
          a.settings.preemption = .always ∧ a.settings.limit < a.account)
      then some { s with recycler := { s.recycler with run := { s.recycler.run with cause := some .cut } } }
      else none)) ∧
  (∀ s : State,
    let r := s.recycler.run
    let running := r.state = .running ∧ r.interrupted = false
    let ends := fun c : EndCause =>
      causeStep s = some { s with recycler := { s.recycler with run := { r with cause := some c } } }
    let filled := fun (k : Nat) (b : Build) (d : Nat) => r.requester = .slot k ∧ s.build k = some b ∧ r.denom = some d ∧
      Counts.of b.remaining d = 0
    let drained := fun a : Nat => s.evac.source = some a ∧ (s.posRec (cassettePos a)).counts.isZero = true
    (running → r.cause = none →
      (∀ k b d, r.kind = .dispense → filled k b d → ends .done) ∧
      (r.kind = .trayReturn → (∀ d < 12, s.held trayPos d ≤ Counts.of r.escrowed d) → ends .done) ∧
      (∀ a, r.kind = .evacuate → drained a → ends .done) ∧
      (r.limit ≤ r.moved → (∀ k b d, r.kind = .dispense → ¬filled k b d) →
        (r.kind = .trayReturn → ∃ d < 12, Counts.of r.escrowed d < s.held trayPos d) →
        (∀ a, r.kind = .evacuate → ¬drained a) → ends .limit)) ∧
    (running ∧ r.cause ≠ none ∧ r.path = [] → closeStep s = some (closeRun none s)) ∧
    (¬(running ∧ r.cause ≠ none ∧ r.path = []) → closeStep s = none)) ∧
  (∀ (s : State) (bin : Option Nat),
    let r := s.recycler.run
    let t := closeRun bin s
    let numbers := moveNumbers s.book.moveCounter r.pairs.length
    let last := numbers.getLastD s.book.moveCounter
    let posted := (r.pairs.map (runEndMove r.kind)).foldl (fun u m => numberAndPost m u) s
    t.recycler.run = Run.idle ∧ (∀ p < 177, (t.posRec p).inRun = false) ∧
    (bin = none → (∀ d < 12, Counts.of r.escrowed d = 0) →
      t.book.moveCounter = last ∧ (∀ p < 177, ∀ d < 12, t.held p d = s.held p d) ∧
      ((∀ e ∈ r.pairs, ∀ p ∈ [e.src, e.dst], (s.posRec p).mode = .through ∧ (s.posRec p).overdue = false) →
        s.book.queue.length + 2 * r.pairs.length ≤ 128 →
        s.book.queue.map Entry.body ++ (r.pairs.zip numbers).flatMap (fun q =>
          [q.1.src, q.1.dst].map fun p => EntryBody.move p q.2
            (if isPurgePos q.1.dst then .purge else match r.kind with
              | .deposit => .deposit
              | .dispense => .dispense
              | .trayReturn => .trayReturn
              | .evacuate => .evacuate)
            (.pos q.1.src) (.pos q.1.dst) [] ((pairsOf q.1.counts).map fun x => (x, s.held p x.denom)))
          <+: t.book.queue.map Entry.body)) ∧
    (∀ (k : MoveKind) (p : Nat), bin = none →
      ((k = .escrowReturn ∧ r.kind = .deposit ∧ ∃ n, r.lot = some n ∧ p = lotPos n) ∨
        (k = .trayReturn ∧ r.kind = .trayReturn ∧ p = trayPos)) →
      checkMovement ⟨k, .pos p, .pos reservePos, pairsOf r.escrowed, [], none⟩ true posted = none →
      t.book.moveCounter = nextNumber 4294967295 last ∧
      ∀ d < 12, t.held p d = s.held p d - Counts.of r.escrowed d ∧
        t.held reservePos d = s.held reservePos d + Counts.of r.escrowed d ∧
        ∀ x < 177, x ≠ p → x ≠ reservePos → t.held x d = s.held x d))

/-- What the host configures changes by its own requests only, and at a start with a lost store: the denomination table,
the float templates, the roster, the coin limit, the line settings, the arbiter's settings, the evacuation's enables and
fault policy, the door-open limit and the safe relock time. -/
def Obligations.SettingsChangeOnlyByTheirRequests : Prop :=
  ∀ (c : Instr) (s t : State), exec c s = .next t → c ≠ .powerOn false →
    ((∀ g b, c ≠ .setDenomination g b) → (∀ g b, c ≠ .clearDenomination g b) →
      t.book.denoms = s.book.denoms ∧ ((∀ g b, c ≠ .setTemplate g b) → t.desk.templates = s.desk.templates)) ∧
    ((∀ g b, c ≠ .setRosterEntry g b) → (∀ g b, c ≠ .opening g b) → t.office.roster = s.office.roster) ∧
    ((∀ g b, c ≠ .setCoinLimit g b) → t.count.coinLimit = s.count.coinLimit) ∧
    ((∀ g b, c ≠ .setLine g b) → t.count.settings = s.count.settings) ∧
    ((∀ g b, c ≠ .setArbiter g b) → t.arbiter.settings = s.arbiter.settings) ∧
    ((∀ g b, c ≠ .setEvacuation g b) → t.evac.enables = s.evac.enables) ∧
    ((∀ g b, c ≠ .setFaultPolicy g b) → t.evac.threshold = s.evac.threshold ∧ t.evac.leakNotes = s.evac.leakNotes) ∧
    ((∀ g b, c ≠ .setDoorLimit g b) → t.bay.doorLimit = s.bay.doorLimit) ∧
    ((∀ g b, c ≠ .setSafeRelock g b) → t.office.relockTime = s.office.relockTime)

/-! ### The book: movements and postings (Sections 1 and 2) -/

/-- A movement that passes every check changes the counts of its two sides by its pairs and nothing of any other
position's counts; it takes the next number, which becomes the last movement number of the positions it touches; the
custody totals rise by its pairs from a counterpart, fall by them to one, and stay between two positions (R9, R14, R26, R28).
Of the other blocks and of the link it changes only what the availability cut and its notices change (R20, R21, R60, R146): the
builds, the dispense request and its withdrawn mark, the cause of the run in progress, the notice queue with its number, and
NOTICE_LOST. Where no denomination is due a cut, the desk, the recycler and the arbiter stay as they are, and so do the
reservations, but for the entry that an ISSUE from RESERVE lowers by its pairs (R18). -/
def Obligations.MovementMovesItsCounts : Prop :=
  ∀ (m : Movement) (ofRun : Bool) (s : State), s.bookLaw → checkMovement m ofRun s = none →
    (∀ p < 177, ∀ d < 12, ((applyMovement m s).held p d : Int) = s.held p d
      - (if m.src = .pos p then (Counts.of (pairCounts m.pairs) d : Int) else 0)
      + (if m.dst = .pos p then (Counts.of (pairCounts m.pairs) d : Int) else 0)) ∧
    (∀ d < 12, (Counts.of (applyMovement m s).book.totals d : Int) = Counts.of s.book.totals d
      + (if m.src.position = none then (Counts.of (pairCounts m.pairs) d : Int) else 0)
      - (if m.dst.position = none then (Counts.of (pairCounts m.pairs) d : Int) else 0)) ∧
    (applyMovement m s).book.moveCounter = nextNumber 4294967295 s.book.moveCounter ∧
    (∀ p < 177, ((applyMovement m s).posRec p).lastMove =
      if m.src = .pos p ∨ m.dst = .pos p then nextNumber 4294967295 s.book.moveCounter else (s.posRec p).lastMove) ∧
    (∀ p < 177, m.src ≠ .pos p → m.dst ≠ .pos p → (applyMovement m s).posRec p = s.posRec p) ∧
    (applyMovement m s).book.denoms = s.book.denoms ∧ (applyMovement m s).book.opening = s.book.opening ∧
    (∃ (b : Book) (builds : Tab 4 (Option Build)) (req : Option DispenseReq) (withdrawn : Bool) (cause : Option EndCause)
        (notices : List Notice) (number : Nat) (lost : Bool), applyMovement m s = { s with
      book := b
      desk := { s.desk with builds := builds }
      arbiter := { s.arbiter with dispense := req, dispenseWithdrawn := withdrawn }
      recycler := { s.recycler with run := { s.recycler.run with cause := cause } }
      link := { s.link with notices := notices, noticeNumber := number, noticeLost := lost } }) ∧
    ((∀ d < 12, (moveCounts m s).excess d = 0) →
      (applyMovement m s).desk = s.desk ∧ (applyMovement m s).recycler = s.recycler ∧
      (applyMovement m s).arbiter = s.arbiter ∧
      (applyMovement m s).book.reservations = s.book.reservations.map fun e =>
        if m.kind = .issue ∧ m.src = .pos reservePos ∧ m.slot = some e.slot
        then { e with counts := Counts.sub e.counts (pairCounts m.pairs) } else e)

/-- Posting. A movement posted to a HELD position sets the unposted marks of the moved denominations there and queues nothing
(R32): marks already set stay set, and the position is UNPOSTED. The same after the whole movement is applied, which queues
nothing where every position it touches is HELD. Posted to a THROUGH position that is not overdue it queues one MOVE entry with
the position's resulting counts; where the queue is full, and where the position is overdue already, it sets the marks there,
with the overdue mark, and queues nothing (R31, R37). A movement between two such positions queues the source's entry and then
the destination's. Catch-up takes overdue positions in ascending order, then CLOSING tills (R40): it queues only at the tail,
the first entry being a settle with reason CATCH_UP of the lowest overdue position outside a run; it leaves an overdue mark
outside a run, or a CLOSING till, only with the queue full; and a position it clears has no mark left. -/
def Obligations.HeldPositionIsMarkedNotQueued : Prop :=
  (∀ (p n : Nat) (m : Movement) (s : State), p < 177 → (s.posRec p).mode = .held →
    (postSide (.pos p) m n s).book.queue = s.book.queue ∧
    (∀ d < 12, Marks.has ((postSide (.pos p) m n s).posRec p).marks d = true ↔
      (Marks.has (s.posRec p).marks d = true ∨ d ∈ m.pairs.map Pair.denom)) ∧
    (∀ q ∈ m.pairs, q.denom < 12 → ((postSide (.pos p) m n s).posRec p).unposted = true) ∧
    (m.src = .pos p ∨ m.dst = .pos p →
      (∀ d < 12, Marks.has ((applyMovement m s).posRec p).marks d = true ↔
        (Marks.has (s.posRec p).marks d = true ∨ d ∈ m.pairs.map Pair.denom)) ∧
      (∀ q ∈ m.pairs, q.denom < 12 → ((applyMovement m s).posRec p).unposted = true) ∧
      ((∀ q, m.src = .pos q ∨ m.dst = .pos q → (s.posRec q).mode = .held) →
        (applyMovement m s).book.queue = s.book.queue))) ∧
  (∀ (p n : Nat) (m : Movement) (s : State), p < 177 → (s.posRec p).mode = .through →
    let entry := EntryBody.move p n m.kind m.src m.dst m.ops (m.pairs.map fun q => (q, s.held p q.denom))
    ((s.posRec p).overdue = false → s.book.queue.length < 128 → postSide (.pos p) m n s = queueEntry entry s) ∧
    ((s.posRec p).overdue = true ∨ 128 ≤ s.book.queue.length →
      (postSide (.pos p) m n s).book.queue = s.book.queue ∧ ((postSide (.pos p) m n s).posRec p).overdue = true ∧
      (∀ d < 12, Marks.has ((postSide (.pos p) m n s).posRec p).marks d = true ↔
        (Marks.has (s.posRec p).marks d = true ∨ d ∈ m.pairs.map Pair.denom)))) ∧
  (∀ (p q : Nat) (m : Movement) (s : State), p < 177 → q < 177 → p ≠ q → m.src = .pos p → m.dst = .pos q →
    (∀ x, x = p ∨ x = q → (s.posRec x).mode = .through ∧ (s.posRec x).overdue = false) → s.book.queue.length + 2 ≤ 128 →
    let t := applyMovement m s
    let entry := fun x => EntryBody.move x t.book.moveCounter m.kind m.src m.dst m.ops
      (m.pairs.map fun y => (y, t.held x y.denom))
    t.book.queue.map Entry.body = s.book.queue.map Entry.body ++ [entry p, entry q]) ∧
  (∀ s : State,
    let t := catchUp s
    s.book.queue <+: t.book.queue ∧
    (128 ≤ t.book.queue.length ∨ (∀ p < 177, (t.posRec p).overdue = true → (t.posRec p).inRun = true) ∧
      ∀ n < 256, (t.till n).state ≠ .closing) ∧
    (∀ p < 177, (s.posRec p).overdue = true → (t.posRec p).overdue = false → (t.posRec p).unposted = false) ∧
    (∀ p < 177, (s.posRec p).overdue = true → (s.posRec p).inRun = false → (s.posRec p).unposted = true →
      (∀ q < p, (s.posRec q).overdue = true → (s.posRec q).inRun = true) → s.book.queue.length < 128 →
      (t.book.queue[s.book.queue.length]?).map Entry.body =
        some (match Marks.list' (s.posRec p).marks with
          | [d] => .settleOne p .catchUp (s.posRec p).lastMove d (s.held p d)
          | _ => .settleFull p .catchUp (s.posRec p).lastMove (s.posRec p).counts)))

/-- SET DENOMINATION and CLEAR DENOMINATION in HOLD (R3, R4): a record that is EMPTY or not in use takes the fields given,
a ROLL's face value being its size times its coin's; a record that becomes a COIN loses its template entries, and one that
becomes no NOTE its routing ranges; a request that repeats the record changes nothing; a cleared record is EMPTY and loses
both. -/
def Obligations.DenominationRequestsSetTheTable : Prop :=
  ∀ (tag i : Nat) (s : State), s.ready → s.office.mode = .hold → i ≤ 11 →
    (∀ f, 1 ≤ f → f ≤ 1000000 → s.denom i = .note f →
      exec (.setDenomination tag (.good ⟨i, .note f⟩)) s = .next (respond 16 tag (okReply []) (heard s))) ∧
    ((s.isDefined i → s.denomInUse i = false ∧ (s.isCoin i → s.coinNamed i = false)) →
      (∀ f, 1 ≤ f → f ≤ 1000000 → s.denom i ≠ .note f →
        exec (.setDenomination tag (.good ⟨i, .note f⟩)) s =
          .next (respond 16 tag (okReply []) ((heard s).setDenom i (.note f)))) ∧
      (∀ f, 1 ≤ f → f ≤ 1000000 → s.denom i ≠ .coin f →
        exec (.setDenomination tag (.good ⟨i, .coin f⟩)) s =
          .next (respond 16 tag (okReply []) ((dropTemplateEntries i ((heard s).setDenom i (.coin f))).setRanges i []))) ∧
      (∀ c n f, s.denom c = .coin f → c ≠ i → c ≤ 11 → 2 ≤ n → n ≤ 100 → n * f ≤ 1000000 →
        s.denom i ≠ .roll c n (n * f) →
        exec (.setDenomination tag (.good ⟨i, .roll c n⟩)) s =
          .next (respond 16 tag (okReply []) (((heard s).setDenom i (.roll c n (n * f))).setRanges i []))) ∧
      exec (.clearDenomination tag (.good i)) s = .next (respond 17 tag (okReply [])
        (if s.isDefined i then (dropTemplateEntries i ((heard s).setDenom i .empty)).setRanges i [] else heard s)))

/-- The queries are answered OK in every office mode and change nothing (R23, R36, R47, R69, R121, R145, R157, R170,
R191). -/
def Obligations.QueriesChangeNothing : Prop :=
  ∀ (tag : Nat) (s : State) (c : Instr) (code : Nat), s.ready → requestCode c = some code →
    (c = .queryStock tag (.good ()) ∨ c = .queryBuilds tag (.good ()) ∨ c = .queryJobs tag (.good ()) ∨
      c = .queryRecycler tag (.good ()) ∨ c = .queryArbiter tag (.good ()) ∨ c = .queryEvacuation tag (.good ()) ∨
      c = .queryBay tag (.good ()) ∨ (∃ p ≤ 176, c = .queryPosition tag (.good ⟨p, some .peek⟩)) ∨
      (∃ t ≤ 255, c = .queryTill tag (.good t)) ∨ (∃ n ≤ 63, c = .queryLot tag (.good n)) ∨
      (∃ n ≤ 95, c = .queryContainer tag (.good n)) ∨ (∃ k ≤ 7, c = .queryConsignment tag (.good k))) →
    ∃ r : Reply, r.status = .ok ∧ exec c s = .next (respond code tag r (heard s))

/-- POST POSITION, QUERY POSITION with SETTLE and SET POSTING MODE settle a position (R33 to R36): an UNPOSTED position
outside a run gets one entry for one mark and one of all counts for more (none for the query), its marks and overdue mark
clear, and its pending release completes; a CLEAN one is answered and left. POST POSITION refuses a number above 176, a FREE
slot and a position in a run, and answers QUEUE_FULL where the posting queue has no room (R35). -/
def Obligations.SettlingRequestsClearMarks : Prop :=
  (∀ (tag p : Nat) (s : State), s.ready →
    (176 < p → exec (.postPosition tag (.good p)) s = .next (respond 20 tag (refusal .badField) (heard s))) ∧
    (p ≤ 176 → (s.posRec p).inUse = false ∨ (s.posRec p).inRun = true →
      exec (.postPosition tag (.good p)) s = .next (respond 20 tag (refusal .wrongState) (heard s))) ∧
    (p ≤ 176 → (s.posRec p).inUse = true → (s.posRec p).inRun = false → (s.posRec p).unposted = true →
      128 ≤ s.book.queue.length →
      exec (.postPosition tag (.good p)) s = .next (respond 20 tag (refusal .queueFull) (heard s)))) ∧
  ∀ (tag p : Nat) (s : State), s.ready → p ≤ 176 → (s.posRec p).inUse = true →
    let clear := fun u : State =>
      let v := u.setPosRec p { u.posRec p with marks := Marks.clear, overdue := false }
      if (u.posRec p).releasePending then completeRelease p v else v
    let entry := fun reason : SettleReason =>
      match Marks.list' (s.posRec p).marks with
      | [d] => EntryBody.settleOne p reason (s.posRec p).lastMove d (s.held p d)
      | _ => EntryBody.settleFull p reason (s.posRec p).lastMove (s.posRec p).counts
    ((s.posRec p).unposted = false → (s.posRec p).inRun = false →
      exec (.postPosition tag (.good p)) s = .next (respond 20 tag (okReply [u1 0]) (heard s))) ∧
    ((s.posRec p).unposted = true → (s.posRec p).inRun = false → s.book.queue.length < 128 →
      exec (.postPosition tag (.good p)) s =
        .next (respond 20 tag (okReply [u1 1]) (clear (queueEntry (entry .post) (heard s))))) ∧
    ((s.posRec p).unposted = true → (s.posRec p).inRun = false →
      exec (.queryPosition tag (.good ⟨p, some .settle⟩)) s =
        .next (respond 19 tag (okReply (positionFields (s.posRec p))) (clear (heard s)))) ∧
    ((s.posRec p).releasePending = false →
      exec (.setPostingMode tag (.good ⟨p, some (s.posRec p).mode⟩)) s =
        .next (respond 21 tag (okReply []) (heard s)) ∧
      ((s.posRec p).mode = .through → exec (.setPostingMode tag (.good ⟨p, some .held⟩)) s =
        .next (respond 21 tag (okReply []) ((heard s).setPosRec p { s.posRec p with mode := .held }))) ∧
      ((s.posRec p).mode = .held → (s.posRec p).unposted = false →
        exec (.setPostingMode tag (.good ⟨p, some .through⟩)) s =
          .next (respond 21 tag (okReply []) ((heard s).setPosRec p { s.posRec p with mode := .through }))) ∧
      ((s.posRec p).mode = .held → (s.posRec p).unposted = true → (s.posRec p).inRun = false →
        s.book.queue.length < 128 →
        exec (.setPostingMode tag (.good ⟨p, some .through⟩)) s =
          .next (respond 21 tag (okReply []) ((queueEntry (entry .modeChange) (heard s)).setPosRec p
            { s.posRec p with marks := Marks.clear, overdue := false, mode := .through }))))

/-- An entry joins the tail of a posting queue with room under the next sequence number and the clock; the queue's passing
from 96 to 97 entries sends POSTINGS_WAITING where it is armed and disarms it (R37, R41). -/
def Obligations.QueuedEntryTakesNextSequenceNumber : Prop :=
  ∀ (b : EntryBody) (s : State), s.book.queue.length < 128 →
    let q := s.book.queue ++ [⟨nextNumber 4294967295 s.book.lastSeq, s.clock, b⟩]
    let u := { s with book := { s.book with queue := q, lastSeq := nextNumber 4294967295 s.book.lastSeq } }
    (s.book.queue.length ≠ 96 ∨ s.book.armed = false → queueEntry b s = u) ∧
    (s.book.queue.length = 96 → s.book.armed = true →
      queueEntry b s = notify (.postingsWaiting 97) { u with book := { u.book with armed := false } })

/-- FETCH POSTINGS answers the oldest entries, at most the number asked and at most 480 bytes, with how many are left, and
takes them out of the queue when its reply has been sent; catch-up then follows (R39, R40). The waiting notice is armed
again when the depth falls below 64 from 64 or above (R41). A number of 0 or above 16 is refused. That the entries are chosen
when the request is taken, and that this many leave from the queue's front at FRAME SENT, is read from the spec by inference
(DEDUCED, log entry 38); the last frame sent is the model's own field (log entry 6). -/
def Obligations.FetchedEntriesLeaveWhenSent : Prop :=
  (∀ (tag n : Nat) (s : State), s.ready → n = 0 ∨ 16 < n →
    exec (.fetchPostings tag (.good n)) s = .next (respond 22 tag (refusal .badField) (heard s))) ∧
  (∀ (tag n : Nat) (s : State), s.ready → 1 ≤ n → n ≤ 16 →
    ∃ k, k ≤ n ∧ k ≤ s.book.queue.length ∧
      ((s.book.queue.take k).map Entry.length).foldr (· + ·) 0 ≤ 480 ∧
      (k = n ∨ k = s.book.queue.length ∨ 480 < ((s.book.queue.take (k + 1)).map Entry.length).foldr (· + ·) 0) ∧
      exec (.fetchPostings tag (.good n)) s =
        .next (markFetched k (respond 22 tag (okReply ([u1 k, u1 (s.book.queue.length - k)]
          ++ ((s.book.queue.take k).map entryFields).flatten)) (heard s)))) ∧
  (∀ (s : State) (c g k : Nat) (r : Reply) (h : InHand), s.powered = true → s.link.onLine = some (.reply c g r) →
    s.link.inHand = some h → h.fetched = some k → s.link.stopping = false → (c ≠ 113 ∨ r.status ≠ .ok) →
    exec .frameSent s = .next (transmit (catchUp { s with
      book := { s.book with
        queue := s.book.queue.drop k
        armed := s.book.armed || (64 ≤ s.book.queue.length && s.book.queue.length - k < 64) }
      link := { s.link with inHand := none, onLine := none, lastSent := [.reply c g r] } })))

/-- ADJUST POSITION under a SUPERVISOR's dual control and OPENING apply one movement that passes the book's checks, and
answer its number (R43, R44); an ADJUST with no pair resolves a MISMATCH that R129 lets it resolve. An OPENING into an
empty roster writes its two operators into entries 0 and 1 (R196). That the number in the ADJUST reply has no presence byte
is the model's choice (log entry 80, DESIGN CHOICE). -/
def Obligations.AdjustAndOpeningApplyOneMovement : Prop :=
  ∀ (tag p a b : Nat) (qs : List Pair) (s : State), s.ready →
    (∀ dir : Direction, s.dualControl .supervisor a b = none → s.adjustBarred p = false →
      (qs ≠ [] ∨ s.resolves p = false) → checkMovement (adjustMove p dir qs a b) false s = none →
      exec (.adjustPosition tag (.good ⟨p, some dir, qs, a, b⟩)) s =
        .next (respond 23 tag (okReply [u4 (nextNumber 4294967295 s.book.moveCounter)])
          (settle (evacExamine (resolveMismatch p (applyMovement (adjustMove p dir qs a b) (heard s))))))) ∧
    (∀ (dir : Direction) (c t : Nat), p = cassettePos c → c < 12 → s.dualControl .supervisor a b = none →
      (s.cassette c).present = true → (s.cassette c).mismatch = true → (s.cassette c).role ≠ .unassigned →
      (s.cassette c).sensed = .tag t →
      exec (.adjustPosition tag (.good ⟨p, some dir, [], a, b⟩)) s =
        .next (respond 23 tag (okReply [])
          (settle ((heard s).setCassette c { s.cassette c with mismatch := false, tag := some t })))) ∧
    (∀ m : Movement, m = ⟨.opening, .external .opening, .pos p, qs, [a, b], none⟩ →
      checkMovement m false s = none →
      (s.rosterEmpty = false → s.dualControl .supervisorAndCustodian a b = none →
        exec (.opening tag (.good ⟨p, qs, a, b⟩)) s =
          .next (respond 24 tag (okReply [u4 (nextNumber 4294967295 s.book.moveCounter)])
            (settle (applyMovement m (heard s))))) ∧
      (s.rosterEmpty = true → a ≠ b → 1 ≤ a → a ≤ 999999 → 1 ≤ b → b ≤ 999999 →
        exec (.opening tag (.good ⟨p, qs, a, b⟩)) s =
          .next (respond 24 tag (okReply [u4 (nextNumber 4294967295 s.book.moveCounter)])
            (settle (applyMovement m (((heard s).setRoster 0 (some ⟨a, ⟨false, true, true⟩, true⟩)).setRoster 1
              (some ⟨b, ⟨false, true, true⟩, true⟩)))))))

/-! ### The till desk (Section 3) -/

/-- SET TEMPLATE in HOLD with every field in range and every entry a NOTE or ROLL: the class's template takes the fields,
T_review no lower than T_ok (R49). -/
def Obligations.SetTemplateStoresTheFields : Prop :=
  ∀ (tag : Nat) (q : SetTemplateReq) (s : State), s.ready → s.office.mode = .hold → templateInRange q = true →
    (∀ e ∈ q.entries, s.isNote e.denom = true ∨ s.isRoll e.denom = true) →
    exec (.setTemplate tag (.good q)) s = .next (respond 32 tag (okReply []) { heard s with
      desk := { s.desk with
        templates := s.desk.templates.set q.cls
          (some ⟨q.target, q.short, q.pickupLimit, q.tolOk, Nat.max q.tolOk q.tolReview, q.entries⟩) } })

/-- An accepted make-up holds every entry between its minimum and its maximum and within its availability, its total is the
value of its counts, and it is below the target by no more than the tolerance and never above it (R54, R55). -/
def Obligations.AcceptedMakeUpKeepsItsBounds : Prop :=
  ∀ (v tol : Nat) (lines : List MakeLine) (plan : Counts) (total short : Nat),
    (∀ l ∈ lines, l.min ≤ l.max ∧ l.denom < 12) → (lines.map MakeLine.denom).Nodup →
    makeUp v tol lines = .accepted plan total short →
    (∀ l ∈ lines, l.min ≤ Counts.of plan l.denom ∧ Counts.of plan l.denom ≤ l.max ∧
      Counts.of plan l.denom ≤ l.avail) ∧
    total = (lines.map fun l => Counts.of plan l.denom * l.face).foldr (· + ·) 0 ∧
    total + short = v ∧ short ≤ tol

/-- BUILD FLOAT in TRADING for a CLOSED till with a free build slot and a template whose make-up is accepted: the plan is
reserved in a new entry at the list's end, the lowest free slot holds a PLANNED build with the plan, the till is BUILDING in
the class, and a plan short within tolerance sends BUILD_SHORT (R17, R50, R55, R56). That the plan goes in the reply as 12
counts is the model's choice (log entry 88, DESIGN CHOICE). -/
def Obligations.BuildFloatPlansAndReserves : Prop :=
  ∀ (tag n c k : Nat) (t : Template) (plan : Counts) (total short : Nat) (s : State), s.ready →
    s.office.mode = .trading → n ≤ 255 → c ≤ 7 → (s.till n).state = .closed → s.template c = some t →
    freeSlot s = some k → s.resEntry k = none → s.makeUpFor t = .accepted plan total short →
    s.overReserved k plan = none →
    let u := (({ heard s with
        book := { s.book with reservations := s.book.reservations ++ [⟨k, n, plan, Marks.clear⟩] } } : State).setBuild k
      (some ⟨.planned, n, s.nextAge, t.target, t.short, t.entries, plan, Counts.zero, s.notesOf plan, total, none,
        Marks.clear, none, none, none⟩)).setTill n { s.till n with state := .building, cls := c }
    exec (.buildFloat tag (.good ⟨n, c⟩)) s =
      .next (respond 33 tag (acceptedReply ([u1 k, u1 (if short = 0 then 1 else 2)] ++ countFields plan ++ [u5 total]))
        (settle (if short = 0 then u else notify (.buildShort k n .withinTolerance none total 0 short) u)))

/-- FLOAT HANDED and ACCEPT SHORT issue the float of a build in AWAITING_HANDOVER or SHORT (R63, R64): the ISSUE movements
of the tray's notes and of the rolls pass as one group; the entry is released, the slot FREE, and the till TRADING with the
issued counts, their value as F, every figure of the session at zero and the next session number. ACCEPT SHORT issues the
rolls the build's entry still holds. -/
def Obligations.HandoverOpensTheSession : Prop :=
  ∀ (tag n op k : Nat) (b : Build) (s s1 : State) (rolls : Counts), s.ready → n ≤ 255 → (s.till n).state = .building →
    s.buildOf n = some k → s.build k = some b → s.oneOperator op = true →
    applyGroup 1 (issueGroup k n op b.dispensed rolls) (heard s) = .ok s1 →
    let c := Counts.add b.dispensed rolls
    let u := ({ s1 with
        book := { s1.book with reservations := s1.book.reservations.filter fun e => e.slot ≠ k } } : State).setTill n { s1.till n with
      state := .trading, issued := c, floatValue := s1.valueOf c, sales := 0, pickups := 0, returned := none,
      variance := none, band := none, accepted := false, advised := false,
      session := nextNumber 65535 (s1.till n).session }
    (b.state = .awaitingHandover → rolls = s.rollsOf b.plan →
      exec (.floatHanded tag (.good ⟨n, op⟩)) s =
        .next (respond 34 tag (okReply ([u5 (s1.valueOf c), u2 (nextNumber 65535 (s1.till n).session)]
            ++ listField (s.numbersOf (issueGroup k n op b.dispensed rolls).length) fun x => [u4 x]))
          (settle (u.setBuild k none)))) ∧
    (b.state = .short → rolls = s.shortRolls k b →
      exec (.acceptShort tag (.good ⟨n, op⟩)) s =
        .next (respond 35 tag (okReply [u5 (s1.valueOf c)]) (settle (u.setBuild k none))))

/-- REBUILD of a SHORT build whose make-up for what is missing is accepted: its entry takes the new counts in its place
with an empty cut set, and the build is PLANNED again with the dispensed and the new counts (R19, R65).
CANCEL BUILD of a PLANNED, SHORT or AWAITING_HANDOVER build: its entry is released; with no note dispensed the slot is
FREE and the till CLOSED, and otherwise the build is CANCELLING and its tray return request is given (R66).
Builds move of themselves. The oldest tray build takes a tray without an owner, and an owner whose slot is FREE or that is no
tray build loses it (R51). A PLANNED build that is no tray build, or the owner with no NOTE left to dispense, is SHORT for the
first cut roll of its make-up order, and otherwise AWAITING_HANDOVER with BUILD_READY (R57, R59); the owner goes on to the first
NOTE left, DISPENSING with its request given, or SHORT where that is cut (R57, R58, R60). A DISPENSING build waits while its
current denomination has a remaining count, and while its run is in progress (log entry 63); one due to be SHORT is so then
(R60, R61). SHORT withdraws the request where it is the build's, and sends BUILD_SHORT (R62, log entry 48). A cut makes a
PLANNED or AWAITING_HANDOVER build SHORT at once; a DISPENSING one is due by a cut or an unservable report of its current
denomination, whichever came first (R60, R61; log entry 64). That REBUILD's reply has 12 counts is the model's choice
(log entry 88). -/
def Obligations.ShortBuildsAreRebuiltOrCancelled : Prop :=
  (∀ (tag n k : Nat) (b : Build) (e : ResEntry) (new : Counts) (total short : Nat) (s : State), s.ready → n ≤ 255 →
    (s.till n).state = .building → s.buildOf n = some k → s.build k = some b → b.state = .short →
    s.makeUpAgain k b = .accepted new total short → s.overReserved k new = none → s.resEntry k = some e →
    let planned := s.valueOf b.dispensed + total
    let u := ({ heard s with
      book := { s.book with
        reservations := s.book.reservations.map fun (e : ResEntry) =>
          if e.slot = k then { e with counts := new, cut := Marks.clear } else e } } : State).setBuild k (some { b with
      state := .planned, plan := Counts.add b.dispensed new, remaining := s.notesOf new, planned := planned,
      cut := Marks.clear, shortCause := none, shortDenom := none, shortDue := none, current := none })
    exec (.rebuild tag (.good n)) s =
      .next (respond 36 tag (acceptedReply (u1 (if short = 0 then 1 else 2) :: countFields new))
        (settle (if short = 0 then u
          else notify (.buildShort k n .withinTolerance none planned (s.valueOf b.dispensed) short) u)))) ∧
  (∀ (tag n k : Nat) (b : Build) (s : State), s.ready → n ≤ 255 → (s.till n).state = .building →
    s.buildOf n = some k → s.build k = some b →
    (b.state = .planned ∨ b.state = .short ∨ b.state = .awaitingHandover) →
    let u : State := { heard s with
      book := { s.book with reservations := s.book.reservations.filter fun e => e.slot ≠ k } }
    (b.dispensed.isZero = true → exec (.cancelBuild tag (.good n)) s =
      .next (respond 37 tag (okReply []) (settle ((u.setBuild k none).setTill n { s.till n with state := .closed })))) ∧
    (b.dispensed.isZero = false → exec (.cancelBuild tag (.good n)) s =
      .next (respond 37 tag (acceptedReply []) (settle (giveTrayReturn k
        (u.setBuild k (some { b with state := .cancelling, shortCause := none, shortDenom := none }))))))) ∧
  (∀ s : State,
    let owned := fun o : Option Nat => some { s with desk := { s.desk with trayOwner := o } }
    let tray := fun (k : Nat) (b : Build) => k < 4 ∧ s.build k = some b ∧ s.isTrayBuild b = true
    (∀ k, s.desk.trayOwner = some k → trayTaken s = none ∧
      ((∃ b, s.build k = some b ∧ s.isTrayBuild b = true) → trayFreed s = none) ∧
      (¬(∃ b, s.build k = some b ∧ s.isTrayBuild b = true) → trayFreed s = owned none)) ∧
    (s.desk.trayOwner = none → trayFreed s = none ∧ ((∀ k b, ¬tray k b) → trayTaken s = none) ∧
      ∀ k b, tray k b → (∀ j c, tray j c → j ≠ k → b.age < c.age) → trayTaken s = owned (some k))) ∧
  (∀ (s : State) (k : Nat) (b : Build), s.build k = some b →
    let order := s.orderOf b.entries
    let value := s.valueOf b.dispensed
    let run := s.recycler.run
    let short := fun (c : ShortCause) (d : Nat) (u : State) =>
      let v := u.setBuild k (some { b with
        state := .short, cut := (u.build k).elim b.cut Build.cut, current := none, shortCause := some c,
        shortDenom := some d, shortDue := none })
      notify (.buildShort k b.till c (some d) b.planned value (b.planned - (value + s.reservedRolls k)))
        (if s.arbiter.dispense.map DispenseReq.slot = some k then
          (if run.state = .running ∧ run.interrupted = false ∧ run.kind = .dispense then { v with
            arbiter := { s.arbiter with dispenseWithdrawn := true }
            recycler := { s.recycler with run := { run with cause := run.cause.or (some .cut) } } }
          else { v with arbiter := { s.arbiter with dispense := none, dispenseWithdrawn := false } })
        else v)
    let move := fun o : Option State => buildStep k s = o
    let cutRoll := order.find? fun d => s.isRoll d && Marks.has b.cut d
    let left := order.find? fun d => Counts.of b.remaining d ≠ 0
    let finish := (∀ d, cutRoll = some d → move (some (short .cut d s))) ∧
      (cutRoll = none → move (some (notify (.buildReady k b.till b.planned value)
        (s.setBuild k (some { b with state := .awaitingHandover, current := none, shortDue := none })))))
    let go := (left = none → finish) ∧
      (∀ d, left = some d →
        (Marks.has b.cut d = true → move (some (short .cut d s))) ∧
        (Marks.has b.cut d = false → move (some ({ s with arbiter := { s.arbiter with
          dispense := some ⟨k, d, Counts.of b.remaining d⟩, dispenseWithdrawn := false } }.setBuild k
            (some { b with state := .dispensing, current := some d })))))
    (b.state = .planned → (s.isTrayBuild b = false → finish) ∧
      (s.isTrayBuild b = true → (s.desk.trayOwner = some k → go) ∧ (s.desk.trayOwner ≠ some k → move none))) ∧
    (b.state = .dispensing → (s.dispenseInProgress k = true → move none) ∧
      (s.dispenseInProgress k = false → (∀ c d, b.shortDue = some (c, d) → move (some (short c d s))) ∧
        (b.shortDue = none → ∀ d, b.current = some d →
          (Counts.of b.remaining d = 0 → go) ∧ (Counts.of b.remaining d ≠ 0 → move none)))) ∧
    (b.state ≠ .planned → b.state ≠ .dispensing → move none) ∧
    (∀ d,
      let u := s.setBuild k (some { b with cut := Marks.mark b.cut d })
      (b.state = .planned ∨ b.state = .awaitingHandover → cutReport d k s = short .cut d u) ∧
      (b.state = .short ∨ b.state = .cancelling → cutReport d k s = u) ∧
      (b.state = .dispensing → (cutReport d k s).build k = some { b with
        cut := Marks.mark b.cut d
        shortDue := if b.current = some d ∧ b.shortDue = none then some (.cut, d) else b.shortDue }) ∧
      (unservable k d s).build k = some { b with
        shortDue := if b.state = .dispensing ∧ b.current = some d ∧ b.shortDue = none ∧ Counts.of b.remaining d ≠ 0
          then some (.unservable, d) else b.shortDue }))

/-- REPORT SALES stores the figure (R70). In TRADING and PICKUP it answers D = F + N − P and advises a pickup once while D
is above the class's limit (R71); in RETURNING the figure alone; in RECONCILED and EXCEPTION the variance R − D is formed
and banded again with the accepted mark clear, and a move from RECONCILED to EXCEPTION sends VARIANCE_EXCEPTION (R75,
R76). A till or a figure out of range is BAD_FIELD, and CLOSED, BUILDING and CLOSING refuse with WRONG_STATE (R70). That D
and the variance have no presence byte, and that the reply in RETURNING has no figure, is the model's choice (log entry 81,
DESIGN CHOICE). -/
def Obligations.ReportSalesFormsTheFigures : Prop :=
  (∀ (tag n : Nat) (v : Int) (s : State), s.ready →
    (255 < n ∨ v < -549755813888 ∨ 549755813888 < v →
      exec (.reportSales tag (.good ⟨n, v⟩)) s = .next (respond 39 tag (refusal .badField) (heard s))) ∧
    (n ≤ 255 → -549755813888 ≤ v → v ≤ 549755813888 →
      (s.till n).state = .closed ∨ (s.till n).state = .building ∨ (s.till n).state = .closing →
      exec (.reportSales tag (.good ⟨n, v⟩)) s = .next (respond 39 tag (refusal .wrongState) (heard s)))) ∧
  ∀ (tag n : Nat) (v : Int) (s : State), s.ready → n ≤ 255 → -549755813888 ≤ v → v ≤ 549755813888 →
    let r := { s.till n with sales := v }
    let u := (heard s).setTill n r
    let d : Int := r.floatValue + v - r.pickups
    let limit : Nat := ((s.template r.cls).map (·.pickupLimit)).getD 0
    ((r.state = .trading ∨ r.state = .pickup) →
      exec (.reportSales tag (.good ⟨n, v⟩)) s = .next (respond 39 tag (okReply [u1 r.state.code, i6 d])
        (if d ≤ limit then u.setTill n { r with advised := false }
          else if r.advised then u
          else notify (.pickupDue n d limit) (u.setTill n { r with advised := true })))) ∧
    (r.state = .returning →
      exec (.reportSales tag (.good ⟨n, v⟩)) s = .next (respond 39 tag (okReply [u1 5]) u)) ∧
    ((r.state = .reconciled ∨ r.state = .exception) →
      let x : Int := (r.returned.getD 0 : Nat) - d
      let ok := ((s.template r.cls).map (·.tolOk)).getD 0
      let review := ((s.template r.cls).map (·.tolReview)).getD 0
      let band := if x.natAbs ≤ ok then Band.balanced else if x.natAbs ≤ review then .review else .exception
      let st := if band = .exception then TillState.exception else .reconciled
      let w := u.setTill n { r with variance := some x, band := some band, state := st, accepted := false }
      exec (.reportSales tag (.good ⟨n, v⟩)) s = .next (respond 39 tag (okReply [u1 st.code, i6 x])
        (if r.state = .reconciled ∧ st = .exception then notify (.varianceException n r.session x band) w else w)))

/-- ACCEPT VARIANCE under a SUPERVISOR's dual control makes an EXCEPTION till RECONCILED with the accepted mark set, its
band kept (R77). R77 gives its checks no order: that the operators are checked before the till's range and state is the model's
choice (DESIGN CHOICE, log entry 27).
CLOSE TILL of a RECONCILED till queues its TILL_SUMMARY and closes it where the posting queue has room, and leaves it
CLOSING with its closing-pending flag set where the queue is full (R42, R78). -/
def Obligations.ExceptionsAreAcceptedAndTillsClosed : Prop :=
  (∀ (tag n a b : Nat) (s : State), s.ready →
    (∀ st, s.dualControl .supervisor a b = some st →
      exec (.acceptVariance tag (.good ⟨n, a, b⟩)) s = .next (respond 40 tag (refusal st) (heard s))) ∧
    (s.dualControl .supervisor a b = none →
      (255 < n → exec (.acceptVariance tag (.good ⟨n, a, b⟩)) s =
        .next (respond 40 tag (refusal .badField) (heard s))) ∧
      (n ≤ 255 → (s.till n).state ≠ .exception → exec (.acceptVariance tag (.good ⟨n, a, b⟩)) s =
        .next (respond 40 tag (refusal .wrongState) (heard s))) ∧
      (n ≤ 255 → (s.till n).state = .exception → exec (.acceptVariance tag (.good ⟨n, a, b⟩)) s =
        .next (respond 40 tag (okReply [])
          ((heard s).setTill n { s.till n with accepted := true, state := .reconciled }))))) ∧
  (∀ (tag n : Nat) (s : State), s.ready → n ≤ 255 → (s.till n).state = .reconciled →
    (s.book.queue.length < 128 → exec (.closeTill tag (.good n)) s = .next (respond 41 tag (okReply [])
      ((queueEntry (.tillSummary n (s.till n).session (s.till n).floatValue (s.till n).sales (s.till n).pickups
          ((s.till n).returned.getD 0) ((s.till n).variance.getD 0) ((s.till n).band.getD .balanced)) (heard s)).setTill n
        { s.till n with state := .closed, closingPending := false }))) ∧
    (128 ≤ s.book.queue.length → exec (.closeTill tag (.good n)) s = .next (respond 41 tag (acceptedReply [])
      ((heard s).setTill n { s.till n with state := .closing, closingPending := true }))))

/-! ### The count unit (Sections 4 and 5) -/

/-- SET LINE and SET COIN LIMIT in HOLD (R79, R108): the settings are stored, a repeat limit and a poll interval outside
their ranges clamped and what was stored answered; a changed bit rate, given while no station is STACKED, makes every
station that is not ABSENT ABSENT. The coin limit takes a figure up to 1,000,000,000 and refuses a higher one.
RESET STATION makes STATION RESET pending at a station that is not ABSENT, keeping the stack where a stack lot is set;
a job in hand ends first with cause RESET; one already pending is answered and left (R96). STATION QUERY answers the
station's record and the line settings and returns its two line counts to 0 (R97). -/
def Obligations.LineRequestsReachTheStations : Prop :=
  (∀ (tag rate rep poll v : Nat) (s : State), s.ready → s.office.mode = .hold →
    (rate = 9600 ∨ rate = 19200 ∨ rate = 38400 →
      let l : LineSettings := ⟨rate, clamp 1 7 rep, clamp 10 100 poll⟩
      let r := okReply [u2 rate, u1 (clamp 1 7 rep), u1 (clamp 10 100 poll)]
      let u : State := { heard s with count := { s.count with settings := l } }
      (rate = s.count.settings.bitRate →
        exec (.setLine tag (.good ⟨rate, rep, poll⟩)) s = .next (respond 48 tag r u)) ∧
      (rate ≠ s.count.settings.bitRate → (∀ n, 1 ≤ n → n ≤ 4 → (s.station n).state ≠ .stacked) →
        exec (.setLine tag (.good ⟨rate, rep, poll⟩)) s =
          .next (respond 48 tag r (State.each dropStation [1, 2, 3, 4] u)))) ∧
    (v ≤ 1000000000 → exec (.setCoinLimit tag (.good v)) s =
      .next (respond 53 tag (okReply []) { heard s with count := { s.count with coinLimit := v } })) ∧
    (1000000000 < v → exec (.setCoinLimit tag (.good v)) s = .next (respond 53 tag (refusal .badField) (heard s)))) ∧
  (∀ (tag n : Nat) (s : State), s.ready → 1 ≤ n → n ≤ 4 →
    ((s.station n).state ≠ .absent → (s.station n).resetPending = true →
      exec (.resetStation tag (.good n)) s = .next (respond 49 tag (acceptedReply []) (heard s))) ∧
    ((s.station n).state ≠ .absent → (s.station n).resetPending = false → (s.station n).working = false →
      exec (.resetStation tag (.good n)) s = .next (respond 49 tag (acceptedReply []) (settle ((heard s).setStation n
        { s.station n with pending := some (.reset (s.station n).stackLot.isSome) })))) ∧
    ((s.station n).resetPending = false → (s.station n).working = true →
      exec (.resetStation tag (.good n)) s = .next (respond 49 tag (acceptedReply [])
        (settle (makePending n (.reset (s.station n).stackLot.isSome) (endJob n .reset (heard s)))))) ∧
    exec (.stationQuery tag (.good n)) s = .next (respond 50 tag
      (okReply (stationFields n (s.station n) ++ [u2 s.count.settings.bitRate, u1 s.count.settings.repeatLimit,
        u1 s.count.settings.pollInterval]))
      ((heard s).setStation n { s.station n with repeated := 0, failed := 0 })))

/-- START COUNT of a source in range and ready takes the lowest free lot under the next creation number, WAITING, claims its
position, marks the source (a till in PICKUP or RETURNING, a container under count), and puts its job at the queue's end
unless the station is NONE (R100, R103). A stranded lot takes the station given and its job joins the queue.
Assignment (R104): in TRADING the first job of the queue whose WAITING lot may use an offerable station goes to the
lowest-numbered such station, under the next job number: the lot COUNTING there, the station BUSY with BEGIN COUNT pending and
STATION_STATE sent; in another mode, or with no such job, nothing is assigned. That a station with a STATION RESET pending takes
no job is the model's choice (log entry 14, DESIGN CHOICE). -/
def Obligations.StartCountCreatesTheLot : Prop :=
  (∀ s : State,
    let takes := fun (m k : Nat) => 1 ≤ k ∧ k ≤ 4 ∧ (∃ l, s.lot m = some l ∧ l.state = .waiting ∧
        (l.station = some (.one k) ∨ l.station = some .any)) ∧
      (s.station k).state = .idle ∧ (s.station k).mech = some .ready ∧ (s.station k).stack = 0 ∧
      (s.station k).resetPending = false
    (s.office.mode ≠ .trading ∨ (∀ m ∈ s.count.jobs, ∀ k, ¬takes m k) → assignStep s = none) ∧
    (∀ (pre post : List Nat) (n k : Nat) (l : LotRec), s.office.mode = .trading → s.count.jobs = pre ++ n :: post →
      (∀ m ∈ pre, ∀ j, ¬takes m j) → takes n k → (∀ j < k, ¬takes n j) → s.lot n = some l →
      let j := nextNumber 255 s.count.jobCounter
      assignStep s = some (notify (.stationState k .busy (some .ready) 0) { s with count := { s.count with
        jobCounter := j
        lots := s.count.lots.set n (some { l with state := .counting, counting := some k })
        stations := s.count.stations.set (k - 1) { s.station k with
          state := .busy, job := some (j, n), pending := some (.beginCount j), attempts := 0 } } }))) ∧
  (∀ (tag n : Nat) (q : StartCountReq) (sel : StationSel) (s : State), s.ready → q.station = some sel →
    sourceInRange q.source = true → selInRange q.source q.station = true → declaredInRange q.declared = true →
    s.sourceNotes q.source = true → s.sourceReady q.source = true →
    (sel = .coinOnly ∨ s.count.jobs.length < 16) →
    ((∀ k, q.source ≠ .stranded k) → s.freeLots.head? = some n →
      let c := nextNumber 4294967295 s.count.lotCounter
      let u := (claimSlot (lotPos n) (heard s))
      let v : State := { u with
        count := { u.count with
          lotCounter := c
          lots := s.count.lots.set n (some (newLot c (lotSource q.source) (some sel) q.declared))
          jobs := s.count.jobs ++ (if sel = .coinOnly then [] else [n]) } }
      exec (.startCount tag (.good q)) s = .next (respond 51 tag (okReply [u1 n, u4 c]) (settle
        (match q.source with
          | .pickup t => v.setTill t { s.till t with state := .pickup, openLot := some n }
          | .ret t => v.setTill t { s.till t with state := .returning, openLot := some n }
          | .container k => v.setContainer k ((s.container k).map fun r => ({ r with countLot := some n } : ContRec))
          | _ => v)))) ∧
    (∀ l, q.source = .stranded n → s.lot n = some l →
      exec (.startCount tag (.good q)) s = .next (respond 51 tag (okReply [u1 n, u4 l.creation]) (settle
        (((heard s).setLot n (some { l with station := some sel })).setJobs (s.count.jobs ++ [n]))))))

/-- DECLARE COIN adds its COIN and ROLL pairs to the lot's declared coin and forms the counted value anew, answering the
coin's value (R107). A coin-only lot that waits becomes COUNTED and sends COUNT_DONE. One operator's check suffices up to
the coin limit; above it a supervisor's dual control is needed. -/
def Obligations.DeclareCoinAddsToTheLot : Prop :=
  ∀ (tag : Nat) (q : DeclareCoinReq) (l : LotRec) (s : State), s.ready → declareInRange q = true →
    s.lot q.lot = some l → l.takesCoin = true →
    (∀ p ∈ q.pairs, s.isCoin p.denom = true ∨ s.isRoll p.denom = true) →
    (∀ p ∈ q.pairs, Counts.of l.coin p.denom + p.count ≤ 65535) → s.oneOperator q.op1 = true →
    let coin := Counts.add l.coin (pairCounts q.pairs)
    let v := s.valueOf coin
    let r : LotRec := { l with
      coin := coin, state := .counted
      countedValue := s.valueOf (Counts.add l.genuineCounts coin), suspectValue := s.valueOf l.suspects }
    let u := (heard s).setLot q.lot (some r)
    (v ≤ s.count.coinLimit ∨ (∃ b, q.op2 = some b ∧ s.dualControl .supervisor q.op1 b = none) →
      exec (.declareCoin tag (.good q)) s = .next (respond 52 tag (okReply [u5 v])
        (if l.state = .waiting then notify (countDone q.lot r) u else u))) ∧
    (s.count.coinLimit < v → q.op2 = none →
      exec (.declareCoin tag (.good q)) s = .next (respond 52 tag (refusal .dualControl) (heard s)))

/-- ACCEPT COUNT of a COUNTED lot books one group, the movements of its source (R111 to R113) and then of its disposal (R114),
those without a pair left out; where the book refuses one movement the whole is refused and nothing changes. With g counted, x
suspect and r recorded of a denomination, the group leaves the custody total changed by g + x - r, SUSPECT x higher, the
source's position empty, and what the lot holds in RESERVE, in the container named or, for a DEPOSIT, its notes in the lot; no
other position's count changes. Then the job leaves the queue, the till takes its figure (R73, R75), the container is released
(R112), and the lot is DISPOSING with RELEASE STACK to INTAKE at its counting station, or DISPOSED, or FREE already, with
RELEASE STACK to HAND there (R114, R115; a stack that has left gets no command, log entry 56). RESUME DISPOSAL sends an
interrupted deposit on, and DISPOSE LOT RESERVE books what an interrupted lot still holds into RESERVE (R120; the station that
is told to release, log entry 55). Figures of a denomination whose kind has changed since they were taken count as they stand
(log entry 83, DESIGN CHOICE). The model's choices besides: places in a refused group count from 1 (log entry 69), an empty
group answers the numbers 0 and 0 (log entry 34), and the release that RESUME DISPOSAL gives to a station that is not attached
or has a STATION RESET pending (log entry 14). -/
def Obligations.DisposalsBookTheLot : Prop :=
  (∀ (tag n : Nat) (q : AcceptCountReq) (d : Disposal) (l : LotRec) (s : State), s.ready → n ≤ 63 → s.lot n = some l →
    q.lot = n → acceptInRange q = true → q.disposal = some d → l.state = .counted →
    s.acceptOps l.source q.op1 q.op2 = none → s.disposalRefused d l = false → s.tillRefuses l = false →
    (∀ k, l.source = .container k → k ≤ 95) →
    let mv := fun (k : MoveKind) (a b : Side) (c : Counts) => (⟨k, a, b, pairsOf c, [q.op1], none⟩ : Movement)
    let lot := Side.pos (lotPos n)
    let aside := Side.pos suspectPos
    let adj := Side.external .adjustment
    let var := Side.external .deliveryVariance
    let g := l.counted
    let x := l.suspects
    let r : Counts := match l.source with
      | .container k => (s.posRec (containerPos k)).counts
      | .reserveRecount ds => countsOnly ds.contains (s.posRec reservePos).counts
      | .purge m => (s.posRec (purgePos m)).counts
      | .stranded _ => (s.posRec (lotPos n)).counts
      | .pickup _ | .ret _ => Counts.zero
    let found : Counts := Tab.ofFn 12 fun e => Nat.min (Counts.of x e) (Counts.of r e)
    let source : List Movement := match l.source with
      | .pickup t | .ret t => [mv .intake (.floor t) lot g, mv .suspectAside (.floor t) aside x]
      | .container k =>
        [mv .suspectAside (.pos (containerPos k)) aside found,
          mv .openForCount (.pos (containerPos k)) lot (Counts.sub r found),
          mv .deliveryVariance var lot (Counts.sub g (Counts.sub r found)),
          mv .deliveryVariance lot var (Counts.sub (Counts.sub r found) g),
          mv .adjust adj aside (Counts.sub x found)]
      | .reserveRecount _ => [mv .adjust (.pos reservePos) adj r, mv .adjust adj lot g, mv .adjust adj aside x]
      | .purge m => [mv .adjust (.pos (purgePos m)) adj r, mv .adjust adj lot g, mv .adjust adj aside x]
      | .stranded _ => [mv .adjust adj lot (Counts.sub g r), mv .adjust lot adj (Counts.sub r g), mv .adjust adj aside x]
    let holds : Counts := match l.source with
      | .stranded _ => g
      | _ => Counts.add (s.posRec (lotPos n)).counts g
    let disposal : Movement := match d with
      | .reserve => mv .disposeReserve lot (.pos reservePos) holds
      | .container k => mv .fill lot (.pos (containerPos k)) holds
      | .deposit => mv .disposeReserve lot (.pos reservePos) (countsOnly (fun e => !s.isNote e) holds)
    let group := (source ++ [disposal]).filter fun m => !m.pairs.isEmpty
    (∀ i w, applyGroup 1 group (heard s) = .error (i, w) →
      exec (.acceptCount tag (.good q)) s = .next (respond 54 tag (groupRefusal i w) (heard s))) ∧
    (∀ t, applyGroup 1 group (heard s) = .ok t →
      exec (.acceptCount tag (.good q)) s = .next (respond 54 tag
        (okReply (firstLast (s.numbersOf group.length) ++ [u5 l.countedValue])) (settle (acceptLot n q.op1 d l t))) ∧
      ∀ e < 12,
        (s.totalsLaw → Counts.of t.book.totals e + Counts.of r e
          = Counts.of s.book.totals e + Counts.of g e + Counts.of x e) ∧
        t.held suspectPos e = s.held suspectPos e + Counts.of x e ∧
        t.held (lotPos n) e = (if d = .deposit ∧ s.isNote e = true then Counts.of holds e else 0) ∧
        t.held reservePos e + (match l.source with | .reserveRecount _ => Counts.of r e | _ => 0)
          = s.held reservePos e + (match d with
            | .reserve => Counts.of holds e
            | .container _ => 0
            | .deposit => if s.isNote e then 0 else Counts.of holds e) ∧
        (∀ k, l.source = .container k → t.held (containerPos k) e = 0) ∧
        (∀ m, l.source = .purge m → t.held (purgePos m) e = 0) ∧
        (∀ k, d = .container k → t.held (containerPos k) e = s.held (containerPos k) e + Counts.of holds e) ∧
        (∀ p < 177, p ≠ lotPos n → p ≠ suspectPos → p ≠ reservePos →
          (∀ k, l.source = .container k ∨ d = .container k → p ≠ containerPos k) →
          (∀ m, l.source = .purge m → p ≠ purgePos m) → t.held p e = s.held p e))) ∧
  (∀ (n op : Nat) (d : Disposal) (l : LotRec) (s : State), n ≤ 63 →
    let t := acceptLot n op d l s
    let w := { l with disposal := some d, operator := some op }
    t.count.jobs = s.count.jobs.filter (· ≠ n) ∧
    (∀ k < 256, l.source = .pickup k → (t.till k).pickups = (s.till k).pickups + l.countedValue ∧
      (t.till k).state = .trading ∧ (t.till k).openLot = none) ∧
    (∀ k < 256, l.source = .ret k → (t.till k).returned = some l.countedValue ∧ (t.till k).openLot = none ∧
      ((t.till k).state = .reconciled ∨ (t.till k).state = .exception) ∧ (t.till k).variance =
        some (l.countedValue - ((s.till k).floatValue + (s.till k).sales - (s.till k).pickups : Int))) ∧
    (∀ k ≤ 95, l.source = .container k → ∀ c, t.container k = some c →
      c.state = .releasing ∧ c.countLot = none ∧ c.declared = none) ∧
    (d = .deposit → l.hasNotes = true → t.lot n = some { w with state := .disposing }) ∧
    (d ≠ .deposit ∨ l.hasNotes = false → ∀ r, t.lot n = some r → r = { w with state := .disposed }) ∧
    (∀ k, 1 ≤ k → k ≤ 4 → l.counting = some k → (s.station k).stackLot = some n → (s.station k).state ≠ .absent →
      (s.station k).state ≠ .attaching → (s.station k).resetPending = false →
      (d = .deposit → l.hasNotes = true →
        (t.station k).pending = some .releaseIntake ∧ (t.station k).stackLot = some n) ∧
      (d ≠ .deposit ∨ l.hasNotes = false →
        (t.station k).pending = some .releaseHand ∧ (t.station k).stackLot = none))) ∧
  (∀ (tag n : Nat) (l : LotRec) (s : State), s.ready → n ≤ 63 → s.lot n = some l → l.state = .disposeInterrupted →
    (l.disposal = some .deposit →
      let u := (heard s).setLot n (some { l with state := .disposing })
      exec (.resumeDisposal tag (.good n)) s = .next (respond 57 tag (acceptedReply []) (settle
        (match s.feederHolder n l with
          | some k => giveStack k .releaseIntake u
          | none => giveHead ((l.counting.getD 1) - 1) n u)))) ∧
    (∀ op : Nat, s.oneOperator op = true →
      let m : Movement := ⟨.disposeReserve, .pos (lotPos n), .pos reservePos, pairsOf (s.posRec (lotPos n)).counts, [op], none⟩
      checkMovement m false s = none →
      exec (.disposeLotReserve tag (.good ⟨n, op⟩)) s =
        .next (respond 58 tag (okReply [u4 (nextNumber 4294967295 s.book.moveCounter)])
          (settle (finishLot n (releaseToHand (s.stackHolder n l) (applyMovement m (heard s))))))))

/-- REJECT COUNT sends a COUNTED lot back to WAITING with its report, coin, values and counting station cleared, its recount
count one higher and its job at the head of the queue; at 3 recounts it is refused (R116, R117). VOID LOT makes a WAITING
or COUNTED lot VOID, restores its source and takes its job out of the queue (R118). A counting station that holds the notes of a
COUNTED lot is told to return them. That no RETURN STACK is given where the counting station's stack lot does not name the lot
is the model's choice (log entry 55, DESIGN CHOICE): R117 and R118 give it without that condition; so is what `giveStack` does
at a station that is not attached or has a STATION RESET pending (log entries 14 and 85, DESIGN CHOICE). -/
def Obligations.RejectAndVoidGiveTheLotBack : Prop :=
  ∀ (tag n : Nat) (l : LotRec) (s : State), s.ready → n ≤ 63 → s.lot n = some l →
    (l.state = .counted → 3 ≤ l.recounts →
      exec (.rejectCount tag (.good n)) s = .next (respond 55 tag (refusal .recountLimit) (heard s))) ∧
    (l.state = .counted → l.recounts < 3 →
      l.hasNotes = false ∨ (∀ k, l.counting = some k → (s.station k).stackLot ≠ some n) →
      exec (.rejectCount tag (.good n)) s = .next (respond 55 tag (okReply [u1 (l.recounts + 1)]) (settle
        (jobToHead n ((heard s).setLot n (some { l.blank with
          state := .waiting, counting := none, recounts := l.recounts + 1 })))))) ∧
    (∀ k, l.state = .counted → l.recounts < 3 → l.hasNotes = true → l.counting = some k →
      (s.station k).stackLot = some n →
      exec (.rejectCount tag (.good n)) s = .next (respond 55 tag (okReply [u1 (l.recounts + 1)]) (settle
        (jobToHead n ((giveStack k .returnStack (heard s)).setLot n (some { l.blank with
          state := .waiting, counting := none, recounts := l.recounts + 1 })))))) ∧
    (l.voidable = true →
      let u := (heard s).setJobs (s.count.jobs.filter (· ≠ n))
      let v := match l.counting with
        | some k =>
          if l.state = .counted ∧ l.hasNotes = true ∧ (s.station k).stackLot = some n
          then giveStack k .returnStack u else u
        | none => u
      exec (.voidLot tag (.good n)) s = .next (respond 56 tag (okReply []) (settle (voidRelease n
        ((match l.source with
          | .pickup t | .ret t => v.setTill t { s.till t with state := .trading, openLot := none }
          | .container k => v.setContainer k ((s.container k).map fun r => ({ r with countLot := none } : ContRec))
          | _ => v : State).setLot n (some { l with state := .void }))))))

/-! ### The recycler controller (Sections 6, 7 and 8) -/

/-- In HOLD, SET CASSETTE sets the role, denomination and capacity of a present cassette, INSERT CASSETTE announces one for
a vacant slot, and SET ROUTE replaces the ranges of a NOTE denomination, the last one's limit 0 and every pointer 0 (R127,
R130, R133). -/
def Obligations.CassetteRequestsSetUpTheRecycler : Prop :=
  ∀ (tag c : Nat) (a : SlotAddr) (s : State), s.ready → s.office.mode = .hold → slotIndex a = some c →
    (∀ (role : Role) (d : Option Nat) (n : Nat), 100 ≤ n → n ≤ 2200 → roleSuits (some role) d = true →
      s.noteGiven d = true →
      ((s.cassette c).present = true → (s.cassette c).role ≠ .retired → (s.cassette c).mismatch = false →
        (s.cassette c).evacSource = false → (s.cassette c).evacSpare = false →
        (s.cassetteCount c = 0 ∨ d = (s.cassette c).denom ∧ role ≠ .unassigned ∧ role ≠ .spare) →
        s.cassetteCount c ≤ n →
        exec (.setCassette tag (.good ⟨a, some role, d, n⟩)) s = .next (respond 64 tag (okReply [])
          (settle ((heard s).setCassette c { s.cassette c with role := role, denom := d, capacity := n })))) ∧
      (∀ t, 1 ≤ t → t ≤ 4294967295 → (s.cassette c).present = false → s.isCassetteTag t (some c) = false →
        s.inRegister t = false →
        exec (.insertCassette tag (.good ⟨a, t, some role, d, n⟩)) s = .next (respond 65 tag (okReply [])
          ((heard s).setCassette c { s.cassette c with announced := some ⟨t, role, d, n⟩ })))) ∧
    (∀ (d : Nat) (l : List RangeReq) (w : List (Nat × List Nat)), s.isNote d = true → rangesOk l = some w →
      (∀ k ∈ (w.map Prod.snd).flatten, (s.cassette k).present = true ∧ (s.cassette k).denom = some d ∧
        ((s.cassette k).role = .recycle ∨ (s.cassette k).role = .depositOnly)) →
      exec (.setRoute tag (.good ⟨d, l⟩)) s = .next (respond 67 tag (okReply []) ((heard s).setRanges d (storedRanges w))))

/-- REMOVE CASSETTE in HOLD under a custodian's dual control, with the module SAFE_OPEN, leaves the slot vacant (R131,
R132): an empty cassette leaves no counts; one for collection becomes a CLOSED container of its tag's number holding its
notes by two ADJUST movements; a stranded one's notes go to a new lot by STRANDED_RECOVERY. A removed stranded source ends
the STRANDED record (R168). That the sensed tag and the announcement stay is the model's choice (log entry 35). -/
def Obligations.RemovedCassetteLeavesTheSlotVacant : Prop :=
  ∀ (tag c a b : Nat) (x : SlotAddr) (s : State), s.ready → s.office.mode = .hold → slotIndex x = some c →
    opOk a = true → opOk b = true → s.dualControl .custodian a b = none → (s.module (moduleOf c)).state = .safeOpen →
    (s.cassette c).present = true → (s.cassette c).evacSource = false → (s.cassette c).evacSpare = false →
    (s.cassetteCount c = 0 → exec (.removeCassette tag (.good ⟨x, some .empty, a, b⟩)) s =
      .next (respond 66 tag (okReply [u1 0]) (settle (strandedRemoved c ((heard s).setCassette c { CasRec.vacant with
        sensed := (s.cassette c).sensed, announced := (s.cassette c).announced }))))) ∧
    (∀ n t u, (s.cassette c).role = .depositOnly → (s.cassette c).mismatch = false → (s.cassette c).tag = some t →
      s.inRegister t = false → s.freeContainers.head? = some n →
      applyGroup 1 (collectMoves s c n a b)
        ((claimSlot (containerPos n) (heard s)).setContainer n (some ⟨.closed, t, .cassette, .office, none, none, none⟩))
        = .ok u →
      exec (.removeCassette tag (.good ⟨x, some .forCollection, a, b⟩)) s = .next (respond 66 tag
        (okReply (numberList (s.numbersOf (collectMoves s c n a b).length) ++ [u1 n])) (settle (vacate c u)))) ∧
    (∀ n u, (s.cassette c).stranded = true → s.freeLots.head? = some n →
      applyGroup 1 (withPairs [recoveryMove s c n a b]) (createLot n (.stranded c) none none (heard s)) = .ok u →
      exec (.removeCassette tag (.good ⟨x, some .stranded, a, b⟩)) s = .next (respond 66 tag
        (okReply (numberList (s.numbersOf (withPairs [recoveryMove s c n a b]).length) ++ [u1 n]))
        (settle (strandedRemoved c (vacate c u)))))

/-- The arbiter's and the evacuation's settings (R147, R154, R160, R162): stored with what is outside a clamped range
brought into it and the stored values answered; a lower ceiling brings the deposit account down to it; OPEN FLOAT WINDOW
sets the remaining time and CLOSE FLOAT WINDOW closes the window; a new threshold sets AT_THRESHOLD where it is due. -/
def Obligations.SpineSettingsAreStored : Prop :=
  ∀ (tag : Nat) (s : State), s.ready →
    (∀ (q : SetArbiterReq) (p : Preemption), s.office.mode = .hold → q.preemption = some p → q.ratio ≤ 15 → q.decr ≤ 15 →
      q.limit ≤ 4095 → q.clip ≤ 4095 → 1 ≤ q.patience → q.patience ≤ 64 →
      let r : ArbSettings := ⟨clamp 10 50 q.runLength, q.ratio, q.decr, Nat.min q.limit q.clip, q.clip, q.patience, p⟩
      exec (.setArbiter tag (.good q)) s = .next (respond 69 tag (okReply (settingFields r)) ((heard s).setArbiter
        { s.arbiter with settings := r, account := Nat.min s.arbiter.account q.clip }))) ∧
    (∀ n, 60 ≤ n → n ≤ 7200 → exec (.openFloatWindow tag (.good n)) s =
      .next (respond 70 tag (okReply []) (settle ((heard s).setArbiter { s.arbiter with window := some n })))) ∧
    exec (.closeFloatWindow tag (.good ())) s =
      .next (respond 71 tag (okReply []) ((heard s).setArbiter { s.arbiter with window := none })) ∧
    (∀ n k, s.office.mode = .hold → 1 ≤ n → n ≤ 255 → exec (.setFaultPolicy tag (.good ⟨n, k⟩)) s =
      .next (respond 73 tag (okReply [u1 n, u2 (clamp 50 1000 k)]) (settle (State.each dueThreshold allCassettes
        ((heard s).setEvac { s.evac with threshold := n, leakNotes := clamp 50 1000 k }))))) ∧
    (∀ m e, m ≤ 1 → exec (.setEvacuation tag (.good ⟨m, some e⟩)) s =
      .next (respond 75 tag (okReply []) (settle ((heard s).setEvac { s.evac with enables := s.evac.enables.set m e }))))

/-- Under a SUPERVISOR's dual control, CLEAR BUCKET sets a present cassette's bucket and good-note counter to 0 and clears
AT_THRESHOLD (R161); an IDLE evacuation stays IDLE, since the clear itself starts none (R161, against R163, log entry 53).
START EVACUATION starts the evacuation of a RECYCLE or DEPOSIT_ONLY cassette without a flag other than AT_THRESHOLD into the
lowest qualifying spare, answering the spare's slot (R164, R165); a DISPENSE run that picks from the source takes it into its
left set at once and picks from no cassette until it chooses again (R165).
An ACTIVE or PAUSED evacuation ends where its source is empty, when its run closes or with no run of it in service: DONE (R166,
R167); with notes left, a run's closing strands it at the third consecutive failure (R166, R168). Either end gives the spare the
source's role, retires the source, rewrites or removes the ways that name it, drops the request with the skip count (R153) and
sends its notice. An ACTIVE one pauses with the first standing cause of Table 8-3 once no run of it is in service and no strand
is due, and withdraws its request; a PAUSED one resumes when no cause stands, and otherwise changes its cause at most, to an
earlier one (R166, log entry 25). That an empty source ends it DONE also at the third failure is the model's choice (log entry
90, DESIGN CHOICE). -/
def Obligations.SupervisorsClearAndEvacuate : Prop :=
  (∀ (s : State) (a b : Nat), s.evac.source = some a → s.evac.spare = some b →
    (s.evac.state = .active ∨ s.evac.state = .paused) → a ≠ b →
    let e := s.evac
    let run := s.recycler.run
    let ended := fun (source : CasRec) (x : Evacuation) (n : NoticeBody) => notify n { s with
      recycler := { s.recycler with
        cassettes := (s.recycler.cassettes.set b { s.cassette b with
          role := (s.cassette a).role, evacSpare := false }).set a source
        routes := s.recycler.routes.map fun l => l.map (rewriteRange a b) }
      evac := { x with
        spare := none, pause := none, standing := [], retired := e.retired.set (moduleOf a) (some (a, (s.cassette a).tag)) }
      arbiter := { s.arbiter with evacuate := false, evacuateWithdrawn := false, skips := 0 } }
    let done := ended { s.cassette a with role := .retired, evacSource := false, atThreshold := false }
      { e with state := .idle, source := none, last := some .done }
      (.evacuationDone a b e.atStart e.moved (s.waysNaming a))
    let strand := ended { s.cassette a with role := .retired, evacSource := false, stranded := true }
      { e with state := .stranded, last := some .stranded }
      (.evacuationStranded a b e.moved (s.posRec (cassettePos a)).counts.items)
    let empty := (s.posRec (cassettePos a)).counts.isZero = true
    let serving := run.kind = .evacuate ∧ (run.state = .running ∨ run.state = .purging) ∧ run.interrupted = false
    let clear := e.enables.get false (moduleOf a) = true ∧ s.office.mode = .trading ∧ s.inService (moduleOf a) = true ∧
      (s.cassette b).atThreshold = false
    let first : PauseCause := if e.enables.get false (moduleOf a) = false then .disabled
      else if s.office.mode ≠ .trading then .hold
      else if s.inService (moduleOf a) = false then .module else .spareFault
    let asks := fun (x : Evacuation) (on : Bool) => { s with
      evac := x
      arbiter := { s.arbiter with
        evacuate := on, evacuateWithdrawn := false, skips := if on then s.arbiter.skips else 0 } }
    (empty → (¬serving → evacExamine s = done) ∧ ∀ r : Run, r.kind = .evacuate → reportEnd r s = done) ∧
    (¬empty → evacExamine s = s ∧ ∀ r : Run, r.kind = .evacuate →
      (s.arbiter.evacuateWithdrawn = true ∨ 3 ≤ e.failures → reportEnd r s = strand) ∧
      (s.arbiter.evacuateWithdrawn = false → e.failures < 3 → reportEnd r s = s)) ∧
    (serving → evacExamine s = s) ∧
    (∀ r : Range,
      let k := if r.ways.idxOf a < r.next then r.next - 1 else r.next
      let ways := r.ways.filter fun c => c ≠ a
      (a ∉ r.ways → rewriteRange a b r = r) ∧
      (a ∈ r.ways → b ∉ r.ways →
        rewriteRange a b r = { r with ways := r.ways.map fun c => if c = a then b else c }) ∧
      (a ∈ r.ways → b ∈ r.ways →
        rewriteRange a b r = { r with ways := ways, next := if k = ways.length then 0 else k })) ∧
    (clear → e.state = .active → pauseStep s = none) ∧
    (clear → e.state = .paused →
      pauseStep s = some (asks { e with state := .active, pause := none, standing := [] } true)) ∧
    (¬clear → e.state = .active →
      (serving → pauseStep s = none) ∧
      (¬serving → ¬(s.arbiter.evacuateWithdrawn = true ∧ run.kind = .evacuate ∧ run.state ≠ .idle) →
        ∃ l, pauseStep s = some (asks { e with state := .paused, pause := some first, standing := l } false))) ∧
    (¬clear → e.state = .paused → ∀ t, pauseStep s = some t →
      ∃ c l, t = { s with evac := { e with pause := c, standing := l } } ∧
        (c = e.pause ∨ ∃ x y, c = some x ∧ e.pause = some y ∧ x.place < y.place))) ∧
  (∀ (tag c a b : Nat) (x : SlotAddr) (s : State), s.ready → slotIndex x = some c → opOk a = true → opOk b = true →
    s.dualControl .supervisor a b = none → (s.cassette c).present = true →
    exec (.clearBucket tag (.good ⟨x, a, b⟩)) s = .next (respond 74 tag (okReply []) (settleClear ((heard s).setCassette c
      { s.cassette c with bucket := 0, good := 0, atThreshold := false }))) ∧
    (∀ t, s.evac.state = .idle → exec (.clearBucket tag (.good ⟨x, a, b⟩)) s = .next t → t.evac.state = .idle) ∧
    (∀ k, s.office.mode = .trading → s.evac.state = .idle → (s.cassette c).sourceable = true →
      s.inService (moduleOf c) = true → s.evac.enables.get false (moduleOf c) = true → s.spareFor c = some k →
      let n := (s.posRec (cassettePos c)).counts.items
      let u := ((heard s).setCassette k { s.cassette k with denom := (s.cassette c).denom, evacSpare := true }).setCassette c
        { s.cassette c with evacSource := true }
      let v := u.setEvac { s.evac with
        state := .active, source := some c, spare := some k, forced := true, atStart := n, moved := 0, failures := 0,
        pause := none, standing := [] }
      let r := s.recycler.run
      let w := if r.state = .running ∧ r.interrupted = false ∧ r.kind = .dispense ∧ r.cause = none ∧ r.pick = some c
        then v.setRun { r with left := r.left ++ [c], pick := none, failed := 0 } else v
      exec (.startEvacuation tag (.good ⟨x, a, b⟩)) s = .next (respond 76 tag (okReply (slotFields k)) (settle (evacExamine
        (giveEvac (notify (.evacuationStarted c k (s.cassette c).denom n true) (gradeModule (moduleOf c) w))))))))

/-! ### The bay (Section 9) -/

/-- The life of a bag (R173 to R176): OPEN BAG puts a number that is nowhere in use into the lowest free container slot,
OPEN on the office side; FILL BAG books one FILL movement into it; CLOSE BAG closes one that holds something; DISCARD
CONTAINER asks the release of one that holds nothing, after which a retrieval with nothing left to retrieve ends (R188). -/
def Obligations.BagRequestsFollowTheBag : Prop :=
  ∀ (tag n : Nat) (s : State), s.ready →
    (∀ k, 1 ≤ n → n ≤ 999999999 → s.numberTaken n = false → s.slotsReserved < s.freeContainers.length →
      s.freeContainers.head? = some k →
      exec (.openBag tag (.good n)) s = .next (respond 80 tag (okReply [u1 k])
        (((heard s).setPosRec (containerPos k) PosRec.fixed).setContainer k
          (some ⟨.opened, n, .bag, .office, none, none, none⟩)))) ∧
    (∀ r : ContRec, n ≤ 95 → s.container n = some r →
      (∀ (src : FillSource) (qs : List Pair) (op : Nat), opOk op = true → r.state = .opened → s.oneOperator op = true →
        let m : Movement := ⟨.fill, .pos (fillPos src), .pos (containerPos n), qs, [op], none⟩
        (checkMovement m false s = none → exec (.fillBag tag (.good ⟨n, some src, qs, op⟩)) s =
          .next (respond 81 tag (okReply [u4 (nextNumber 4294967295 s.book.moveCounter)]) (applyMovement m (heard s)))) ∧
        (∀ f, checkMovement m false s = some f → exec (.fillBag tag (.good ⟨n, some src, qs, op⟩)) s =
          .next (respond 81 tag (refusalOf f.status f.denom) (heard s)))) ∧
      (r.state = .opened → s.containerEmpty n = false → exec (.closeBag tag (.good n)) s =
        .next (respond 82 tag (okReply []) ((heard s).setContainer n (some { r with state := .closed })))) ∧
      (r.state = .opened ∨ r.state = .closed → s.containerEmpty n = true → r.consignment = none → r.countLot = none →
        exec (.discardContainer tag (.good n)) s = .next (respond 83 tag (okReply [])
          (bayAfter (requestRelease (containerPos n)
            ((heard s).setContainer n (some { r with state := .releasing, declared := none })))))))

/-- CREATE CONSIGNMENT takes the lowest free slot, or else the lowest finished one: a collection starts DRAFT with no item,
a delivery STAGED with its items expected and its window examined (R178, R180). ADD ITEM makes a CLOSED container on the
office side that holds something an item of a DRAFT or LOADING collection, and the container ASSIGNED (R179). That a creation sends no
CONSIGNMENT_STATE, and that an item's number keeps to the range of a bag's, is the model's choice (DESIGN CHOICE, log entry
32), and so is the value 0 of a declared EMPTY denomination (log entry 91). -/
def Obligations.ConsignmentsTakeTheirItems : Prop :=
  ∀ (tag : Nat) (s : State), s.ready →
    (∀ (q : CreateConsignmentReq) (kind : ConsKind) (n : Nat), q.kind = some kind → s.createOk q kind = true →
      s.clock < q.windowClose → s.itemsDefined q.items = true → (q.items.map DeliveryItemReq.number).Nodup →
      (∀ i ∈ q.items, s.numberTaken i.number = false) → s.consSlot = some n →
      exec (.createConsignment tag (.good q)) s = .next (respond 84 tag (okReply [u1 n]) (examineWindow n
        ((heard s).setConsignment n (some { newCons q kind with
          state := match kind with | .collection => .draft | .delivery => .staged }))))) ∧
    (∀ (k n : Nat) (c : ConsRec) (r : ContRec), k ≤ 7 → n ≤ 95 → s.consignment k = some c → c.kind = .collection →
      (c.state = .draft ∨ c.state = .loading) → s.container n = some r →
      (16 ≤ c.items.length → exec (.addItem tag (.good ⟨k, n⟩)) s = .next (respond 85 tag (refusal .noSlot) (heard s))) ∧
      (c.items.length < 16 → r.state = .closed → r.location = .office → r.countLot = none → s.containerEmpty n = false →
        exec (.addItem tag (.good ⟨k, n⟩)) s = .next (respond 85 tag (okReply []) (bayAfter
          (((heard s).setContainer n (some { r with state := .assigned, consignment := some k })).setConsignment k
            (some { c with items := c.items ++ [⟨some n, r.number, 0, [], false⟩] }))))))

/-- The bay's doors at a request (R181, R183, R184, R188, R189): STAGE and RETRIEVE unlock the office door and ENGAGE the
courier door, only while the other door is LOCKED with its sensor CLOSED; STAGE makes a collection LOADING, ENGAGE makes a
consignment inside its window ENGAGED with its two operators and 120 s to open the door; LOCK BAY ends a retrieval and
makes or owes the office door's lock; ABORT makes a consignment ABORTED, and leaves a COMPLETE or ABORTED one. That ENGAGE
leaves the consignment ENGAGED also where the courier sensor already reads OPEN, as after a forced opening, is the model's
choice (log entry 67, DESIGN CHOICE). -/
def Obligations.BayRequestsUnlockOneDoor : Prop :=
  ∀ (tag k : Nat) (s : State), s.ready →
    (∀ c : ConsRec, k ≤ 7 → s.consignment k = some c →
      (s.office.mode = .trading → s.stageable c = true → s.clock < c.windowClose → s.bayHeldByOther k = false →
        s.strangerInBay k = false →
        (s.doors.courier.secure = true → exec (.stage tag (.good k)) s = .next (respond 86 tag (okReply [])
          (bayAfter (enterCons k .loading (unlockDoor .office (heard s)))))) ∧
        (s.doors.courier.secure = false → exec (.stage tag (.good k)) s =
          .next (respond 86 tag (refusal .wrongState) (heard s)))) ∧
      (∀ a b, opOk a = true → opOk b = true → 1 ≤ c.route → c.route ≤ 65535 → s.office.mode = .trading →
        s.dualControl .custodian a b = none → (c.state = .waiting ∨ c.state = .partly ∨ c.state = .interrupted) →
        c.windowOpen ≤ s.clock → s.clock < c.windowClose → s.deliveryBarred k c = none →
        (s.doors.office.secure = true → exec (.engage tag (.good ⟨k, c.route, a, b⟩)) s = .next (respond 87 tag (okReply [])
          (let u := unlockDoor .courier (enterCons k .engaged ((heard s).setConsignment k (some { c with
            returnState := some c.state, ops := some (a, b), engagedOnce := c.engagedOnce || c.kind = .delivery })))
          u.setDoors { u.doors with courierTimer := some 120 }))) ∧
        (s.doors.office.secure = false → exec (.engage tag (.good ⟨k, c.route, a, b⟩)) s =
          .next (respond 87 tag (refusal .wrongState) (heard s)))) ∧
      (c.state = .complete ∨ c.state = .aborted →
        exec (.abort tag (.good k)) s = .next (respond 90 tag (okReply []) (heard s))) ∧
      (c.state ≠ .complete → c.state ≠ .aborted → c.state ≠ .transferring →
        exec (.abort tag (.good k)) s = .next (respond 90 tag (okReply []) (settle (abortCons k c (heard s)))))) ∧
    (s.retrievalBarred = false → s.anyRetrievable = true → s.doors.courier.secure = true →
      exec (.retrieve tag (.good ())) s = .next (respond 88 tag (okReply []) ((heard s).setDoors { s.doors with
        office := { s.doors.office with locked := false, lockDue := false }, retrieval := true, unlockOwed := false }))) ∧
    (s.consIn .loading = none → exec (.lockBay tag (.good ())) s = .next (respond 89 tag (okReply [])
      (settleOffice ((heard s).setDoors { s.doors with retrieval := false, unlockOwed := false }))))

/-! ### Office control (Section 10) -/

/-- The office mode and the safe (R192 to R194, R197, R198). ENTER HOLD answers OK where HOLD is reached in the same event
and ACCEPTED otherwise: HOLD_PENDING becomes HOLD, with HOLD_REACHED, exactly where the spine is idle, no station counts or
reports, no consignment is engaged or transferring and no module is STARTING (R193), so that ENTER HOLD, where no other change
is due and no evacuation has to pause, reaches HOLD at once exactly under these conditions. LEAVE HOLD returns to TRADING and clears the opening condition. OPEN SAFE under a custodian's dual
control unlocks a LOCKED safe at once where the spine is idle and makes the opening PENDING otherwise; CLOSE SAFE withdraws
a pending opening, relocks an UNLOCKED or CLOSED safe and leaves the lock of an OPEN one due. -/
def Obligations.HoldAndSafeFollowTheirStates : Prop :=
  ∀ (tag : Nat) (s : State), s.ready →
    let reached := (s.recycler.run.state = .idle ∨ s.recycler.run.state = .unclosed) ∧ s.recycler.purge = none ∧
      (∀ k, 1 ≤ k → k ≤ 4 → (s.station k).state ≠ .busy ∧ (s.station k).state ≠ .reporting) ∧
      (∀ k c, s.consignment k = some c → c.state ≠ .engaged ∧ c.state ≠ .transferring) ∧
      (∀ m < 2, (s.module m).state ≠ .starting)
    (s.office.mode = .holdPending ∧ reached →
      holdStep s = some (notify (.holdReached s.clock) (s.setMode .hold))) ∧
    (¬(s.office.mode = .holdPending ∧ reached) → holdStep s = none) ∧
    (s.office.mode = .trading → quiet s = true → s.evac.state = .idle ∨ s.evac.state = .stranded →
      (reached → exec (.enterHold tag (.good ())) s =
        .next (respond 96 tag (okReply []) (notify (.holdReached s.clock) ((heard s).setMode .hold)))) ∧
      (¬reached → exec (.enterHold tag (.good ())) s =
        .next (respond 96 tag (acceptedReply []) ((heard s).setMode .holdPending)))) ∧
    (s.office.mode = .hold → exec (.enterHold tag (.good ())) s = .next (respond 96 tag (okReply []) (heard s))) ∧
    (s.office.mode = .holdPending →
      exec (.enterHold tag (.good ())) s = .next (respond 96 tag (acceptedReply []) (heard s))) ∧
    (s.office.mode = .trading → let t := settle ((heard s).setMode .holdPending)
      exec (.enterHold tag (.good ())) s =
        .next (respond 96 tag (if t.office.mode = .hold then okReply [] else acceptedReply []) t)) ∧
    (s.office.mode = .trading → exec (.leaveHold tag (.good ())) s = .next (respond 97 tag (okReply []) (heard s))) ∧
    (s.office.mode ≠ .trading → exec (.leaveHold tag (.good ())) s = .next (respond 97 tag (okReply []) (settle
      { heard s with
        book := { s.book with opening := false }
        office := { s.office with mode := .trading } }))) ∧
    (∀ a b, opOk a = true → opOk b = true → s.dualControl .custodian a b = none → s.office.safe.state = .locked →
      (s.spineIdle = true → s.office.safe.forced = false → exec (.openSafe tag (.good ⟨a, b⟩)) s =
        .next (respond 99 tag (okReply []) (settle ((heard s).setSafe (if s.office.safe.sensorOpen
          then { s.office.safe with state := .opened, wasOpened := true, timer := none }
          else { s.office.safe with state := .unlocked, wasOpened := false, timer := some s.office.relockTime }))))) ∧
      (s.spineIdle = false ∨ s.office.safe.forced = true → exec (.openSafe tag (.good ⟨a, b⟩)) s =
        .next (respond 99 tag (acceptedReply []) (settle ((heard s).setSafe { s.office.safe with state := .pending }))))) ∧
    (s.office.safe.state = .locked → exec (.closeSafe tag (.good ())) s = .next (respond 100 tag (okReply []) (heard s))) ∧
    (s.office.safe.state = .pending → exec (.closeSafe tag (.good ())) s = .next (respond 100 tag (okReply [])
      (settle ((heard s).setSafe { s.office.safe with state := .locked })))) ∧
    (s.office.safe.state = .unlocked ∨ s.office.safe.state = .closed → exec (.closeSafe tag (.good ())) s =
      .next (respond 100 tag (okReply []) (settle (relockSafe (heard s))))) ∧
    (s.office.safe.state = .opened → exec (.closeSafe tag (.good ())) s = .next (respond 100 tag (acceptedReply [])
      ((heard s).setSafe { s.office.safe with lockDue := true })))

/-- SET ROSTER ENTRY under two SUPERVISORs' dual control writes or empties an entry, and refuses a number that another entry
holds with IN_USE (R195). SET DOOR LIMIT and SET SAFE RELOCK clamp their figure and answer it (R182, R198); SET CLOCK
answers the clock before it and has every window examined (R180, R199); CLEAR FAULT RECORD empties the first fault record
(R200); GET STATUS answers and clears NOTICE_LOST (R207). -/
def Obligations.OfficeSettingsAreStored : Prop :=
  ∀ (tag v : Nat) (s : State), s.ready →
    (∀ i a b, i ≤ 31 → opOk a = true → opOk b = true → s.dualControl .twoSupervisors a b = none →
      exec (.setRosterEntry tag (.good ⟨i, none, a, b⟩)) s = .next (respond 98 tag (okReply []) ((heard s).setRoster i none)) ∧
      (∀ n roles active, opOk n = true → s.numberHeld n i = false →
        exec (.setRosterEntry tag (.good ⟨i, some ⟨n, some roles, active⟩, a, b⟩)) s =
          .next (respond 98 tag (okReply []) ((heard s).setRoster i (some ⟨n, roles, active⟩)))) ∧
      (∀ n roles active j e, opOk n = true → j ≤ 31 → j ≠ i → s.office.roster.get none j = some e → e.number = n →
        exec (.setRosterEntry tag (.good ⟨i, some ⟨n, some roles, active⟩, a, b⟩)) s =
          .next (respond 98 tag (refusal .inUse) (heard s)))) ∧
    exec (.setDoorLimit tag (.good v)) s = .next (respond 91 tag (okReply [u2 (clamp 10 300 v)])
      (checkHeld .courier (checkHeld .office { heard s with bay := { s.bay with doorLimit := clamp 10 300 v } }))) ∧
    exec (.setSafeRelock tag (.good v)) s = .next (respond 101 tag (okReply [u2 (clamp 30 900 v)])
      { heard s with office := { s.office with relockTime := clamp 30 900 v } }) ∧
    (v ≤ 4294967295 → exec (.setClock tag (.good v)) s = .next (respond 102 tag (okReply [u4 s.office.clock])
      (examineWindows { heard s with office := { s.office with clock := v } }))) ∧
    exec (.clearFaultRecord tag (.good ())) s = .next (respond 103 tag (okReply [])
      { heard s with office := { s.office with firstFault := none } }) ∧
    exec (.getStatus tag (.good ())) s = .next (respond 112 tag (okReply (statusFields s))
      { s with link := { s.link with receiver := .hunting, noticeLost := false } })

/-! ### Link, power and time (Sections 7, 9, 10 and 11) -/

/-- The end of a frame on the line (R203, R204, R206): a reply's request is in hand no more, an owed LINK_BUSY reply leaves
the owed replies, a notice leaves the queue, and the free transmitter begins its next frame. (The end of a RESTART's OK reply
is stated in `Obligations.StartAnnouncesItself`.) A dropped frame, a gap within a frame and a line break put the receiver back
to hunting and touch nothing else of the state (R202), after which a free transmitter chooses its next frame (R204).
The model's choices here: FRAME SENT with nothing on the line, and POWER ON while power is present, are no events (log entry 3);
power loss leaves every register as it stood, to be set anew by the next start (R208, log entry 13); the last frames sent are
the model's own field (log entry 6). -/
def Obligations.LinkEventsMoveTheFrames : Prop :=
  (∀ s : State, s.powered = true →
    (s.link.onLine = none → exec .frameSent s = .next (transmit s)) ∧
    (∀ c g r, s.link.onLine = some (.reply c g r) → (∀ h, s.link.inHand = some h → h.fetched = none) →
      s.link.stopping = false → (c ≠ 113 ∨ r.status ≠ .ok) →
      exec .frameSent s = .next (transmit { s with
        link := { s.link with inHand := none, onLine := none, lastSent := [.reply c g r] } })) ∧
    (∀ c g, s.link.onLine = some (.busy c g) → (s.link.stopping = false ∨ s.link.owed.tail ≠ []) →
      exec .frameSent s = .next (transmit { s with
        link := { s.link with
          owed := s.link.owed.tail, onLine := none, lastSent := [.busy c g]
          inHand := s.link.inHand.map fun h => { h with busyAhead := h.busyAhead - 1 } } })) ∧
    (∀ n, s.link.onLine = some (.notice n) →
      exec .frameSent s = .next (transmit { s with
        link := { s.link with notices := s.link.notices.tail, onLine := none, lastSent := [.notice n] } }))) ∧
  (∀ (s : State), exec .powerLoss s = .next { s with powered := false } ∧
    (s.powered = true → ∀ (good : Bool) (r : DropReason), exec (.powerOn good) s = .next s ∧
      (∀ c : Instr, c = .droppedFrame r ∨ c = .byteGapTimeout ∨ c = .lineBreak →
        exec c s = .next (transmit { s with link := { s.link with receiver := .hunting } }))))

/-- RESTART and the start. RESTART in HOLD, with the run record IDLE and no purge cycle, is taken with the reply OK; when that
reply has been sent with LINK_BUSY replies still owed, the link is stopping until they have left (R204, R210, log entry 7). POWER
ON with a good store, the end of the OK reply with nothing owed, and the end of the last owed LINK_BUSY reply of a stopping link
each answer a state that has the link up anew with STARTED as the first notice, under number 1, being sent, both bay doors
LOCKED, and the run and the account of the time before kept or cleared as stated (R181, R204, R206, R209). Of what R208 lists as
retained it keeps unchanged: the denomination table, the counts of every position, the custody totals, the movement counter, the
posting queue as far as it went, the opening condition, the tills and templates, the line settings, the lot counter and coin
limit, the cassettes and the routing table, the arbiter's settings, the fault policy and the enables, the door limit, the
roster, the relock time and the clock. The last frame sent is the model's own field (log entry 6). -/
def Obligations.StartAnnouncesItself : Prop :=
  (∀ (tag : Nat) (s : State), s.ready → s.office.mode = .hold → s.recycler.run.state = .idle → s.recycler.purge = none →
    exec (.restart tag (.good ())) s = .next (respond 113 tag (okReply []) (heard s))) ∧
  (∀ (tag : Nat) (r : Reply) (s : State), s.powered = true → s.link.onLine = some (.reply 113 tag r) → r.status = .ok →
    (∀ h, s.link.inHand = some h → h.fetched = none) → s.link.owed ≠ [] →
    exec .frameSent s = .next (transmit { s with
      link := { s.link with inHand := none, onLine := none, lastSent := [.reply 113 tag r], stopping := true } })) ∧
  (∀ (restart : Bool) (c : Instr) (s : State),
    (restart = false ∧ s.powered = false ∧ c = .powerOn true ∨
      restart = true ∧ s.powered = true ∧ c = .frameSent ∧
        ((∃ tag r, s.link.onLine = some (.reply 113 tag r) ∧ r.status = .ok ∧ s.link.owed = [] ∧
            ∀ h, s.link.inHand = some h → h.fetched = none) ∨
          (∃ b g, s.link.onLine = some (.busy b g) ∧ s.link.stopping = true ∧ s.link.owed.tail = []))) →
    ∃ t, exec c s = .next t ∧
      t.powered = true ∧ t.pending = s.pending ∧
      t.link.receiver = .hunting ∧ t.link.inHand = none ∧ t.link.owed = [] ∧ t.link.stopping = false ∧
      t.link.onLine = some (.notice ⟨1, s.clock, .started restart true
        (if s.office.mode = .holdPending then .hold else s.office.mode) s.clock⟩) ∧
      t.link.notices.head?.map Frame.notice = t.link.onLine ∧
      t.link.lastSent = (if restart then s.link.onLine.toList else s.link.lastSent) ∧
      t.doors.office.locked = true ∧ t.doors.courier.locked = true ∧
      t.arbiter.account = 0 ∧ t.recycler.purge = none ∧
      t.recycler.run = (if s.recycler.run.state = .idle then s.recycler.run
        else { s.recycler.run with interrupted := true }) ∧
      t.book.denoms = s.book.denoms ∧ (∀ p < 177, (t.posRec p).counts = (s.posRec p).counts) ∧
      t.book.totals = s.book.totals ∧ t.book.moveCounter = s.book.moveCounter ∧ s.book.queue <+: t.book.queue ∧
      t.book.opening = s.book.opening ∧ t.desk.tills = s.desk.tills ∧ t.desk.templates = s.desk.templates ∧
      t.count.settings = s.count.settings ∧ t.count.lotCounter = s.count.lotCounter ∧
      t.count.coinLimit = s.count.coinLimit ∧
      t.recycler.cassettes = s.recycler.cassettes ∧ t.recycler.routes = s.recycler.routes ∧
      t.arbiter.settings = s.arbiter.settings ∧ t.evac.threshold = s.evac.threshold ∧
      t.evac.leakNotes = s.evac.leakNotes ∧ t.evac.enables = s.evac.enables ∧ t.bay.doorLimit = s.bay.doorLimit ∧
      t.office.roster = s.office.roster ∧ t.office.relockTime = s.office.relockTime ∧ t.office.clock = s.office.clock)

/-- The one-second timebase and the times it ends (R154, R180, R182, R185, R198, R199). CLOCK TICK advances the clock, from
4,294,967,295 to 0, counts the open timers, closes a float window whose time reaches zero (R154) and has every window examined.
A window's time, the float window's end, a door held open, the courier door left shut and the relock time act where that time
has passed in the state, and otherwise change nothing but that a free transmitter chooses its next frame (the model's reading
of these rows, log entries 3 and 37). That COURIER DOOR TIMEOUT changes nothing while the courier sensor reads OPEN is the
model's choice (log entry 67, DESIGN CHOICE). -/
def Obligations.TimeEndsWhatItShould : Prop :=
  ∀ (s : State), s.powered = true →
    exec .clockTick s = .next (transmit (examineWindows { s with
      office := { s.office with
        clock := if s.office.clock ≥ 4294967295 then 0 else s.office.clock + 1
        safe := { s.office.safe with timer := s.office.safe.timer.map (· - 1) } }
      arbiter := { s.arbiter with window := (s.arbiter.window.map (· - 1)).filter (0 < ·) }
      doors := { s.doors with
        office := { s.doors.office with openTime := s.doors.office.openTime.map (· + 1) }
        courier := { s.doors.courier with openTime := s.doors.courier.openTime.map (· + 1) }
        courierTimer := s.doors.courierTimer.map (· - 1) } })) ∧
    (∀ (k : Fin 8) (c : ConsRec), s.consignment k = some c →
      (c.state = .staged → c.windowOpen ≤ s.clock → s.clock < c.windowClose →
        exec (.windowOpen k) s = .next (transmit (notify
          (.consignmentState k c.kind c.route .waiting .staged c.items.length c.doneCount)
          (s.setConsignment k (some { c with state := .waiting }))))) ∧
      (c.state = .staged ∨ c.state = .waiting → c.windowClose ≤ s.clock →
        exec (.windowClose k) s = .next (transmit (notify
          (.consignmentState k c.kind c.route .expired c.state c.items.length c.doneCount)
          (s.setConsignment k (some { c with state := .expired }))))) ∧
      (c.state ≠ .staged ∧ c.state ≠ .waiting ∨ c.state = .staged ∧ s.clock < c.windowOpen ∧ s.clock < c.windowClose ∨
          c.state = .waiting ∧ s.clock < c.windowClose →
        exec (.windowOpen k) s = .next (transmit s) ∧ exec (.windowClose k) s = .next (transmit s))) ∧
    (∀ k : Fin 8, s.consignment k = none →
      exec (.windowOpen k) s = .next (transmit s) ∧ exec (.windowClose k) s = .next (transmit s)) ∧
    (s.arbiter.window = some 0 → exec .floatWindowExpiry s =
      .next (transmit (s.setArbiter { s.arbiter with window := none }))) ∧
    (s.arbiter.window ≠ some 0 → exec .floatWindowExpiry s = .next (transmit s)) ∧
    (∀ d : Door, (s.door d).heldOpen = true ∨ (s.door d).openTime = none ∨
        (∃ n, (s.door d).openTime = some n ∧ n ≤ s.bay.doorLimit) → exec (.heldOpen d) s = .next (transmit s)) ∧
    (∀ (d : Door) (n : Nat), (s.door d).openTime = some n → s.bay.doorLimit < n → (s.door d).heldOpen = false →
      exec (.heldOpen d) s = .next (transmit (handFault (doorSource d) .heldOpen (notify
        (.doorAlarm (alarmDoor d) .heldOpen s.clock) (s.setDoor d { s.door d with heldOpen := true }))))) ∧
    (∀ (k : Nat) (c : ConsRec), s.doors.courierTimer = some 0 → s.doors.courier.sensorOpen = false →
      s.consIn .engaged = some k → s.consignment k = some c →
      exec .courierDoorTimeout s = .next (transmit (settle (bayAfter (examineWindow k
        (enterCons k (c.returnState.getD .waiting) (s.setDoors { s.doors with
          courier := { s.doors.courier with locked := true, lockDue := false }, courierTimer := none }))))))) ∧
    (s.doors.courierTimer ≠ some 0 ∨ s.doors.courier.sensorOpen = true ∨ s.consIn .engaged = none →
      exec .courierDoorTimeout s = .next (transmit s)) ∧
    (s.office.safe.state ≠ .unlocked ∧ s.office.safe.state ≠ .closed ∨ s.office.safe.timer ≠ some 0 →
      exec .relockTime s = .next (transmit s)) ∧
    ((s.office.safe.state = .unlocked ∨ s.office.safe.state = .closed) → s.office.safe.timer = some 0 →
      exec .relockTime s = .next (transmit (settle (relockSafe s))))

/-! ### Safe and bay sensors and readers (Sections 9 and 10) -/

/-- The safe sensor (R197, R198, Table 10-4): an UNLOCKED or CLOSED safe that opens is OPEN and stops the spine; one that
opens while LOCKED is forced, with DOOR_ALARM and a fault; an OPEN one that closes is CLOSED with its relock time running,
or relocks where its lock is due; the end of a forced opening clears it. That the SAFE_RELOCKED of a forced opening says the
door was opened is read from the spec by inference (DEDUCED, log entry 51). What the opening does to a run record of before a
power loss is the model's choice (log entry 89, DESIGN CHOICE). -/
def Obligations.SafeSensorMovesTheSafe : Prop :=
  ∀ (s : State), s.powered = true →
    (s.office.safe.state = .unlocked ∨ s.office.safe.state = .closed →
      exec .safeSensorOpen s = .next (transmit (settle (safeOpened (s.setSafe { s.office.safe with
        sensorOpen := true, state := .opened, wasOpened := true, timer := none }))))) ∧
    ((s.office.safe.state = .locked ∨ s.office.safe.state = .pending) → s.office.safe.sensorOpen = false →
      exec .safeSensorOpen s = .next (transmit (settle (safeOpened (handFault .safeDoor .forced (notify
        (.doorAlarm .safe .forced s.clock) (s.setSafe { s.office.safe with sensorOpen := true, forced := true }))))))) ∧
    (s.office.safe.state = .opened → s.office.safe.lockDue = false →
      exec .safeSensorClosed s = .next (transmit (s.setSafe { s.office.safe with
        sensorOpen := false, state := .closed, timer := some s.office.relockTime }))) ∧
    (s.office.safe.state = .opened → s.office.safe.lockDue = true →
      exec .safeSensorClosed s = .next (transmit (settle (relockSafe (s.setSafe { s.office.safe with
        sensorOpen := false }))))) ∧
    ((s.office.safe.state = .locked ∨ s.office.safe.state = .pending) → s.office.safe.forced = true →
      exec .safeSensorClosed s = .next (transmit (settle (notify (.safeRelocked s.clock true) (startModules
        (notify (.doorAlarm .safe .cleared s.clock)
          (s.setSafe { s.office.safe with sensorOpen := false, forced := false })))))))

/-- The bay door sensors (R181 to R183, R185, R187): a LOCKED door that opens is FORCED; a door that closes ends its open
time and clears its alarms, after which a lock that is due is made; the courier door's opening makes an ENGAGED
consignment TRANSFERRING, and its closing ends a transfer. That one DOOR_ALARM with cause CLEARED is sent where FORCED and
HELD_OPEN both stand is the model's choice (log entry 68, DESIGN CHOICE). -/
def Obligations.DoorSensorsMoveTheBay : Prop :=
  ∀ (s : State), s.powered = true →
    (∀ (d : Door) (c : Instr), d = .office ∧ c = .officeDoorOpened ∨
        d = .courier ∧ c = .courierDoorOpened ∧ s.consIn .engaged = none →
      (s.door d).sensorOpen = false →
      let u := s.setDoor d { s.door d with sensorOpen := true, openTime := some 0 }
      ((s.door d).locked = false → exec c s = .next (transmit u)) ∧
      ((s.door d).locked = true → (s.door d).forced = false → exec c s = .next (transmit
        (handFault (doorSource d) .forced (notify (.doorAlarm (alarmDoor d) .forced s.clock)
          (u.setDoor d { u.door d with forced := true })))))) ∧
    (∀ k, s.doors.courier.sensorOpen = false → s.doors.courier.locked = false → s.consIn .engaged = some k →
      exec .courierDoorOpened s = .next (transmit (enterCons k .transferring (s.setDoors { s.doors with
        courier := { s.doors.courier with sensorOpen := true, openTime := some 0 }, courierTimer := none })))) ∧
    (let v := fun d : Door => s.setDoor d { s.door d with
        sensorOpen := false, openTime := none, forced := false, heldOpen := false }
      let closed := fun d : Door => (if (s.door d).forced || (s.door d).heldOpen
        then notify (.doorAlarm (alarmDoor d) .cleared s.clock) (v d) else v d)
      exec .officeDoorClosed s = .next (transmit (bayAfter (closed .office))) ∧
      (s.consIn .transferring = none → exec .courierDoorClosed s = .next (transmit (bayAfter
        (if s.doors.courier.lockDue then lockCourier (closed .courier) else closed .courier)))) ∧
      (∀ k c, s.consIn .transferring = some k → s.consignment k = some c →
        exec .courierDoorClosed s = .next (transmit (settle (bayAfter (transferClosed k c (closed .courier)))))))

/-- The readers (R183, R186, R188): a number read at a door where nothing is active is rejected. At the office door an item
of the LOADING collection that is ASSIGNED on the office side goes into the bay PLACED and a PLACED one comes back out, and
during a retrieval a retrievable container comes out. At the courier door of a transfer an item done once is rejected as
repeated, a collection item is handed out and a delivery item taken in. -/
def Obligations.ReadersMoveContainers : Prop :=
  ∀ (n : Nat) (s : State), s.powered = true →
    (s.consIn .loading = none → s.doors.retrieval = false →
      exec (.officeSideRead n) s = .next (transmit (notify (.readerReject .office n .notActive) s))) ∧
    (∀ k c j r, s.consIn .loading = some k → s.consignment k = some c → c.loadingContainer n = some j →
      s.container j = some r →
      (r.state = .assigned → r.location = .office → exec (.officeSideRead n) s = .next (transmit (bayAfter
        (s.setContainer j (some { r with state := .placed, location := .bay }))))) ∧
      (r.state = .placed → exec (.officeSideRead n) s = .next (transmit (bayAfter
        (s.setContainer j (some { r with state := .assigned, location := .office })))))) ∧
    (∀ j r, s.consIn .loading = none → s.doors.retrieval = true → s.containerNumbered n = some j →
      s.retrievable j = true → s.container j = some r →
      exec (.officeSideRead n) s = .next (transmit (bayAfter (s.setContainer j (some { r with location := .office }))))) ∧
    (s.consIn .transferring = none →
      exec (.courierSideRead n) s = .next (transmit (notify (.readerReject .courier n .notActive) s))) ∧
    (∀ k c i x, s.consIn .transferring = some k → s.consignment k = some c → c.itemIndex n = some i →
      c.items[i]? = some x →
      (x.done = true →
        exec (.courierSideRead n) s = .next (transmit (notify (.readerReject .courier n .repeated) s))) ∧
      (∀ j, x.done = false → c.kind = .collection → x.container = some j → s.handable j = true →
        exec (.courierSideRead n) s = .next (transmit (handOut k i n c x j s))) ∧
      (x.done = false → c.kind = .delivery → exec (.courierSideRead n) s = .next (transmit (takeIn k i n c x s))))

/-! ### The station line (Section 4) -/

/-- Cycles and turns of the line (R85 to R87): a poll cycle gives the first of its stations its turn, ATTACH for an ABSENT
one, a pending command or else POLL for another; a cycle that falls due during one begins at its end. A record sent awaits
its answer; without one, or with a failed record in its place, the turn is a miss and the next station has its turn. That a
failed record began in the event that brings it, under the repeat limit of that time, and that the record of the turn that
begins is chosen before a job is assigned in the same event, is the model's choice (log entries 41 and 82, DESIGN CHOICE). -/
def Obligations.PollCyclesServeTheStations : Prop :=
  ∀ (s : State), s.powered = true →
    (∀ n ns, s.line.turn = none → s.cycleStations = n :: ns → exec .pollCycle s = .next (transmit (s.setLine
      { turn := some ⟨n, s.recordFor n, s.count.settings.repeatLimit, .sending⟩, waiting := ns, cycleDue := false,
        attachDue := false }))) ∧
    (s.line.turn ≠ none → exec .pollCycle s = .next (transmit (s.setLine { s.line with cycleDue := true }))) ∧
    exec .attachMark s = .next (transmit (s.setLine { s.line with attachDue := true })) ∧
    (∀ (t : Turn) (signals : List Nat), s.line.turn = some t →
      (t.phase = .sending → (∀ k, t.record ≠ .command (.reset k)) → (∀ j, t.record ≠ .command (.fetchReport j)) →
        (∀ x ∈ signals, x ≤ t.limit) →
        exec (.recordSent signals) s = .next (transmit (settle (setPhase t .awaiting
          (countLine t.station (signals.foldr (· + ·) 0) 0 s))))) ∧
      (t.phase = .awaiting → (∀ j, t.record ≠ .command (.fetchReport j)) →
        exec .replyTimeout s = .next (transmit (settle (nextTurn (missTurn t.station s)))) ∧
        (∀ c : Instr, c = .recordGapTimeout signals ∨ c = .failedRecord signals →
          exec c s = .next (transmit (settle (nextTurn (missTurn t.station
            (countLine t.station (drivenSignals s.count.settings.repeatLimit signals) 1 s)))))))) ∧
    (∀ n, (s.station n).state ≠ .absent → (s.station n).misses < 2 →
      missTurn n s = s.setStation n { s.station n with misses := (s.station n).misses + 1 }) ∧
    (∀ n, 1 ≤ n → n ≤ 4 → (s.station n).state = .idle → 2 ≤ (s.station n).misses →
      missTurn n s = notify (.stationState n .absent (s.station n).mech (s.station n).stack)
        (s.setStation n { s.station n with state := .absent, pending := none, misses := 0 }))

/-- What a station answers on its turn (R88 to R93): STATE attaches an ABSENT station and shows an IDLE one's state; REPORT
READY of a BUSY one makes it REPORTING with FETCH REPORT pending; HEAD, ITEMs and END are collected and a report that
passes its checks is taken into the lot; 30 ms of silence after a failed report, or before its next record, ends the
turn. A mechanism code that names no state shows nothing: a polled station stays as it is, with its miss count 0 (DESIGN CHOICE, log entry 61). The model's choices besides: the answer to ATTACH sets UNKNOWN and the stack shown, and a record begins in the event that
brings it, under the repeat limit of that time (log entry 41), REPORT RECORD TIMEOUT ends the turn at once (log entry 46), and
the record of the turn that begins is chosen before a job is assigned in the same event (log entry 82, DESIGN CHOICE). -/
def Obligations.StationAnswersAreTaken : Prop :=
  ∀ (t : Turn) (station : Fin 4) (signals : List Nat) (s : State), s.powered = true → s.line.turn = some t →
    (t.station = station.val + 1 → (∀ x ∈ signals, x ≤ s.count.settings.repeatLimit) →
      let u := countLine t.station (signals.foldr (· + ·) 0) 0 s
      let r := u.station t.station
      (∀ (m : MechState) (k : Nat), t.phase = .awaiting →
        (t.record = .attach → r.state = .absent → exec (.stationState station signals (some m) k) s = .next (transmit (settle
          (nextTurn (notify (.stationState t.station .attaching none k) (u.setStation t.station
            { r with state := .attaching, mech := none, stack := k, misses := 0 })))))) ∧
        (t.record = .poll → r.state = .idle → showsStack m k = false → mechAlarm r.mech = mechAlarm (some m) →
          exec (.stationState station signals (some m) k) s = .next (transmit (settle (nextTurn (u.setStation t.station
            { r with mech := some m, stack := k, misses := 0 }))))) ∧
        (t.record = .poll →
          exec (.stationState station signals none k) s = .next (transmit (settle (nextTurn (u.setStation t.station
            { r with misses := 0 }))))) ∧
        (∀ j l, t.record = .poll → r.state = .busy → r.job = some (j, l) → m = .reportReady → mechAlarm r.mech = false →
          exec (.stationState station signals (some m) k) s = .next (transmit (settle (nextTurn
            (notify (.stationState t.station .reporting (some .reportReady) k) (u.setStation t.station { r with
              state := .reporting, mech := some .reportReady, stack := k, misses := 0,
              pending := some (.fetchReport j) }))))))) ∧
      (∀ (h : HeadRecord) (j : Nat), t.phase = .awaiting → t.record = .command (.fetchReport j) →
        exec (.reportHead station signals h) s = .next (transmit (settle (setPhase t (.report h []) (u.setStation t.station
          { r with misses := 0, pending := if r.pending = some (.fetchReport j) then none else r.pending }))))) ∧
      (∀ (h : HeadRecord) (l : List ItemRecord), t.phase = .report h l →
        (∀ i : ItemRecord, l.length < h.items → exec (.reportItem station signals i) s =
          .next (transmit (settle (setPhase t (.report h (l ++ [i])) u)))) ∧
        (∀ (e : EndRecord) (j lot : Nat), r.job = some (j, lot) → u.reportGood j h l e = true →
          exec (.reportEnd station signals e) s = .next (transmit (settle (nextTurn
            (withStation t.station (takeReport t.station lot l) u))))))) ∧
    (t.phase = .quiet → exec .reportQuietTimeout s = .next (transmit (settle (nextTurn s)))) ∧
    (∀ h l, t.phase = .report h l → exec .reportRecordTimeout s =
      .next (transmit (settle (nextTurn (reportFails t.station s)))))

/-! ### The recycler mechanism (Section 6) -/

/-- The notes of a run (R134, R135, R138, R140): a readable note of the lot that its head feeds is picked towards the way
its routing gives, moving that range's pointer, or else to escrow; one that neither takes, that cannot be read, or that the
lot does not hold any more is foreign, each also after the run has an end cause; a note that arrives leaves the path and is
booked. A misfeed raises a cassette's
bucket by 1 and counts a failed pick; a double pick at a cassette raises it by 2 and sends two notes to the purge bin. That a
note read after the end cause was picked before it, and that a foreign note counts when it is read, is the model's choice
(log entries 60 and 19, DESIGN CHOICE). -/
def Obligations.RunNotesArePickedAndBooked : Prop :=
  ∀ (s : State), s.powered = true →
    (∀ (h : Fin 2) (n d : Nat) (g : Fin 4), s.recycler.run.roomToPick = true → s.picksFrom (.head h) = true →
      s.recycler.run.lot = some n →
      (∀ k i c, 0 < s.stillHeld (lotPos n) d → s.place d g = some (k, i, c) →
        exec (.noteRead (.head h) (.note d g)) s = .next (transmit (settle
          (pickNote ⟨lotPos n, d, .pos (cassettePos c)⟩ (movePointer d k i s))))) ∧
      (0 < s.stillHeld (lotPos n) d → s.place d g = none → s.escrowRoom d = true →
        exec (.noteRead (.head h) (.note d g)) s = .next (transmit (settle (pickNote ⟨lotPos n, d, .escrow⟩ s)))) ∧
      (s.stillHeld (lotPos n) d = 0 ∨ s.place d g = none ∧ s.escrowRoom d = false →
        exec (.noteRead (.head h) (.note d g)) s = .next (transmit (settle (foreignNote s)))) ∧
      exec (.noteRead (.head h) .noRead) s = .next (transmit (settle (foreignNote s)))) ∧
    (∀ (a : Arrival) (x : PathNote), s.recycler.run.path.find? (fun x => x.dest = arrivalDest a) = some x →
      s.recycler.run.live = true →
      exec (.noteArrived a) s = .next (transmit (settle (arriveNote x s)))) ∧
    (∀ h : Fin 2, s.picksFrom (.head h) = true → s.recycler.run.cause = none → s.recycler.run.failed + 1 < 3 →
      exec (.misfeed (.head h)) s = .next (transmit (settle
        (s.setRun { s.recycler.run with failed := s.recycler.run.failed + 1 })))) ∧
    (∀ c : Fin 12, s.picksFrom (.cassette c) = true →
      (s.recycler.run.kind = .dispense → exec (.misfeed (.cassette c)) s =
        .next (transmit (settle (failedPick (.cassette c) (raiseBucket c 1 s))))) ∧
      (∀ d, s.recycler.run.kind = .dispense → (s.cassette c).denom = some d →
        let x : PathNote := ⟨cassettePos c, d, .pos (purgePos (moduleOf c))⟩
        exec (.doublePick (.cassette c)) s = .next (transmit (settle (pickNote x (pickNote x (raiseBucket c 2 s)))))))

/-- The mechanism's other events (R122, R128, R139, R141 to R143): a jam ends the RUNNING run, whose purge cycle starts; a
module fault sets the module's fault and takes a module in service that no run uses out of it, and its end clears the fault;
a head's events set its state, and an empty one ends the run that picks from it; a tag check done ends the module's first
start step; the end of a purge cycle closes it CLEAR or FAILED. The model's choices in it are log entries 18, 21, 71, 73, 89 and
92 (DESIGN CHOICE). -/
def Obligations.MechanismEventsReachTheSpine : Prop :=
  ∀ (s : State), s.powered = true →
    (∀ p : JamPoint, (∀ c, p ≠ .cassette c) → s.recycler.run.live = true → (s.module (jamModule p)).fault = false →
      exec (.jam p) s = .next (transmit (settle (((handFault (jamSource p) .jam s).setRun { s.recycler.run with
        state := .purging, cause := some .jam, bin := some (jamModule p) }).setPurge (some ⟨jamModule p, false⟩))))) ∧
    (∀ m : Fin 2,
      (s.recycler.run.live = false → exec (.moduleFault m) s = .next (transmit (settle (faultModule m
        (handFault (.module m) .module (s.setModRec m { s.module m with fault := true })))))) ∧
      exec (.moduleFaultCleared m) s = .next (transmit (s.setModRec m { s.module m with fault := false }))) ∧
    (∀ h : Fin 2,
      (s.recycler.run.live = false → exec (.headEmpty h) s = .next (transmit { s with
        recycler := { s.recycler with heads := s.recycler.heads.set h false } })) ∧
      (s.picksFrom (.head h) = true → s.recycler.run.cause = none → exec (.headEmpty h) s = .next (transmit (settle { s with
        recycler := { s.recycler with
          heads := s.recycler.heads.set h false
          run := { s.recycler.run with cause := some .sourceEmpty } } }))) ∧
      exec (.headLoaded h) s = .next (transmit { s with
        recycler := { s.recycler with heads := s.recycler.heads.set h true } })) ∧
    (∀ (m : Fin 2) (tags : Tab 6 (Option Nat)), (s.module m).state = .starting → (s.module m).step = .tags →
      let u := checkTags m tags s
      exec (.tagCheckDone m tags) s = .next (transmit (settle { u with
        recycler := { u.recycler with
          freshTags := s.recycler.freshTags.set m false
          modules := s.recycler.modules.set m { s.module m with step := .purgeWait } } }))) ∧
    (∀ (c : PurgeCycle) (notes : Nat), s.recycler.purge = some c →
      exec (.purgeEnded true notes) s = .next (transmit (settle (purgeClear c notes s))) ∧
      exec (.purgeEnded false notes) s = .next (transmit (settle (purgeFailed c s))))
end

