-- ==== Sys2Proof/Laws/State.lean ====
section
/-! SUPPORT. What each record update of `State` changes and what it leaves: one lemma for each field and update, so that
no proof unfolds an update. -/

namespace Sys2Proof.Machine

variable (s : State)

/-! ### `State.setPosRec` -/

@[simp] theorem State.setPosRec_pending (p : Nat) (r : PosRec) : (s.setPosRec p r).pending = s.pending := rfl
@[simp] theorem State.setPosRec_powered (p : Nat) (r : PosRec) : (s.setPosRec p r).powered = s.powered := rfl
@[simp] theorem State.setPosRec_book (p : Nat) (r : PosRec) : (s.setPosRec p r).book =
    { s.book with positions := s.book.positions.set p r } := rfl
@[simp] theorem State.setPosRec_desk (p : Nat) (r : PosRec) : (s.setPosRec p r).desk = s.desk := rfl
@[simp] theorem State.setPosRec_count (p : Nat) (r : PosRec) : (s.setPosRec p r).count = s.count := rfl
@[simp] theorem State.setPosRec_line (p : Nat) (r : PosRec) : (s.setPosRec p r).line = s.line := rfl
@[simp] theorem State.setPosRec_recycler (p : Nat) (r : PosRec) : (s.setPosRec p r).recycler = s.recycler := rfl
@[simp] theorem State.setPosRec_arbiter (p : Nat) (r : PosRec) : (s.setPosRec p r).arbiter = s.arbiter := rfl
@[simp] theorem State.setPosRec_evac (p : Nat) (r : PosRec) : (s.setPosRec p r).evac = s.evac := rfl
@[simp] theorem State.setPosRec_bay (p : Nat) (r : PosRec) : (s.setPosRec p r).bay = s.bay := rfl
@[simp] theorem State.setPosRec_doors (p : Nat) (r : PosRec) : (s.setPosRec p r).doors = s.doors := rfl
@[simp] theorem State.setPosRec_office (p : Nat) (r : PosRec) : (s.setPosRec p r).office = s.office := rfl
@[simp] theorem State.setPosRec_link (p : Nat) (r : PosRec) : (s.setPosRec p r).link = s.link := rfl

/-! ### `State.setDenom` -/

@[simp] theorem State.setDenom_pending (i : Nat) (r : DenomRec) : (s.setDenom i r).pending = s.pending := rfl
@[simp] theorem State.setDenom_powered (i : Nat) (r : DenomRec) : (s.setDenom i r).powered = s.powered := rfl
@[simp] theorem State.setDenom_book (i : Nat) (r : DenomRec) : (s.setDenom i r).book =
    { s.book with denoms := s.book.denoms.set i r } := rfl
@[simp] theorem State.setDenom_desk (i : Nat) (r : DenomRec) : (s.setDenom i r).desk = s.desk := rfl
@[simp] theorem State.setDenom_count (i : Nat) (r : DenomRec) : (s.setDenom i r).count = s.count := rfl
@[simp] theorem State.setDenom_line (i : Nat) (r : DenomRec) : (s.setDenom i r).line = s.line := rfl
@[simp] theorem State.setDenom_recycler (i : Nat) (r : DenomRec) : (s.setDenom i r).recycler = s.recycler := rfl
@[simp] theorem State.setDenom_arbiter (i : Nat) (r : DenomRec) : (s.setDenom i r).arbiter = s.arbiter := rfl
@[simp] theorem State.setDenom_evac (i : Nat) (r : DenomRec) : (s.setDenom i r).evac = s.evac := rfl
@[simp] theorem State.setDenom_bay (i : Nat) (r : DenomRec) : (s.setDenom i r).bay = s.bay := rfl
@[simp] theorem State.setDenom_doors (i : Nat) (r : DenomRec) : (s.setDenom i r).doors = s.doors := rfl
@[simp] theorem State.setDenom_office (i : Nat) (r : DenomRec) : (s.setDenom i r).office = s.office := rfl
@[simp] theorem State.setDenom_link (i : Nat) (r : DenomRec) : (s.setDenom i r).link = s.link := rfl

/-! ### `State.setTill` -/

@[simp] theorem State.setTill_pending (t : Nat) (r : TillRec) : (s.setTill t r).pending = s.pending := rfl
@[simp] theorem State.setTill_powered (t : Nat) (r : TillRec) : (s.setTill t r).powered = s.powered := rfl
@[simp] theorem State.setTill_book (t : Nat) (r : TillRec) : (s.setTill t r).book = s.book := rfl
@[simp] theorem State.setTill_desk (t : Nat) (r : TillRec) : (s.setTill t r).desk =
    { s.desk with tills := s.desk.tills.set t r } := rfl
@[simp] theorem State.setTill_count (t : Nat) (r : TillRec) : (s.setTill t r).count = s.count := rfl
@[simp] theorem State.setTill_line (t : Nat) (r : TillRec) : (s.setTill t r).line = s.line := rfl
@[simp] theorem State.setTill_recycler (t : Nat) (r : TillRec) : (s.setTill t r).recycler = s.recycler := rfl
@[simp] theorem State.setTill_arbiter (t : Nat) (r : TillRec) : (s.setTill t r).arbiter = s.arbiter := rfl
@[simp] theorem State.setTill_evac (t : Nat) (r : TillRec) : (s.setTill t r).evac = s.evac := rfl
@[simp] theorem State.setTill_bay (t : Nat) (r : TillRec) : (s.setTill t r).bay = s.bay := rfl
@[simp] theorem State.setTill_doors (t : Nat) (r : TillRec) : (s.setTill t r).doors = s.doors := rfl
@[simp] theorem State.setTill_office (t : Nat) (r : TillRec) : (s.setTill t r).office = s.office := rfl
@[simp] theorem State.setTill_link (t : Nat) (r : TillRec) : (s.setTill t r).link = s.link := rfl

/-! ### `State.setBuild` -/

@[simp] theorem State.setBuild_pending (k : Nat) (b : Option Build) : (s.setBuild k b).pending = s.pending := rfl
@[simp] theorem State.setBuild_powered (k : Nat) (b : Option Build) : (s.setBuild k b).powered = s.powered := rfl
@[simp] theorem State.setBuild_book (k : Nat) (b : Option Build) : (s.setBuild k b).book = s.book := rfl
@[simp] theorem State.setBuild_desk (k : Nat) (b : Option Build) : (s.setBuild k b).desk =
    { s.desk with builds := s.desk.builds.set k b } := rfl
@[simp] theorem State.setBuild_count (k : Nat) (b : Option Build) : (s.setBuild k b).count = s.count := rfl
@[simp] theorem State.setBuild_line (k : Nat) (b : Option Build) : (s.setBuild k b).line = s.line := rfl
@[simp] theorem State.setBuild_recycler (k : Nat) (b : Option Build) : (s.setBuild k b).recycler = s.recycler := rfl
@[simp] theorem State.setBuild_arbiter (k : Nat) (b : Option Build) : (s.setBuild k b).arbiter = s.arbiter := rfl
@[simp] theorem State.setBuild_evac (k : Nat) (b : Option Build) : (s.setBuild k b).evac = s.evac := rfl
@[simp] theorem State.setBuild_bay (k : Nat) (b : Option Build) : (s.setBuild k b).bay = s.bay := rfl
@[simp] theorem State.setBuild_doors (k : Nat) (b : Option Build) : (s.setBuild k b).doors = s.doors := rfl
@[simp] theorem State.setBuild_office (k : Nat) (b : Option Build) : (s.setBuild k b).office = s.office := rfl
@[simp] theorem State.setBuild_link (k : Nat) (b : Option Build) : (s.setBuild k b).link = s.link := rfl

/-! ### `State.setTrayOwner` -/

@[simp] theorem State.setTrayOwner_pending (o : Option Nat) : (s.setTrayOwner o).pending = s.pending := rfl
@[simp] theorem State.setTrayOwner_powered (o : Option Nat) : (s.setTrayOwner o).powered = s.powered := rfl
@[simp] theorem State.setTrayOwner_book (o : Option Nat) : (s.setTrayOwner o).book = s.book := rfl
@[simp] theorem State.setTrayOwner_desk (o : Option Nat) : (s.setTrayOwner o).desk =
    { s.desk with trayOwner := o } := rfl
@[simp] theorem State.setTrayOwner_count (o : Option Nat) : (s.setTrayOwner o).count = s.count := rfl
@[simp] theorem State.setTrayOwner_line (o : Option Nat) : (s.setTrayOwner o).line = s.line := rfl
@[simp] theorem State.setTrayOwner_recycler (o : Option Nat) : (s.setTrayOwner o).recycler = s.recycler := rfl
@[simp] theorem State.setTrayOwner_arbiter (o : Option Nat) : (s.setTrayOwner o).arbiter = s.arbiter := rfl
@[simp] theorem State.setTrayOwner_evac (o : Option Nat) : (s.setTrayOwner o).evac = s.evac := rfl
@[simp] theorem State.setTrayOwner_bay (o : Option Nat) : (s.setTrayOwner o).bay = s.bay := rfl
@[simp] theorem State.setTrayOwner_doors (o : Option Nat) : (s.setTrayOwner o).doors = s.doors := rfl
@[simp] theorem State.setTrayOwner_office (o : Option Nat) : (s.setTrayOwner o).office = s.office := rfl
@[simp] theorem State.setTrayOwner_link (o : Option Nat) : (s.setTrayOwner o).link = s.link := rfl

/-! ### `State.setLot` -/

@[simp] theorem State.setLot_pending (n : Nat) (l : Option LotRec) : (s.setLot n l).pending = s.pending := rfl
@[simp] theorem State.setLot_powered (n : Nat) (l : Option LotRec) : (s.setLot n l).powered = s.powered := rfl
@[simp] theorem State.setLot_book (n : Nat) (l : Option LotRec) : (s.setLot n l).book = s.book := rfl
@[simp] theorem State.setLot_desk (n : Nat) (l : Option LotRec) : (s.setLot n l).desk = s.desk := rfl
@[simp] theorem State.setLot_count (n : Nat) (l : Option LotRec) : (s.setLot n l).count =
    { s.count with lots := s.count.lots.set n l } := rfl
@[simp] theorem State.setLot_line (n : Nat) (l : Option LotRec) : (s.setLot n l).line = s.line := rfl
@[simp] theorem State.setLot_recycler (n : Nat) (l : Option LotRec) : (s.setLot n l).recycler = s.recycler := rfl
@[simp] theorem State.setLot_arbiter (n : Nat) (l : Option LotRec) : (s.setLot n l).arbiter = s.arbiter := rfl
@[simp] theorem State.setLot_evac (n : Nat) (l : Option LotRec) : (s.setLot n l).evac = s.evac := rfl
@[simp] theorem State.setLot_bay (n : Nat) (l : Option LotRec) : (s.setLot n l).bay = s.bay := rfl
@[simp] theorem State.setLot_doors (n : Nat) (l : Option LotRec) : (s.setLot n l).doors = s.doors := rfl
@[simp] theorem State.setLot_office (n : Nat) (l : Option LotRec) : (s.setLot n l).office = s.office := rfl
@[simp] theorem State.setLot_link (n : Nat) (l : Option LotRec) : (s.setLot n l).link = s.link := rfl

/-! ### `State.setStation` -/

@[simp] theorem State.setStation_pending (n : Nat) (r : StationRec) : (s.setStation n r).pending = s.pending := rfl
@[simp] theorem State.setStation_powered (n : Nat) (r : StationRec) : (s.setStation n r).powered = s.powered := rfl
@[simp] theorem State.setStation_book (n : Nat) (r : StationRec) : (s.setStation n r).book = s.book := rfl
@[simp] theorem State.setStation_desk (n : Nat) (r : StationRec) : (s.setStation n r).desk = s.desk := rfl
@[simp] theorem State.setStation_count (n : Nat) (r : StationRec) : (s.setStation n r).count =
    { s.count with stations := s.count.stations.set (n - 1) r } := rfl
@[simp] theorem State.setStation_line (n : Nat) (r : StationRec) : (s.setStation n r).line = s.line := rfl
@[simp] theorem State.setStation_recycler (n : Nat) (r : StationRec) : (s.setStation n r).recycler = s.recycler := rfl
@[simp] theorem State.setStation_arbiter (n : Nat) (r : StationRec) : (s.setStation n r).arbiter = s.arbiter := rfl
@[simp] theorem State.setStation_evac (n : Nat) (r : StationRec) : (s.setStation n r).evac = s.evac := rfl
@[simp] theorem State.setStation_bay (n : Nat) (r : StationRec) : (s.setStation n r).bay = s.bay := rfl
@[simp] theorem State.setStation_doors (n : Nat) (r : StationRec) : (s.setStation n r).doors = s.doors := rfl
@[simp] theorem State.setStation_office (n : Nat) (r : StationRec) : (s.setStation n r).office = s.office := rfl
@[simp] theorem State.setStation_link (n : Nat) (r : StationRec) : (s.setStation n r).link = s.link := rfl

/-! ### `State.setJobs` -/

@[simp] theorem State.setJobs_pending (j : List Nat) : (s.setJobs j).pending = s.pending := rfl
@[simp] theorem State.setJobs_powered (j : List Nat) : (s.setJobs j).powered = s.powered := rfl
@[simp] theorem State.setJobs_book (j : List Nat) : (s.setJobs j).book = s.book := rfl
@[simp] theorem State.setJobs_desk (j : List Nat) : (s.setJobs j).desk = s.desk := rfl
@[simp] theorem State.setJobs_count (j : List Nat) : (s.setJobs j).count = { s.count with jobs := j } := rfl
@[simp] theorem State.setJobs_line (j : List Nat) : (s.setJobs j).line = s.line := rfl
@[simp] theorem State.setJobs_recycler (j : List Nat) : (s.setJobs j).recycler = s.recycler := rfl
@[simp] theorem State.setJobs_arbiter (j : List Nat) : (s.setJobs j).arbiter = s.arbiter := rfl
@[simp] theorem State.setJobs_evac (j : List Nat) : (s.setJobs j).evac = s.evac := rfl
@[simp] theorem State.setJobs_bay (j : List Nat) : (s.setJobs j).bay = s.bay := rfl
@[simp] theorem State.setJobs_doors (j : List Nat) : (s.setJobs j).doors = s.doors := rfl
@[simp] theorem State.setJobs_office (j : List Nat) : (s.setJobs j).office = s.office := rfl
@[simp] theorem State.setJobs_link (j : List Nat) : (s.setJobs j).link = s.link := rfl

/-! ### `State.setModRec` -/

@[simp] theorem State.setModRec_pending (m : Nat) (r : ModRec) : (s.setModRec m r).pending = s.pending := rfl
@[simp] theorem State.setModRec_powered (m : Nat) (r : ModRec) : (s.setModRec m r).powered = s.powered := rfl
@[simp] theorem State.setModRec_book (m : Nat) (r : ModRec) : (s.setModRec m r).book = s.book := rfl
@[simp] theorem State.setModRec_desk (m : Nat) (r : ModRec) : (s.setModRec m r).desk = s.desk := rfl
@[simp] theorem State.setModRec_count (m : Nat) (r : ModRec) : (s.setModRec m r).count = s.count := rfl
@[simp] theorem State.setModRec_line (m : Nat) (r : ModRec) : (s.setModRec m r).line = s.line := rfl
@[simp] theorem State.setModRec_recycler (m : Nat) (r : ModRec) : (s.setModRec m r).recycler =
    { s.recycler with modules := s.recycler.modules.set m r } := rfl
@[simp] theorem State.setModRec_arbiter (m : Nat) (r : ModRec) : (s.setModRec m r).arbiter = s.arbiter := rfl
@[simp] theorem State.setModRec_evac (m : Nat) (r : ModRec) : (s.setModRec m r).evac = s.evac := rfl
@[simp] theorem State.setModRec_bay (m : Nat) (r : ModRec) : (s.setModRec m r).bay = s.bay := rfl
@[simp] theorem State.setModRec_doors (m : Nat) (r : ModRec) : (s.setModRec m r).doors = s.doors := rfl
@[simp] theorem State.setModRec_office (m : Nat) (r : ModRec) : (s.setModRec m r).office = s.office := rfl
@[simp] theorem State.setModRec_link (m : Nat) (r : ModRec) : (s.setModRec m r).link = s.link := rfl

/-! ### `State.setCassette` -/

@[simp] theorem State.setCassette_pending (c : Nat) (r : CasRec) : (s.setCassette c r).pending = s.pending := rfl
@[simp] theorem State.setCassette_powered (c : Nat) (r : CasRec) : (s.setCassette c r).powered = s.powered := rfl
@[simp] theorem State.setCassette_book (c : Nat) (r : CasRec) : (s.setCassette c r).book = s.book := rfl
@[simp] theorem State.setCassette_desk (c : Nat) (r : CasRec) : (s.setCassette c r).desk = s.desk := rfl
@[simp] theorem State.setCassette_count (c : Nat) (r : CasRec) : (s.setCassette c r).count = s.count := rfl
@[simp] theorem State.setCassette_line (c : Nat) (r : CasRec) : (s.setCassette c r).line = s.line := rfl
@[simp] theorem State.setCassette_recycler (c : Nat) (r : CasRec) : (s.setCassette c r).recycler =
    { s.recycler with cassettes := s.recycler.cassettes.set c r } := rfl
@[simp] theorem State.setCassette_arbiter (c : Nat) (r : CasRec) : (s.setCassette c r).arbiter = s.arbiter := rfl
@[simp] theorem State.setCassette_evac (c : Nat) (r : CasRec) : (s.setCassette c r).evac = s.evac := rfl
@[simp] theorem State.setCassette_bay (c : Nat) (r : CasRec) : (s.setCassette c r).bay = s.bay := rfl
@[simp] theorem State.setCassette_doors (c : Nat) (r : CasRec) : (s.setCassette c r).doors = s.doors := rfl
@[simp] theorem State.setCassette_office (c : Nat) (r : CasRec) : (s.setCassette c r).office = s.office := rfl
@[simp] theorem State.setCassette_link (c : Nat) (r : CasRec) : (s.setCassette c r).link = s.link := rfl

/-! ### `State.setRanges` -/

@[simp] theorem State.setRanges_pending (d : Nat) (r : List Range) : (s.setRanges d r).pending = s.pending := rfl
@[simp] theorem State.setRanges_powered (d : Nat) (r : List Range) : (s.setRanges d r).powered = s.powered := rfl
@[simp] theorem State.setRanges_book (d : Nat) (r : List Range) : (s.setRanges d r).book = s.book := rfl
@[simp] theorem State.setRanges_desk (d : Nat) (r : List Range) : (s.setRanges d r).desk = s.desk := rfl
@[simp] theorem State.setRanges_count (d : Nat) (r : List Range) : (s.setRanges d r).count = s.count := rfl
@[simp] theorem State.setRanges_line (d : Nat) (r : List Range) : (s.setRanges d r).line = s.line := rfl
@[simp] theorem State.setRanges_recycler (d : Nat) (r : List Range) : (s.setRanges d r).recycler =
    { s.recycler with routes := s.recycler.routes.set d r } := rfl
@[simp] theorem State.setRanges_arbiter (d : Nat) (r : List Range) : (s.setRanges d r).arbiter = s.arbiter := rfl
@[simp] theorem State.setRanges_evac (d : Nat) (r : List Range) : (s.setRanges d r).evac = s.evac := rfl
@[simp] theorem State.setRanges_bay (d : Nat) (r : List Range) : (s.setRanges d r).bay = s.bay := rfl
@[simp] theorem State.setRanges_doors (d : Nat) (r : List Range) : (s.setRanges d r).doors = s.doors := rfl
@[simp] theorem State.setRanges_office (d : Nat) (r : List Range) : (s.setRanges d r).office = s.office := rfl
@[simp] theorem State.setRanges_link (d : Nat) (r : List Range) : (s.setRanges d r).link = s.link := rfl

/-! ### `State.setRun` -/

@[simp] theorem State.setRun_pending (r : Run) : (s.setRun r).pending = s.pending := rfl
@[simp] theorem State.setRun_powered (r : Run) : (s.setRun r).powered = s.powered := rfl
@[simp] theorem State.setRun_book (r : Run) : (s.setRun r).book = s.book := rfl
@[simp] theorem State.setRun_desk (r : Run) : (s.setRun r).desk = s.desk := rfl
@[simp] theorem State.setRun_count (r : Run) : (s.setRun r).count = s.count := rfl
@[simp] theorem State.setRun_line (r : Run) : (s.setRun r).line = s.line := rfl
@[simp] theorem State.setRun_recycler (r : Run) : (s.setRun r).recycler = { s.recycler with run := r } := rfl
@[simp] theorem State.setRun_arbiter (r : Run) : (s.setRun r).arbiter = s.arbiter := rfl
@[simp] theorem State.setRun_evac (r : Run) : (s.setRun r).evac = s.evac := rfl
@[simp] theorem State.setRun_bay (r : Run) : (s.setRun r).bay = s.bay := rfl
@[simp] theorem State.setRun_doors (r : Run) : (s.setRun r).doors = s.doors := rfl
@[simp] theorem State.setRun_office (r : Run) : (s.setRun r).office = s.office := rfl
@[simp] theorem State.setRun_link (r : Run) : (s.setRun r).link = s.link := rfl

/-! ### `State.setPurge` -/

@[simp] theorem State.setPurge_pending (p : Option PurgeCycle) : (s.setPurge p).pending = s.pending := rfl
@[simp] theorem State.setPurge_powered (p : Option PurgeCycle) : (s.setPurge p).powered = s.powered := rfl
@[simp] theorem State.setPurge_book (p : Option PurgeCycle) : (s.setPurge p).book = s.book := rfl
@[simp] theorem State.setPurge_desk (p : Option PurgeCycle) : (s.setPurge p).desk = s.desk := rfl
@[simp] theorem State.setPurge_count (p : Option PurgeCycle) : (s.setPurge p).count = s.count := rfl
@[simp] theorem State.setPurge_line (p : Option PurgeCycle) : (s.setPurge p).line = s.line := rfl
@[simp] theorem State.setPurge_recycler (p : Option PurgeCycle) : (s.setPurge p).recycler =
    { s.recycler with purge := p } := rfl
@[simp] theorem State.setPurge_arbiter (p : Option PurgeCycle) : (s.setPurge p).arbiter = s.arbiter := rfl
@[simp] theorem State.setPurge_evac (p : Option PurgeCycle) : (s.setPurge p).evac = s.evac := rfl
@[simp] theorem State.setPurge_bay (p : Option PurgeCycle) : (s.setPurge p).bay = s.bay := rfl
@[simp] theorem State.setPurge_doors (p : Option PurgeCycle) : (s.setPurge p).doors = s.doors := rfl
@[simp] theorem State.setPurge_office (p : Option PurgeCycle) : (s.setPurge p).office = s.office := rfl
@[simp] theorem State.setPurge_link (p : Option PurgeCycle) : (s.setPurge p).link = s.link := rfl

/-! ### `State.setContainer` -/

@[simp] theorem State.setContainer_pending (n : Nat) (r : Option ContRec) : (s.setContainer n r).pending =
    s.pending := rfl
@[simp] theorem State.setContainer_powered (n : Nat) (r : Option ContRec) : (s.setContainer n r).powered =
    s.powered := rfl
@[simp] theorem State.setContainer_book (n : Nat) (r : Option ContRec) : (s.setContainer n r).book = s.book := rfl
@[simp] theorem State.setContainer_desk (n : Nat) (r : Option ContRec) : (s.setContainer n r).desk = s.desk := rfl
@[simp] theorem State.setContainer_count (n : Nat) (r : Option ContRec) : (s.setContainer n r).count = s.count := rfl
@[simp] theorem State.setContainer_line (n : Nat) (r : Option ContRec) : (s.setContainer n r).line = s.line := rfl
@[simp] theorem State.setContainer_recycler (n : Nat) (r : Option ContRec) : (s.setContainer n r).recycler =
    s.recycler := rfl
@[simp] theorem State.setContainer_arbiter (n : Nat) (r : Option ContRec) : (s.setContainer n r).arbiter =
    s.arbiter := rfl
@[simp] theorem State.setContainer_evac (n : Nat) (r : Option ContRec) : (s.setContainer n r).evac = s.evac := rfl
@[simp] theorem State.setContainer_bay (n : Nat) (r : Option ContRec) : (s.setContainer n r).bay =
    { s.bay with containers := s.bay.containers.set n r } := rfl
@[simp] theorem State.setContainer_doors (n : Nat) (r : Option ContRec) : (s.setContainer n r).doors = s.doors := rfl
@[simp] theorem State.setContainer_office (n : Nat) (r : Option ContRec) : (s.setContainer n r).office =
    s.office := rfl
@[simp] theorem State.setContainer_link (n : Nat) (r : Option ContRec) : (s.setContainer n r).link = s.link := rfl

/-! ### `State.setConsignment` -/

@[simp] theorem State.setConsignment_pending (k : Nat) (r : Option ConsRec) : (s.setConsignment k r).pending =
    s.pending := rfl
@[simp] theorem State.setConsignment_powered (k : Nat) (r : Option ConsRec) : (s.setConsignment k r).powered =
    s.powered := rfl
@[simp] theorem State.setConsignment_book (k : Nat) (r : Option ConsRec) : (s.setConsignment k r).book = s.book := rfl
@[simp] theorem State.setConsignment_desk (k : Nat) (r : Option ConsRec) : (s.setConsignment k r).desk = s.desk := rfl
@[simp] theorem State.setConsignment_count (k : Nat) (r : Option ConsRec) : (s.setConsignment k r).count =
    s.count := rfl
@[simp] theorem State.setConsignment_line (k : Nat) (r : Option ConsRec) : (s.setConsignment k r).line = s.line := rfl
@[simp] theorem State.setConsignment_recycler (k : Nat) (r : Option ConsRec) : (s.setConsignment k r).recycler =
    s.recycler := rfl
@[simp] theorem State.setConsignment_arbiter (k : Nat) (r : Option ConsRec) : (s.setConsignment k r).arbiter =
    s.arbiter := rfl
@[simp] theorem State.setConsignment_evac (k : Nat) (r : Option ConsRec) : (s.setConsignment k r).evac = s.evac := rfl
@[simp] theorem State.setConsignment_bay (k : Nat) (r : Option ConsRec) : (s.setConsignment k r).bay =
    { s.bay with consignments := s.bay.consignments.set k r } := rfl
@[simp] theorem State.setConsignment_doors (k : Nat) (r : Option ConsRec) : (s.setConsignment k r).doors =
    s.doors := rfl
@[simp] theorem State.setConsignment_office (k : Nat) (r : Option ConsRec) : (s.setConsignment k r).office =
    s.office := rfl
@[simp] theorem State.setConsignment_link (k : Nat) (r : Option ConsRec) : (s.setConsignment k r).link = s.link := rfl

/-! ### `State.setSafe` -/

@[simp] theorem State.setSafe_pending (d : Safe) : (s.setSafe d).pending = s.pending := rfl
@[simp] theorem State.setSafe_powered (d : Safe) : (s.setSafe d).powered = s.powered := rfl
@[simp] theorem State.setSafe_book (d : Safe) : (s.setSafe d).book = s.book := rfl
@[simp] theorem State.setSafe_desk (d : Safe) : (s.setSafe d).desk = s.desk := rfl
@[simp] theorem State.setSafe_count (d : Safe) : (s.setSafe d).count = s.count := rfl
@[simp] theorem State.setSafe_line (d : Safe) : (s.setSafe d).line = s.line := rfl
@[simp] theorem State.setSafe_recycler (d : Safe) : (s.setSafe d).recycler = s.recycler := rfl
@[simp] theorem State.setSafe_arbiter (d : Safe) : (s.setSafe d).arbiter = s.arbiter := rfl
@[simp] theorem State.setSafe_evac (d : Safe) : (s.setSafe d).evac = s.evac := rfl
@[simp] theorem State.setSafe_bay (d : Safe) : (s.setSafe d).bay = s.bay := rfl
@[simp] theorem State.setSafe_doors (d : Safe) : (s.setSafe d).doors = s.doors := rfl
@[simp] theorem State.setSafe_office (d : Safe) : (s.setSafe d).office = { s.office with safe := d } := rfl
@[simp] theorem State.setSafe_link (d : Safe) : (s.setSafe d).link = s.link := rfl

/-! ### `State.setMode` -/

@[simp] theorem State.setMode_pending (m : Mode) : (s.setMode m).pending = s.pending := rfl
@[simp] theorem State.setMode_powered (m : Mode) : (s.setMode m).powered = s.powered := rfl
@[simp] theorem State.setMode_book (m : Mode) : (s.setMode m).book = s.book := rfl
@[simp] theorem State.setMode_desk (m : Mode) : (s.setMode m).desk = s.desk := rfl
@[simp] theorem State.setMode_count (m : Mode) : (s.setMode m).count = s.count := rfl
@[simp] theorem State.setMode_line (m : Mode) : (s.setMode m).line = s.line := rfl
@[simp] theorem State.setMode_recycler (m : Mode) : (s.setMode m).recycler = s.recycler := rfl
@[simp] theorem State.setMode_arbiter (m : Mode) : (s.setMode m).arbiter = s.arbiter := rfl
@[simp] theorem State.setMode_evac (m : Mode) : (s.setMode m).evac = s.evac := rfl
@[simp] theorem State.setMode_bay (m : Mode) : (s.setMode m).bay = s.bay := rfl
@[simp] theorem State.setMode_doors (m : Mode) : (s.setMode m).doors = s.doors := rfl
@[simp] theorem State.setMode_office (m : Mode) : (s.setMode m).office = { s.office with mode := m } := rfl
@[simp] theorem State.setMode_link (m : Mode) : (s.setMode m).link = s.link := rfl

/-! ### `State.setClock` -/

@[simp] theorem State.setClock_pending (n : Nat) : (s.setClock n).pending = s.pending := rfl
@[simp] theorem State.setClock_powered (n : Nat) : (s.setClock n).powered = s.powered := rfl
@[simp] theorem State.setClock_book (n : Nat) : (s.setClock n).book = s.book := rfl
@[simp] theorem State.setClock_desk (n : Nat) : (s.setClock n).desk = s.desk := rfl
@[simp] theorem State.setClock_count (n : Nat) : (s.setClock n).count = s.count := rfl
@[simp] theorem State.setClock_line (n : Nat) : (s.setClock n).line = s.line := rfl
@[simp] theorem State.setClock_recycler (n : Nat) : (s.setClock n).recycler = s.recycler := rfl
@[simp] theorem State.setClock_arbiter (n : Nat) : (s.setClock n).arbiter = s.arbiter := rfl
@[simp] theorem State.setClock_evac (n : Nat) : (s.setClock n).evac = s.evac := rfl
@[simp] theorem State.setClock_bay (n : Nat) : (s.setClock n).bay = s.bay := rfl
@[simp] theorem State.setClock_doors (n : Nat) : (s.setClock n).doors = s.doors := rfl
@[simp] theorem State.setClock_office (n : Nat) : (s.setClock n).office = { s.office with clock := n } := rfl
@[simp] theorem State.setClock_link (n : Nat) : (s.setClock n).link = s.link := rfl

/-! ### `State.setRoster` -/

@[simp] theorem State.setRoster_pending (i : Nat) (e : Option RosterEntry) : (s.setRoster i e).pending =
    s.pending := rfl
@[simp] theorem State.setRoster_powered (i : Nat) (e : Option RosterEntry) : (s.setRoster i e).powered =
    s.powered := rfl
@[simp] theorem State.setRoster_book (i : Nat) (e : Option RosterEntry) : (s.setRoster i e).book = s.book := rfl
@[simp] theorem State.setRoster_desk (i : Nat) (e : Option RosterEntry) : (s.setRoster i e).desk = s.desk := rfl
@[simp] theorem State.setRoster_count (i : Nat) (e : Option RosterEntry) : (s.setRoster i e).count = s.count := rfl
@[simp] theorem State.setRoster_line (i : Nat) (e : Option RosterEntry) : (s.setRoster i e).line = s.line := rfl
@[simp] theorem State.setRoster_recycler (i : Nat) (e : Option RosterEntry) : (s.setRoster i e).recycler =
    s.recycler := rfl
@[simp] theorem State.setRoster_arbiter (i : Nat) (e : Option RosterEntry) : (s.setRoster i e).arbiter =
    s.arbiter := rfl
@[simp] theorem State.setRoster_evac (i : Nat) (e : Option RosterEntry) : (s.setRoster i e).evac = s.evac := rfl
@[simp] theorem State.setRoster_bay (i : Nat) (e : Option RosterEntry) : (s.setRoster i e).bay = s.bay := rfl
@[simp] theorem State.setRoster_doors (i : Nat) (e : Option RosterEntry) : (s.setRoster i e).doors = s.doors := rfl
@[simp] theorem State.setRoster_office (i : Nat) (e : Option RosterEntry) : (s.setRoster i e).office =
    { s.office with roster := s.office.roster.set i e } := rfl
@[simp] theorem State.setRoster_link (i : Nat) (e : Option RosterEntry) : (s.setRoster i e).link = s.link := rfl

/-! ### `State.setArbiter` -/

@[simp] theorem State.setArbiter_pending (a : Arbiter) : (s.setArbiter a).pending = s.pending := rfl
@[simp] theorem State.setArbiter_powered (a : Arbiter) : (s.setArbiter a).powered = s.powered := rfl
@[simp] theorem State.setArbiter_book (a : Arbiter) : (s.setArbiter a).book = s.book := rfl
@[simp] theorem State.setArbiter_desk (a : Arbiter) : (s.setArbiter a).desk = s.desk := rfl
@[simp] theorem State.setArbiter_count (a : Arbiter) : (s.setArbiter a).count = s.count := rfl
@[simp] theorem State.setArbiter_line (a : Arbiter) : (s.setArbiter a).line = s.line := rfl
@[simp] theorem State.setArbiter_recycler (a : Arbiter) : (s.setArbiter a).recycler = s.recycler := rfl
@[simp] theorem State.setArbiter_arbiter (a : Arbiter) : (s.setArbiter a).arbiter = a := rfl
@[simp] theorem State.setArbiter_evac (a : Arbiter) : (s.setArbiter a).evac = s.evac := rfl
@[simp] theorem State.setArbiter_bay (a : Arbiter) : (s.setArbiter a).bay = s.bay := rfl
@[simp] theorem State.setArbiter_doors (a : Arbiter) : (s.setArbiter a).doors = s.doors := rfl
@[simp] theorem State.setArbiter_office (a : Arbiter) : (s.setArbiter a).office = s.office := rfl
@[simp] theorem State.setArbiter_link (a : Arbiter) : (s.setArbiter a).link = s.link := rfl

/-! ### `State.setEvac` -/

@[simp] theorem State.setEvac_pending (e : Evacuation) : (s.setEvac e).pending = s.pending := rfl
@[simp] theorem State.setEvac_powered (e : Evacuation) : (s.setEvac e).powered = s.powered := rfl
@[simp] theorem State.setEvac_book (e : Evacuation) : (s.setEvac e).book = s.book := rfl
@[simp] theorem State.setEvac_desk (e : Evacuation) : (s.setEvac e).desk = s.desk := rfl
@[simp] theorem State.setEvac_count (e : Evacuation) : (s.setEvac e).count = s.count := rfl
@[simp] theorem State.setEvac_line (e : Evacuation) : (s.setEvac e).line = s.line := rfl
@[simp] theorem State.setEvac_recycler (e : Evacuation) : (s.setEvac e).recycler = s.recycler := rfl
@[simp] theorem State.setEvac_arbiter (e : Evacuation) : (s.setEvac e).arbiter = s.arbiter := rfl
@[simp] theorem State.setEvac_evac (e : Evacuation) : (s.setEvac e).evac = e := rfl
@[simp] theorem State.setEvac_bay (e : Evacuation) : (s.setEvac e).bay = s.bay := rfl
@[simp] theorem State.setEvac_doors (e : Evacuation) : (s.setEvac e).doors = s.doors := rfl
@[simp] theorem State.setEvac_office (e : Evacuation) : (s.setEvac e).office = s.office := rfl
@[simp] theorem State.setEvac_link (e : Evacuation) : (s.setEvac e).link = s.link := rfl

/-! ### `State.setDoors` -/

@[simp] theorem State.setDoors_pending (d : Doors) : (s.setDoors d).pending = s.pending := rfl
@[simp] theorem State.setDoors_powered (d : Doors) : (s.setDoors d).powered = s.powered := rfl
@[simp] theorem State.setDoors_book (d : Doors) : (s.setDoors d).book = s.book := rfl
@[simp] theorem State.setDoors_desk (d : Doors) : (s.setDoors d).desk = s.desk := rfl
@[simp] theorem State.setDoors_count (d : Doors) : (s.setDoors d).count = s.count := rfl
@[simp] theorem State.setDoors_line (d : Doors) : (s.setDoors d).line = s.line := rfl
@[simp] theorem State.setDoors_recycler (d : Doors) : (s.setDoors d).recycler = s.recycler := rfl
@[simp] theorem State.setDoors_arbiter (d : Doors) : (s.setDoors d).arbiter = s.arbiter := rfl
@[simp] theorem State.setDoors_evac (d : Doors) : (s.setDoors d).evac = s.evac := rfl
@[simp] theorem State.setDoors_bay (d : Doors) : (s.setDoors d).bay = s.bay := rfl
@[simp] theorem State.setDoors_doors (d : Doors) : (s.setDoors d).doors = d := rfl
@[simp] theorem State.setDoors_office (d : Doors) : (s.setDoors d).office = s.office := rfl
@[simp] theorem State.setDoors_link (d : Doors) : (s.setDoors d).link = s.link := rfl

/-! ### `State.setLine` -/

@[simp] theorem State.setLine_pending (l : Line) : (s.setLine l).pending = s.pending := rfl
@[simp] theorem State.setLine_powered (l : Line) : (s.setLine l).powered = s.powered := rfl
@[simp] theorem State.setLine_book (l : Line) : (s.setLine l).book = s.book := rfl
@[simp] theorem State.setLine_desk (l : Line) : (s.setLine l).desk = s.desk := rfl
@[simp] theorem State.setLine_count (l : Line) : (s.setLine l).count = s.count := rfl
@[simp] theorem State.setLine_line (l : Line) : (s.setLine l).line = l := rfl
@[simp] theorem State.setLine_recycler (l : Line) : (s.setLine l).recycler = s.recycler := rfl
@[simp] theorem State.setLine_arbiter (l : Line) : (s.setLine l).arbiter = s.arbiter := rfl
@[simp] theorem State.setLine_evac (l : Line) : (s.setLine l).evac = s.evac := rfl
@[simp] theorem State.setLine_bay (l : Line) : (s.setLine l).bay = s.bay := rfl
@[simp] theorem State.setLine_doors (l : Line) : (s.setLine l).doors = s.doors := rfl
@[simp] theorem State.setLine_office (l : Line) : (s.setLine l).office = s.office := rfl
@[simp] theorem State.setLine_link (l : Line) : (s.setLine l).link = s.link := rfl

/-! ### `heard` -/

@[simp] theorem heard_pending : (heard s).pending = s.pending := rfl
@[simp] theorem heard_powered : (heard s).powered = s.powered := rfl
@[simp] theorem heard_book : (heard s).book = s.book := rfl
@[simp] theorem heard_desk : (heard s).desk = s.desk := rfl
@[simp] theorem heard_count : (heard s).count = s.count := rfl
@[simp] theorem heard_line : (heard s).line = s.line := rfl
@[simp] theorem heard_recycler : (heard s).recycler = s.recycler := rfl
@[simp] theorem heard_arbiter : (heard s).arbiter = s.arbiter := rfl
@[simp] theorem heard_evac : (heard s).evac = s.evac := rfl
@[simp] theorem heard_bay : (heard s).bay = s.bay := rfl
@[simp] theorem heard_doors : (heard s).doors = s.doors := rfl
@[simp] theorem heard_office : (heard s).office = s.office := rfl
@[simp] theorem heard_link : (heard s).link = { s.link with receiver := .hunting } := rfl

end Sys2Proof.Machine
end

