-- ==== Sys2Proof/Laws/Word.lean ====
section
/-! SUPPORT. Reading after writing in a table, and in counts and marks. -/

namespace Sys2Proof

variable {n : Nat} {α : Type}

/-- The entry written is read back. -/
@[simp] theorem Tab.get_set_self (d : α) (t : Tab n α) (i : Nat) (a : α) (h : i < n) : (t.set i a).get d i = a := by
  have : i < t.list.length := by rw [t.size]; exact h
  simp [Tab.get, Tab.set, List.getD, this]

/-- Every other entry reads as before. -/
theorem Tab.get_set_ne (d : α) (t : Tab n α) (i j : Nat) (a : α) (h : i ≠ j) : (t.set i a).get d j = t.get d j := by
  simp [Tab.get, Tab.set, List.getD, h]

/-- A write outside the table changes nothing. -/
theorem Tab.set_out (t : Tab n α) (i : Nat) (a : α) (h : n ≤ i) : t.set i a = t := by
  have h' : t.list.length ≤ i := by rw [t.size]; exact h
  rcases t with ⟨l, hl⟩
  simp only [Tab.set, Tab.mk.injEq]
  exact List.set_eq_of_length_le h'

/-- Reading outside the table gives the default. -/
theorem Tab.get_out (d : α) (t : Tab n α) (i : Nat) (h : n ≤ i) : t.get d i = d := by
  have h' : t.list.length ≤ i := by rw [t.size]; exact h
  simp [Tab.get, List.getD, h']

/-- A filled table reads the same everywhere inside. -/
@[simp] theorem Tab.get_fill (d a : α) (i : Nat) (h : i < n) : (Tab.fill n a).get d i = a := by
  simp [Tab.get, Tab.fill, List.getD, h]

/-- What holds of every entry of the list holds of every entry read, and the other way round. -/
theorem Tab.forall_list (d : α) (t : Tab n α) (P : α → Prop) : (∀ x ∈ t.list, P x) ↔ ∀ i < n, P (t.get d i) := by
  constructor
  · intro h i hi
    have : i < t.list.length := by rw [t.size]; exact hi
    simpa only [Tab.get, List.getD_eq_getElem _ _ this] using h _ (List.getElem_mem this)
  · intro h x hx
    obtain ⟨i, hi, rfl⟩ := List.getElem_of_mem hx
    simpa only [Tab.get, List.getD_eq_getElem _ _ hi] using h i (by rw [← t.size]; exact hi)

/-- The count just put is read back. -/
@[simp] theorem Counts.of_put_self (c : Counts) (d k : Nat) (h : d < 12) : Counts.of (Counts.put c d k) d = k :=
  Tab.get_set_self 0 c d k h

/-- Every other count reads as before. -/
theorem Counts.of_put_ne (c : Counts) (d e k : Nat) (h : d ≠ e) : Counts.of (Counts.put c d k) e = Counts.of c e :=
  Tab.get_set_ne 0 c d e k h

/-- A count of no denomination of the table is 0. -/
theorem Counts.of_out (c : Counts) (d : Nat) (h : 12 ≤ d) : Counts.of c d = 0 := Tab.get_out 0 c d h

/-- `plus` raises its denomination. -/
theorem Counts.of_plus_self (c : Counts) (d k : Nat) (h : d < 12) : Counts.of (Counts.plus c d k) d = Counts.of c d + k :=
  Counts.of_put_self c d _ h

/-- `plus` leaves the other denominations. -/
theorem Counts.of_plus_ne (c : Counts) (d e k : Nat) (h : d ≠ e) : Counts.of (Counts.plus c d k) e = Counts.of c e :=
  Counts.of_put_ne c d e _ h

/-- `minus` lowers its denomination. -/
theorem Counts.of_minus_self (c : Counts) (d k : Nat) (h : d < 12) :
    Counts.of (Counts.minus c d k) d = Counts.of c d - k :=
  Counts.of_put_self c d _ h

/-- `minus` leaves the other denominations. -/
theorem Counts.of_minus_ne (c : Counts) (d e k : Nat) (h : d ≠ e) : Counts.of (Counts.minus c d k) e = Counts.of c e :=
  Counts.of_put_ne c d e _ h

end Sys2Proof
end

