-- ==== Sys2Proof/Laws/Ops.lean ====
section
/-! SUPPORT. What each shared operation can do, said once: records read after they are written, notices, the transmitter,
the gate of requests and events, a fault handed over, and the reactions of `settle`. -/

namespace Sys2Proof.Machine

/-! ### Records read after they are written -/

@[simp] theorem posRec_setPosRec_self (s : State) (i : Nat) (r : PosRec) (h : i < 177) : (s.setPosRec i r).posRec i = r :=
  Tab.get_set_self _ _ i r h

theorem posRec_setPosRec_ne (s : State) (i j : Nat) (r : PosRec) (h : i ≠ j) : (s.setPosRec i r).posRec j = s.posRec j :=
  Tab.get_set_ne _ _ i j r h

@[simp] theorem till_setTill_self (s : State) (i : Nat) (r : TillRec) (h : i < 256) : (s.setTill i r).till i = r :=
  Tab.get_set_self _ _ i r h

theorem till_setTill_ne (s : State) (i j : Nat) (r : TillRec) (h : i ≠ j) : (s.setTill i r).till j = s.till j :=
  Tab.get_set_ne _ _ i j r h

@[simp] theorem build_setBuild_self (s : State) (i : Nat) (r : Option Build) (h : i < 4) : (s.setBuild i r).build i = r :=
  Tab.get_set_self _ _ i r h

theorem build_setBuild_ne (s : State) (i j : Nat) (r : Option Build) (h : i ≠ j) : (s.setBuild i r).build j = s.build j :=
  Tab.get_set_ne _ _ i j r h

@[simp] theorem lot_setLot_self (s : State) (i : Nat) (r : Option LotRec) (h : i < 64) : (s.setLot i r).lot i = r :=
  Tab.get_set_self _ _ i r h

theorem lot_setLot_ne (s : State) (i j : Nat) (r : Option LotRec) (h : i ≠ j) : (s.setLot i r).lot j = s.lot j :=
  Tab.get_set_ne _ _ i j r h

@[simp] theorem module_setModRec_self (s : State) (i : Nat) (r : ModRec) (h : i < 2) : (s.setModRec i r).module i = r :=
  Tab.get_set_self _ _ i r h

theorem module_setModRec_ne (s : State) (i j : Nat) (r : ModRec) (h : i ≠ j) : (s.setModRec i r).module j = s.module j :=
  Tab.get_set_ne _ _ i j r h

@[simp] theorem cassette_setCassette_self (s : State) (i : Nat) (r : CasRec) (h : i < 12) : (s.setCassette i r).cassette i = r :=
  Tab.get_set_self _ _ i r h

theorem cassette_setCassette_ne (s : State) (i j : Nat) (r : CasRec) (h : i ≠ j) : (s.setCassette i r).cassette j = s.cassette j :=
  Tab.get_set_ne _ _ i j r h

@[simp] theorem ranges_setRanges_self (s : State) (i : Nat) (r : List Range) (h : i < 12) : (s.setRanges i r).ranges i = r :=
  Tab.get_set_self _ _ i r h

theorem ranges_setRanges_ne (s : State) (i j : Nat) (r : List Range) (h : i ≠ j) : (s.setRanges i r).ranges j = s.ranges j :=
  Tab.get_set_ne _ _ i j r h

@[simp] theorem container_setContainer_self (s : State) (i : Nat) (r : Option ContRec) (h : i < 96) : (s.setContainer i r).container i = r :=
  Tab.get_set_self _ _ i r h

theorem container_setContainer_ne (s : State) (i j : Nat) (r : Option ContRec) (h : i ≠ j) : (s.setContainer i r).container j = s.container j :=
  Tab.get_set_ne _ _ i j r h

@[simp] theorem consignment_setConsignment_self (s : State) (i : Nat) (r : Option ConsRec) (h : i < 8) : (s.setConsignment i r).consignment i = r :=
  Tab.get_set_self _ _ i r h

theorem consignment_setConsignment_ne (s : State) (i j : Nat) (r : Option ConsRec) (h : i ≠ j) : (s.setConsignment i r).consignment j = s.consignment j :=
  Tab.get_set_ne _ _ i j r h

@[simp] theorem denom_setDenom_self (s : State) (i : Nat) (r : DenomRec) (h : i < 12) : (s.setDenom i r).denom i = r :=
  Tab.get_set_self _ _ i r h

theorem denom_setDenom_ne (s : State) (i j : Nat) (r : DenomRec) (h : i ≠ j) : (s.setDenom i r).denom j = s.denom j :=
  Tab.get_set_ne _ _ i j r h

@[simp] theorem station_setStation_self (s : State) (n : Nat) (r : StationRec) (h : n - 1 < 4) :
    (s.setStation n r).station n = r :=
  Tab.get_set_self _ _ (n - 1) r h

theorem station_setStation_ne (s : State) (n k : Nat) (r : StationRec) (h : n - 1 ≠ k - 1) :
    (s.setStation n r).station k = s.station k :=
  Tab.get_set_ne _ _ (n - 1) (k - 1) r h

/-! ### Notices, R206 -/

@[simp] theorem notify_pending (b : NoticeBody) (s : State) : (notify b s).pending = s.pending := by
  unfold notify; split <;> rfl

@[simp] theorem notify_powered (b : NoticeBody) (s : State) : (notify b s).powered = s.powered := by
  unfold notify; split <;> rfl

@[simp] theorem notify_book (b : NoticeBody) (s : State) : (notify b s).book = s.book := by
  unfold notify; split <;> rfl

@[simp] theorem notify_desk (b : NoticeBody) (s : State) : (notify b s).desk = s.desk := by
  unfold notify; split <;> rfl

@[simp] theorem notify_count (b : NoticeBody) (s : State) : (notify b s).count = s.count := by
  unfold notify; split <;> rfl

@[simp] theorem notify_line (b : NoticeBody) (s : State) : (notify b s).line = s.line := by
  unfold notify; split <;> rfl

@[simp] theorem notify_recycler (b : NoticeBody) (s : State) : (notify b s).recycler = s.recycler := by
  unfold notify; split <;> rfl

@[simp] theorem notify_arbiter (b : NoticeBody) (s : State) : (notify b s).arbiter = s.arbiter := by
  unfold notify; split <;> rfl

@[simp] theorem notify_evac (b : NoticeBody) (s : State) : (notify b s).evac = s.evac := by
  unfold notify; split <;> rfl

@[simp] theorem notify_bay (b : NoticeBody) (s : State) : (notify b s).bay = s.bay := by
  unfold notify; split <;> rfl

@[simp] theorem notify_doors (b : NoticeBody) (s : State) : (notify b s).doors = s.doors := by
  unfold notify; split <;> rfl

@[simp] theorem notify_office (b : NoticeBody) (s : State) : (notify b s).office = s.office := by
  unfold notify; split <;> rfl

/-- A notice that arises takes the next number, whether it is queued or lost. -/
theorem notify_noticeNumber (b : NoticeBody) (s : State) :
    (notify b s).link.noticeNumber = nextNumber Config.maxNoticeNumber s.link.noticeNumber := by
  unfold notify; split <;> rfl

/-- With room in the queue the notice joins its tail. -/
theorem notify_room (b : NoticeBody) (s : State) (h : s.link.notices.length < Config.noticeCap) :
    (notify b s).link = { s.link with
      notices := s.link.notices ++ [⟨nextNumber Config.maxNoticeNumber s.link.noticeNumber, s.clock, b⟩]
      noticeNumber := nextNumber Config.maxNoticeNumber s.link.noticeNumber } := by
  simp [notify, h]

/-- With 32 notices held the notice is lost and NOTICE_LOST set. -/
theorem notify_full (b : NoticeBody) (s : State) (h : Config.noticeCap ≤ s.link.notices.length) :
    (notify b s).link = { s.link with
      noticeNumber := nextNumber Config.maxNoticeNumber s.link.noticeNumber, noticeLost := true } := by
  simp [notify, Nat.not_lt.mpr h]

/-- A notice leaves the rest of the link unit. -/
theorem notify_gate (b : NoticeBody) (s : State) :
    (notify b s).link.inHand = s.link.inHand ∧ (notify b s).link.owed = s.link.owed ∧
      (notify b s).link.onLine = s.link.onLine ∧ (notify b s).link.lastSent = s.link.lastSent ∧
      (notify b s).link.receiver = s.link.receiver ∧ (notify b s).link.stopping = s.link.stopping := by
  unfold notify; split <;> simp

/-- The notice queue keeps its bound. -/
theorem notify_notices_le (b : NoticeBody) (s : State) (h : s.link.notices.length ≤ Config.noticeCap) :
    (notify b s).link.notices.length ≤ Config.noticeCap := by
  unfold notify
  split
  · simp only [List.length_append, List.length_singleton]; omega
  · exact h

/-! ### The transmitter, R204 -/

@[simp] theorem transmit_pending (s : State) : (transmit s).pending = s.pending := by
  unfold transmit; split <;> rfl

@[simp] theorem transmit_powered (s : State) : (transmit s).powered = s.powered := by
  unfold transmit; split <;> rfl

@[simp] theorem transmit_book (s : State) : (transmit s).book = s.book := by
  unfold transmit; split <;> rfl

@[simp] theorem transmit_desk (s : State) : (transmit s).desk = s.desk := by
  unfold transmit; split <;> rfl

@[simp] theorem transmit_count (s : State) : (transmit s).count = s.count := by
  unfold transmit; split <;> rfl

@[simp] theorem transmit_line (s : State) : (transmit s).line = s.line := by
  unfold transmit; split <;> rfl

@[simp] theorem transmit_recycler (s : State) : (transmit s).recycler = s.recycler := by
  unfold transmit; split <;> rfl

@[simp] theorem transmit_arbiter (s : State) : (transmit s).arbiter = s.arbiter := by
  unfold transmit; split <;> rfl

@[simp] theorem transmit_evac (s : State) : (transmit s).evac = s.evac := by
  unfold transmit; split <;> rfl

@[simp] theorem transmit_bay (s : State) : (transmit s).bay = s.bay := by
  unfold transmit; split <;> rfl

@[simp] theorem transmit_doors (s : State) : (transmit s).doors = s.doors := by
  unfold transmit; split <;> rfl

@[simp] theorem transmit_office (s : State) : (transmit s).office = s.office := by
  unfold transmit; split <;> rfl

/-- A transmitter that is sending goes on. -/
theorem transmit_busy (s : State) (f : Frame) (h : s.link.onLine = some f) : transmit s = s := by
  simp [transmit, h]

/-- A free transmitter takes the next frame. -/
theorem transmit_free (s : State) (h : s.link.onLine = none) :
    transmit s = { s with link := { s.link with onLine := nextFrame s.link } } := by
  simp [transmit, h]

/-- The transmitter's choice changes nothing of the link but the frame on the line. -/
theorem transmit_gate (s : State) :
    (transmit s).link.inHand = s.link.inHand ∧ (transmit s).link.owed = s.link.owed ∧
      (transmit s).link.notices = s.link.notices ∧ (transmit s).link.noticeNumber = s.link.noticeNumber ∧
      (transmit s).link.noticeLost = s.link.noticeLost ∧ (transmit s).link.lastSent = s.link.lastSent ∧
      (transmit s).link.receiver = s.link.receiver ∧ (transmit s).link.stopping = s.link.stopping := by
  unfold transmit; split <;> simp

/-! ### The gate, R203 -/

/-- Owing a LINK_BUSY reply changes nothing but the link. -/
theorem owe_state (code tag : Nat) (s : State) : ∃ l, owe code tag s = { s with link := l } := by
  unfold owe
  split
  · cases h : s.link.onLine <;> simp [transmit, h]
  · exact ⟨s.link, rfl⟩

/-- A reply formed changes nothing but the link. -/
theorem respond_state (code tag : Nat) (r : Reply) (s : State) : ∃ l, respond code tag r s = { s with link := l } := by
  unfold respond
  cases h : s.link.onLine <;> simp [transmit, h]

/-- The reply formed is the request's in hand. -/
theorem respond_inHand (code tag : Nat) (r : Reply) (s : State) :
    (respond code tag r s).link.inHand = some ⟨code, tag, r, s.link.owed.length, none⟩ := by
  unfold respond
  cases h : s.link.onLine <;> simp [transmit, h]

variable {α : Type}

/-- Without power nothing is received. -/
theorem request_off (code tag : Nat) (b : Body α) (f : α → State → Reply × State) (s : State)
    (h : s.powered = false) : request code tag b f s = s := by
  simp [request, h]

/-- While a request is in hand, another is owed LINK_BUSY. -/
theorem request_busy (code tag : Nat) (b : Body α) (f : α → State → Reply × State) (s : State) (x : InHand)
    (h : s.powered = true) (hx : s.link.inHand = some x) : request code tag b f s = owe code tag (heard s) := by
  simp [request, h, hx]

/-- After the OK reply of a RESTART a request is dropped (R210). -/
theorem request_stopping (code tag : Nat) (b : Body α) (f : α → State → Reply × State) (s : State)
    (h : s.powered = true) (hn : s.link.inHand = none) (hs : s.link.stopping = true) :
    request code tag b f s = heard s := by
  simp [request, h, hn, hs]

/-- A body that does not decode is answered BAD_FIELD. -/
theorem request_bad (code tag : Nat) (f : α → State → Reply × State) (s : State)
    (h : s.powered = true) (hn : s.link.inHand = none) (hs : s.link.stopping = false) :
    request code tag .bad f s = respond code tag (refusal .badField) (heard s) := by
  simp [request, h, hn, hs]

/-- Otherwise the block's outcome is the reply. -/
theorem request_good (code tag : Nat) (a : α) (f : α → State → Reply × State) (s : State)
    (h : s.powered = true) (hn : s.link.inHand = none) (hs : s.link.stopping = false) :
    request code tag (.good a) f s = respond code tag (f a (heard s)).1 (f a (heard s)).2 := by
  simp [request, h, hn, hs]

/-- All a request can come to. -/
theorem request_cases (code tag : Nat) (b : Body α) (f : α → State → Reply × State) (s : State) :
    (s.powered = false ∧ request code tag b f s = s) ∨
    (s.powered = true ∧ (∃ x, s.link.inHand = some x) ∧ request code tag b f s = owe code tag (heard s)) ∨
    (s.powered = true ∧ s.link.inHand = none ∧ s.link.stopping = true ∧ request code tag b f s = heard s) ∨
    (s.powered = true ∧ s.link.inHand = none ∧ s.link.stopping = false ∧ b = .bad ∧
      request code tag b f s = respond code tag (refusal .badField) (heard s)) ∨
    (s.powered = true ∧ s.link.inHand = none ∧ s.link.stopping = false ∧ ∃ a, b = .good a ∧
      request code tag b f s = respond code tag (f a (heard s)).1 (f a (heard s)).2) := by
  cases hp : s.powered with
  | false => exact .inl ⟨rfl, request_off code tag b f s hp⟩
  | true =>
    cases hi : s.link.inHand with
    | some x => exact .inr (.inl ⟨rfl, ⟨x, rfl⟩, request_busy code tag b f s x hp hi⟩)
    | none =>
      cases hs : s.link.stopping with
      | true => exact .inr (.inr (.inl ⟨rfl, rfl, rfl, request_stopping code tag b f s hp hi hs⟩))
      | false =>
        cases b with
        | bad => exact .inr (.inr (.inr (.inl ⟨rfl, rfl, rfl, rfl, request_bad code tag f s hp hi hs⟩)))
        | good a => exact .inr (.inr (.inr (.inr ⟨rfl, rfl, rfl, a, rfl, request_good code tag a f s hp hi hs⟩)))

/-- Without power an event changes nothing. -/
theorem event_off (f : State → State) (s : State) (h : s.powered = false) : event f s = s := by simp [event, h]

/-- With power an event acts, and the transmitter chooses its frame. -/
theorem event_on (f : State → State) (s : State) (h : s.powered = true) : event f s = transmit (f s) := by
  simp [event, h]

/-! ### The link that stops for a RESTART, R210 -/

/-- A reply other than a RESTART's OK does not stop the link. -/
theorem restartSent_other (code : Nat) (st : Status) (s : State) (h : code ≠ 113 ∨ st ≠ .ok) : restartSent code st s = s := by
  rw [restartSent, if_neg fun hc => h.elim (· hc.1) (· hc.2)]

/-- All that the end of a frame brings about at a link that may be stopping. -/
theorem stopLink_cases (s : State) :
    (s.link.stopping = true ∧ s.link.owed = [] ∧ stopLink s = startFrom true true (fun m => (s.module m).state) s) ∨
    ((s.link.stopping = false ∨ s.link.owed ≠ []) ∧ stopLink s = s) := by
  unfold stopLink
  split
  · rename_i h; exact .inl ⟨h.1, h.2, rfl⟩
  · rename_i h
    refine .inr ⟨?_, rfl⟩
    cases hs : s.link.stopping
    · exact .inl rfl
    · exact .inr fun ho => h ⟨hs, ho⟩

/-! ### Faults handed over, R200 -/

@[simp] theorem handFault_pending (x : FaultSource) (k : FaultKind) (s : State) : (handFault x k s).pending = s.pending := rfl
@[simp] theorem handFault_powered (x : FaultSource) (k : FaultKind) (s : State) : (handFault x k s).powered = s.powered := rfl
@[simp] theorem handFault_book (x : FaultSource) (k : FaultKind) (s : State) : (handFault x k s).book = s.book := rfl
@[simp] theorem handFault_desk (x : FaultSource) (k : FaultKind) (s : State) : (handFault x k s).desk = s.desk := rfl
@[simp] theorem handFault_count (x : FaultSource) (k : FaultKind) (s : State) : (handFault x k s).count = s.count := rfl
@[simp] theorem handFault_line (x : FaultSource) (k : FaultKind) (s : State) : (handFault x k s).line = s.line := rfl
@[simp] theorem handFault_recycler (x : FaultSource) (k : FaultKind) (s : State) : (handFault x k s).recycler = s.recycler := rfl
@[simp] theorem handFault_arbiter (x : FaultSource) (k : FaultKind) (s : State) : (handFault x k s).arbiter = s.arbiter := rfl
@[simp] theorem handFault_evac (x : FaultSource) (k : FaultKind) (s : State) : (handFault x k s).evac = s.evac := rfl
@[simp] theorem handFault_bay (x : FaultSource) (k : FaultKind) (s : State) : (handFault x k s).bay = s.bay := rfl
@[simp] theorem handFault_doors (x : FaultSource) (k : FaultKind) (s : State) : (handFault x k s).doors = s.doors := rfl
@[simp] theorem handFault_link (x : FaultSource) (k : FaultKind) (s : State) : (handFault x k s).link = s.link := rfl

/-- An EMPTY record is filled. -/
theorem handFault_fills (x : FaultSource) (k : FaultKind) (s : State) (h : s.office.firstFault = none) :
    (handFault x k s).office = { s.office with firstFault := some ⟨x, k, s.clock, s.runInProgress, false⟩ } := by
  simp [handFault, h]

/-- A HELD record only notes that later faults came. -/
theorem handFault_later (x : FaultSource) (k : FaultKind) (s : State) (f : FaultRec)
    (h : s.office.firstFault = some f) :
    (handFault x k s).office = { s.office with firstFault := some { f with later := true } } := by
  simp [handFault, h]

/-! ### Folds and reactions -/

/-- What each operation of a list keeps, the whole list keeps. -/
theorem each_keeps (P : State → Prop) (f : Nat → State → State) (h : ∀ n s, P s → P (f n s)) (l : List Nat) :
    ∀ s, P s → P (State.each f l s) := by
  induction l with
  | nil => exact fun s hs => hs
  | cons n l ih => exact fun s hs => ih _ (h n s hs)

/-- What one notice keeps, a list of notices keeps. -/
theorem notifyAll_keeps (P : State → Prop) (h : ∀ b s, P s → P (notify b s)) (l : List NoticeBody) :
    ∀ s, P s → P (notifyAll l s) := by
  induction l with
  | nil => exact fun s hs => hs
  | cons b l ih => exact fun s hs => ih _ (h b s hs)

/-- The change made first is one of the changes listed. -/
theorem firstDue_mem {l : List (State → Option State)} {s t : State} (h : firstDue l s = some t) :
    ∃ f ∈ l, f s = some t := by
  induction l with
  | nil => simp [firstDue] at h
  | cons f l ih =>
    cases hf : f s with
    | some u =>
      simp only [firstDue, hf, Option.some.injEq] at h
      exact ⟨f, by simp, h ▸ hf⟩
    | none =>
      simp only [firstDue, hf] at h
      obtain ⟨g, hg, ht⟩ := ih h
      exact ⟨g, by simp [hg], ht⟩

/-- Where none is due, each of the changes listed answers none. -/
theorem firstDue_none {l : List (State → Option State)} {s : State} (h : firstDue l s = none) :
    ∀ f ∈ l, f s = none := by
  induction l with
  | nil => simp
  | cons g l ih =>
    cases hg : g s with
    | some u => simp [firstDue, hg] at h
    | none =>
      simp only [firstDue, hg] at h
      intro f hf
      rcases List.mem_cons.mp hf with rfl | hf
      · exact hg
      · exact ih h f hf

/-- What every change of a list keeps, so many of them keep. -/
theorem settleFor_keeps (P : State → Prop) (l : List (State → Option State))
    (h : ∀ f ∈ l, ∀ s t, P s → f s = some t → P t) (n : Nat) : ∀ s, P s → P (settleFor l n s) := by
  induction n with
  | zero => exact fun s hs => hs
  | succ n ih =>
    intro s hs
    unfold settleFor
    cases hf : firstDue l s with
    | none => exact hs
    | some t =>
      obtain ⟨f, hm, ht⟩ := firstDue_mem hf
      exact ih t (h f hm s t hs ht)

/-- What each denomination's cut keeps, the cut of all keeps (R20, R21). -/
theorem cutDue_keeps (P : State → Prop) (h : ∀ d s, P s → P (cutDenom d s)) (s : State) (hs : P s) : P (cutDue s) :=
  each_keeps P cutDenom h denoms s hs

/-- What every reaction and every cut keeps, `settle` keeps. -/
theorem settle_keeps (P : State → Prop) (h : ∀ f ∈ reactions, ∀ s t, P s → f s = some t → P t)
    (hc : ∀ d s, P s → P (cutDenom d s)) (s : State) (hs : P s) : P (settle s) :=
  cutDue_keeps P hc _ (settleFor_keeps P reactions h Config.reactionFuel s hs)

/-- The same for what follows CLEAR BUCKET. -/
theorem settleClear_keeps (P : State → Prop) (h : ∀ f ∈ clearReactions, ∀ s t, P s → f s = some t → P t)
    (hc : ∀ d s, P s → P (cutDenom d s)) (s : State) (hs : P s) : P (settleClear s) :=
  cutDue_keeps P hc _ (settleFor_keeps P clearReactions h Config.reactionFuel s hs)

/-- Without an excess there is no cut (R20). -/
theorem cutDenom_none (d : Nat) (s : State) (h : s.excess d = 0) : cutDenom d s = s := by simp [cutDenom, h]

/-- Where no denomination has an excess, no cut is due. -/
theorem cutDue_none (s : State) (h : ∀ d < 12, s.excess d = 0) : cutDue s = s := by
  suffices ∀ l : List Nat, (∀ d ∈ l, d < 12) → State.each cutDenom l s = s from this denoms fun d hd => by
    simpa [denoms] using hd
  intro l
  induction l with
  | nil => exact fun _ => rfl
  | cons d l ih =>
    intro hl
    simp only [State.each, cutDenom_none d s (h d (hl d List.mem_cons_self))]
    exact ih fun e he => hl e (List.mem_cons_of_mem d he)

/-- A state with no change due has no excess. -/
theorem quiet_excess (s : State) (h : quiet s = true) : ∀ d < 12, s.excess d = 0 := by
  have hn : firstDue reactions s = none := by simpa [quiet] using h
  have hc : cutStep s = none := firstDue_none hn cutStep (by simp [reactions, firstReactions])
  intro d hd
  by_contra he
  have : (denoms.any fun d => decide (0 < s.excess d)) = true :=
    List.any_eq_true.mpr ⟨d, by simpa [denoms] using hd, by simpa using Nat.pos_of_ne_zero he⟩
  simp [cutStep, this] at hc

/-- With no change of the list due, none is made. -/
theorem settleFor_none (l : List (State → Option State)) (n : Nat) (s : State) (h : firstDue l s = none) :
    settleFor l n s = s := by
  cases n <;> simp [settleFor, h]

/-- Where no change is due, `settle` changes nothing. -/
theorem settle_quiet (s : State) (h : quiet s = true) : settle s = s := by
  have hn : firstDue reactions s = none := by simpa [quiet] using h
  rw [settle, settleFor_none _ _ _ hn, cutDue_none _ (quiet_excess s h)]

/-! ### The posting queue, R37 -/

/-- The posting queue keeps its bound. -/
theorem queueEntry_length (b : EntryBody) (s : State) (h : s.book.queue.length ≤ Config.postingCap) :
    (queueEntry b s).book.queue.length ≤ Config.postingCap := by
  unfold queueEntry
  split
  · exact h
  · rename_i hq
    simp only [State.queueFull, decide_eq_true_eq, not_le] at hq
    dsimp only
    split <;> simp <;> omega

/-- Entries leave the head of the queue. -/
theorem dropEntries_queue (n : Nat) (s : State) : (dropEntries n s).book.queue = s.book.queue.drop n := rfl

/-! ### Operator checks, R196 -/

/-- All the dual-control check can come to. -/
theorem dualControl_cases (s : State) (need : Need) (a b : Nat) :
    (s.dualControl need a b = some .dualControl ∧
      (a = b ∨ s.activeEntry a = none ∨ s.activeEntry b = none)) ∨
    (a ≠ b ∧ ∃ x y, s.activeEntry a = some x ∧ s.activeEntry b = some y ∧
      ((need.met x.roles y.roles = true ∧ s.dualControl need a b = none) ∨
        (need.met x.roles y.roles = false ∧ s.dualControl need a b = some .role))) := by
  by_cases hab : a = b
  · exact .inl ⟨by simp [State.dualControl, hab], .inl hab⟩
  · cases ha : s.activeEntry a with
    | none => exact .inl ⟨by simp [State.dualControl, hab, ha], .inr (.inl rfl)⟩
    | some x =>
      cases hb : s.activeEntry b with
      | none => exact .inl ⟨by simp [State.dualControl, hab, ha, hb], .inr (.inr rfl)⟩
      | some y =>
        refine .inr ⟨hab, x, y, rfl, rfl, ?_⟩
        cases hm : need.met x.roles y.roles with
        | true => exact .inl ⟨rfl, by simp [State.dualControl, hab, ha, hb, hm]⟩
        | false => exact .inr ⟨rfl, by simp [State.dualControl, hab, ha, hb, hm]⟩

end Sys2Proof.Machine
end

