-- ==== Sys2Proof/Laws/Book.lean ====
section
/-! SUPPORT. What the position book's operations leave alone: a movement, its posting and a reservation change the book, and
the link where a notice arises, and nothing else of the machine. -/

namespace Sys2Proof.Machine

variable (s : State)

/-! ### `takeFrom` -/

@[simp] theorem takeFrom_pending (x : Side) (qs : List Pair) : (takeFrom x qs s).pending = s.pending := by
  cases x <;> rfl

@[simp] theorem takeFrom_powered (x : Side) (qs : List Pair) : (takeFrom x qs s).powered = s.powered := by
  cases x <;> rfl

@[simp] theorem takeFrom_desk (x : Side) (qs : List Pair) : (takeFrom x qs s).desk = s.desk := by
  cases x <;> rfl

@[simp] theorem takeFrom_count (x : Side) (qs : List Pair) : (takeFrom x qs s).count = s.count := by
  cases x <;> rfl

@[simp] theorem takeFrom_line (x : Side) (qs : List Pair) : (takeFrom x qs s).line = s.line := by
  cases x <;> rfl

@[simp] theorem takeFrom_recycler (x : Side) (qs : List Pair) : (takeFrom x qs s).recycler = s.recycler := by
  cases x <;> rfl

@[simp] theorem takeFrom_arbiter (x : Side) (qs : List Pair) : (takeFrom x qs s).arbiter = s.arbiter := by
  cases x <;> rfl

@[simp] theorem takeFrom_evac (x : Side) (qs : List Pair) : (takeFrom x qs s).evac = s.evac := by
  cases x <;> rfl

@[simp] theorem takeFrom_bay (x : Side) (qs : List Pair) : (takeFrom x qs s).bay = s.bay := by
  cases x <;> rfl

@[simp] theorem takeFrom_doors (x : Side) (qs : List Pair) : (takeFrom x qs s).doors = s.doors := by
  cases x <;> rfl

@[simp] theorem takeFrom_office (x : Side) (qs : List Pair) : (takeFrom x qs s).office = s.office := by
  cases x <;> rfl

@[simp] theorem takeFrom_link (x : Side) (qs : List Pair) : (takeFrom x qs s).link = s.link := by
  cases x <;> rfl

/-! ### `giveTo` -/

@[simp] theorem giveTo_pending (x : Side) (qs : List Pair) : (giveTo x qs s).pending = s.pending := by
  cases x <;> rfl

@[simp] theorem giveTo_powered (x : Side) (qs : List Pair) : (giveTo x qs s).powered = s.powered := by
  cases x <;> rfl

@[simp] theorem giveTo_desk (x : Side) (qs : List Pair) : (giveTo x qs s).desk = s.desk := by
  cases x <;> rfl

@[simp] theorem giveTo_count (x : Side) (qs : List Pair) : (giveTo x qs s).count = s.count := by
  cases x <;> rfl

@[simp] theorem giveTo_line (x : Side) (qs : List Pair) : (giveTo x qs s).line = s.line := by
  cases x <;> rfl

@[simp] theorem giveTo_recycler (x : Side) (qs : List Pair) : (giveTo x qs s).recycler = s.recycler := by
  cases x <;> rfl

@[simp] theorem giveTo_arbiter (x : Side) (qs : List Pair) : (giveTo x qs s).arbiter = s.arbiter := by
  cases x <;> rfl

@[simp] theorem giveTo_evac (x : Side) (qs : List Pair) : (giveTo x qs s).evac = s.evac := by
  cases x <;> rfl

@[simp] theorem giveTo_bay (x : Side) (qs : List Pair) : (giveTo x qs s).bay = s.bay := by
  cases x <;> rfl

@[simp] theorem giveTo_doors (x : Side) (qs : List Pair) : (giveTo x qs s).doors = s.doors := by
  cases x <;> rfl

@[simp] theorem giveTo_office (x : Side) (qs : List Pair) : (giveTo x qs s).office = s.office := by
  cases x <;> rfl

@[simp] theorem giveTo_link (x : Side) (qs : List Pair) : (giveTo x qs s).link = s.link := by
  cases x <;> rfl

/-! ### `moveTotals` -/

@[simp] theorem moveTotals_pending (m : Movement) : (moveTotals m s).pending = s.pending := by
  unfold moveTotals; split <;> rfl

@[simp] theorem moveTotals_powered (m : Movement) : (moveTotals m s).powered = s.powered := by
  unfold moveTotals; split <;> rfl

@[simp] theorem moveTotals_desk (m : Movement) : (moveTotals m s).desk = s.desk := by
  unfold moveTotals; split <;> rfl

@[simp] theorem moveTotals_count (m : Movement) : (moveTotals m s).count = s.count := by
  unfold moveTotals; split <;> rfl

@[simp] theorem moveTotals_line (m : Movement) : (moveTotals m s).line = s.line := by
  unfold moveTotals; split <;> rfl

@[simp] theorem moveTotals_recycler (m : Movement) : (moveTotals m s).recycler = s.recycler := by
  unfold moveTotals; split <;> rfl

@[simp] theorem moveTotals_arbiter (m : Movement) : (moveTotals m s).arbiter = s.arbiter := by
  unfold moveTotals; split <;> rfl

@[simp] theorem moveTotals_evac (m : Movement) : (moveTotals m s).evac = s.evac := by
  unfold moveTotals; split <;> rfl

@[simp] theorem moveTotals_bay (m : Movement) : (moveTotals m s).bay = s.bay := by
  unfold moveTotals; split <;> rfl

@[simp] theorem moveTotals_doors (m : Movement) : (moveTotals m s).doors = s.doors := by
  unfold moveTotals; split <;> rfl

@[simp] theorem moveTotals_office (m : Movement) : (moveTotals m s).office = s.office := by
  unfold moveTotals; split <;> rfl

@[simp] theorem moveTotals_link (m : Movement) : (moveTotals m s).link = s.link := by
  unfold moveTotals; split <;> rfl

/-! ### `changeEntry` -/

@[simp] theorem changeEntry_pending (k : Nat) (f : ResEntry → ResEntry) :
    (changeEntry k f s).pending = s.pending := by
  rfl

@[simp] theorem changeEntry_powered (k : Nat) (f : ResEntry → ResEntry) :
    (changeEntry k f s).powered = s.powered := by
  rfl

@[simp] theorem changeEntry_desk (k : Nat) (f : ResEntry → ResEntry) : (changeEntry k f s).desk = s.desk := by
  rfl

@[simp] theorem changeEntry_count (k : Nat) (f : ResEntry → ResEntry) : (changeEntry k f s).count = s.count := by
  rfl

@[simp] theorem changeEntry_line (k : Nat) (f : ResEntry → ResEntry) : (changeEntry k f s).line = s.line := by
  rfl

@[simp] theorem changeEntry_recycler (k : Nat) (f : ResEntry → ResEntry) :
    (changeEntry k f s).recycler = s.recycler := by
  rfl

@[simp] theorem changeEntry_arbiter (k : Nat) (f : ResEntry → ResEntry) :
    (changeEntry k f s).arbiter = s.arbiter := by
  rfl

@[simp] theorem changeEntry_evac (k : Nat) (f : ResEntry → ResEntry) : (changeEntry k f s).evac = s.evac := by
  rfl

@[simp] theorem changeEntry_bay (k : Nat) (f : ResEntry → ResEntry) : (changeEntry k f s).bay = s.bay := by
  rfl

@[simp] theorem changeEntry_doors (k : Nat) (f : ResEntry → ResEntry) : (changeEntry k f s).doors = s.doors := by
  rfl

@[simp] theorem changeEntry_office (k : Nat) (f : ResEntry → ResEntry) : (changeEntry k f s).office = s.office := by
  rfl

@[simp] theorem changeEntry_link (k : Nat) (f : ResEntry → ResEntry) : (changeEntry k f s).link = s.link := by
  rfl

/-! ### `issueFromEntry` -/

@[simp] theorem issueFromEntry_pending (m : Movement) : (issueFromEntry m s).pending = s.pending := by
  unfold issueFromEntry; split <;> simp

@[simp] theorem issueFromEntry_powered (m : Movement) : (issueFromEntry m s).powered = s.powered := by
  unfold issueFromEntry; split <;> simp

@[simp] theorem issueFromEntry_desk (m : Movement) : (issueFromEntry m s).desk = s.desk := by
  unfold issueFromEntry; split <;> simp

@[simp] theorem issueFromEntry_count (m : Movement) : (issueFromEntry m s).count = s.count := by
  unfold issueFromEntry; split <;> simp

@[simp] theorem issueFromEntry_line (m : Movement) : (issueFromEntry m s).line = s.line := by
  unfold issueFromEntry; split <;> simp

@[simp] theorem issueFromEntry_recycler (m : Movement) : (issueFromEntry m s).recycler = s.recycler := by
  unfold issueFromEntry; split <;> simp

@[simp] theorem issueFromEntry_arbiter (m : Movement) : (issueFromEntry m s).arbiter = s.arbiter := by
  unfold issueFromEntry; split <;> simp

@[simp] theorem issueFromEntry_evac (m : Movement) : (issueFromEntry m s).evac = s.evac := by
  unfold issueFromEntry; split <;> simp

@[simp] theorem issueFromEntry_bay (m : Movement) : (issueFromEntry m s).bay = s.bay := by
  unfold issueFromEntry; split <;> simp

@[simp] theorem issueFromEntry_doors (m : Movement) : (issueFromEntry m s).doors = s.doors := by
  unfold issueFromEntry; split <;> simp

@[simp] theorem issueFromEntry_office (m : Movement) : (issueFromEntry m s).office = s.office := by
  unfold issueFromEntry; split <;> simp

@[simp] theorem issueFromEntry_link (m : Movement) : (issueFromEntry m s).link = s.link := by
  unfold issueFromEntry; split <;> simp

/-! ### `stampSide` -/

@[simp] theorem stampSide_pending (x : Side) (n : Nat) : (stampSide x n s).pending = s.pending := by
  cases x <;> rfl

@[simp] theorem stampSide_powered (x : Side) (n : Nat) : (stampSide x n s).powered = s.powered := by
  cases x <;> rfl

@[simp] theorem stampSide_desk (x : Side) (n : Nat) : (stampSide x n s).desk = s.desk := by
  cases x <;> rfl

@[simp] theorem stampSide_count (x : Side) (n : Nat) : (stampSide x n s).count = s.count := by
  cases x <;> rfl

@[simp] theorem stampSide_line (x : Side) (n : Nat) : (stampSide x n s).line = s.line := by
  cases x <;> rfl

@[simp] theorem stampSide_recycler (x : Side) (n : Nat) : (stampSide x n s).recycler = s.recycler := by
  cases x <;> rfl

@[simp] theorem stampSide_arbiter (x : Side) (n : Nat) : (stampSide x n s).arbiter = s.arbiter := by
  cases x <;> rfl

@[simp] theorem stampSide_evac (x : Side) (n : Nat) : (stampSide x n s).evac = s.evac := by
  cases x <;> rfl

@[simp] theorem stampSide_bay (x : Side) (n : Nat) : (stampSide x n s).bay = s.bay := by
  cases x <;> rfl

@[simp] theorem stampSide_doors (x : Side) (n : Nat) : (stampSide x n s).doors = s.doors := by
  cases x <;> rfl

@[simp] theorem stampSide_office (x : Side) (n : Nat) : (stampSide x n s).office = s.office := by
  cases x <;> rfl

@[simp] theorem stampSide_link (x : Side) (n : Nat) : (stampSide x n s).link = s.link := by
  cases x <;> rfl

/-! ### `queueEntry` -/

@[simp] theorem queueEntry_pending (b : EntryBody) : (queueEntry b s).pending = s.pending := by
  unfold queueEntry; (repeat' split) <;> (dsimp only; try split) <;> simp

@[simp] theorem queueEntry_powered (b : EntryBody) : (queueEntry b s).powered = s.powered := by
  unfold queueEntry; (repeat' split) <;> (dsimp only; try split) <;> simp

@[simp] theorem queueEntry_desk (b : EntryBody) : (queueEntry b s).desk = s.desk := by
  unfold queueEntry; (repeat' split) <;> (dsimp only; try split) <;> simp

@[simp] theorem queueEntry_count (b : EntryBody) : (queueEntry b s).count = s.count := by
  unfold queueEntry; (repeat' split) <;> (dsimp only; try split) <;> simp

@[simp] theorem queueEntry_line (b : EntryBody) : (queueEntry b s).line = s.line := by
  unfold queueEntry; (repeat' split) <;> (dsimp only; try split) <;> simp

@[simp] theorem queueEntry_recycler (b : EntryBody) : (queueEntry b s).recycler = s.recycler := by
  unfold queueEntry; (repeat' split) <;> (dsimp only; try split) <;> simp

@[simp] theorem queueEntry_arbiter (b : EntryBody) : (queueEntry b s).arbiter = s.arbiter := by
  unfold queueEntry; (repeat' split) <;> (dsimp only; try split) <;> simp

@[simp] theorem queueEntry_evac (b : EntryBody) : (queueEntry b s).evac = s.evac := by
  unfold queueEntry; (repeat' split) <;> (dsimp only; try split) <;> simp

@[simp] theorem queueEntry_bay (b : EntryBody) : (queueEntry b s).bay = s.bay := by
  unfold queueEntry; (repeat' split) <;> (dsimp only; try split) <;> simp

@[simp] theorem queueEntry_doors (b : EntryBody) : (queueEntry b s).doors = s.doors := by
  unfold queueEntry; (repeat' split) <;> (dsimp only; try split) <;> simp

@[simp] theorem queueEntry_office (b : EntryBody) : (queueEntry b s).office = s.office := by
  unfold queueEntry; (repeat' split) <;> (dsimp only; try split) <;> simp

/-! ### `postSide` -/

@[simp] theorem postSide_pending (x : Side) (m : Movement) (n : Nat) : (postSide x m n s).pending = s.pending := by
  cases x <;> dsimp only [postSide] <;> (repeat' split) <;> simp

@[simp] theorem postSide_powered (x : Side) (m : Movement) (n : Nat) : (postSide x m n s).powered = s.powered := by
  cases x <;> dsimp only [postSide] <;> (repeat' split) <;> simp

@[simp] theorem postSide_desk (x : Side) (m : Movement) (n : Nat) : (postSide x m n s).desk = s.desk := by
  cases x <;> dsimp only [postSide] <;> (repeat' split) <;> simp

@[simp] theorem postSide_count (x : Side) (m : Movement) (n : Nat) : (postSide x m n s).count = s.count := by
  cases x <;> dsimp only [postSide] <;> (repeat' split) <;> simp

@[simp] theorem postSide_line (x : Side) (m : Movement) (n : Nat) : (postSide x m n s).line = s.line := by
  cases x <;> dsimp only [postSide] <;> (repeat' split) <;> simp

@[simp] theorem postSide_recycler (x : Side) (m : Movement) (n : Nat) : (postSide x m n s).recycler = s.recycler := by
  cases x <;> dsimp only [postSide] <;> (repeat' split) <;> simp

@[simp] theorem postSide_arbiter (x : Side) (m : Movement) (n : Nat) : (postSide x m n s).arbiter = s.arbiter := by
  cases x <;> dsimp only [postSide] <;> (repeat' split) <;> simp

@[simp] theorem postSide_evac (x : Side) (m : Movement) (n : Nat) : (postSide x m n s).evac = s.evac := by
  cases x <;> dsimp only [postSide] <;> (repeat' split) <;> simp

@[simp] theorem postSide_bay (x : Side) (m : Movement) (n : Nat) : (postSide x m n s).bay = s.bay := by
  cases x <;> dsimp only [postSide] <;> (repeat' split) <;> simp

@[simp] theorem postSide_doors (x : Side) (m : Movement) (n : Nat) : (postSide x m n s).doors = s.doors := by
  cases x <;> dsimp only [postSide] <;> (repeat' split) <;> simp

@[simp] theorem postSide_office (x : Side) (m : Movement) (n : Nat) : (postSide x m n s).office = s.office := by
  cases x <;> dsimp only [postSide] <;> (repeat' split) <;> simp

/-! ### `numberAndPost` -/

@[simp] theorem numberAndPost_pending (m : Movement) : (numberAndPost m s).pending = s.pending := by
  simp [numberAndPost]

@[simp] theorem numberAndPost_powered (m : Movement) : (numberAndPost m s).powered = s.powered := by
  simp [numberAndPost]

@[simp] theorem numberAndPost_desk (m : Movement) : (numberAndPost m s).desk = s.desk := by
  simp [numberAndPost]

@[simp] theorem numberAndPost_count (m : Movement) : (numberAndPost m s).count = s.count := by
  simp [numberAndPost]

@[simp] theorem numberAndPost_line (m : Movement) : (numberAndPost m s).line = s.line := by
  simp [numberAndPost]

@[simp] theorem numberAndPost_recycler (m : Movement) : (numberAndPost m s).recycler = s.recycler := by
  simp [numberAndPost]

@[simp] theorem numberAndPost_arbiter (m : Movement) : (numberAndPost m s).arbiter = s.arbiter := by
  simp [numberAndPost]

@[simp] theorem numberAndPost_evac (m : Movement) : (numberAndPost m s).evac = s.evac := by
  simp [numberAndPost]

@[simp] theorem numberAndPost_bay (m : Movement) : (numberAndPost m s).bay = s.bay := by
  simp [numberAndPost]

@[simp] theorem numberAndPost_doors (m : Movement) : (numberAndPost m s).doors = s.doors := by
  simp [numberAndPost]

@[simp] theorem numberAndPost_office (m : Movement) : (numberAndPost m s).office = s.office := by
  simp [numberAndPost]

/-! ### `notifyAll` -/

@[simp] theorem notifyAll_pending (l : List NoticeBody) : (notifyAll l s).pending = s.pending := by
  induction l generalizing s with
  | nil => rfl
  | cons b l ih => simp [notifyAll, ih]

@[simp] theorem notifyAll_powered (l : List NoticeBody) : (notifyAll l s).powered = s.powered := by
  induction l generalizing s with
  | nil => rfl
  | cons b l ih => simp [notifyAll, ih]

@[simp] theorem notifyAll_book (l : List NoticeBody) : (notifyAll l s).book = s.book := by
  induction l generalizing s with
  | nil => rfl
  | cons b l ih => simp [notifyAll, ih]

@[simp] theorem notifyAll_desk (l : List NoticeBody) : (notifyAll l s).desk = s.desk := by
  induction l generalizing s with
  | nil => rfl
  | cons b l ih => simp [notifyAll, ih]

@[simp] theorem notifyAll_count (l : List NoticeBody) : (notifyAll l s).count = s.count := by
  induction l generalizing s with
  | nil => rfl
  | cons b l ih => simp [notifyAll, ih]

@[simp] theorem notifyAll_line (l : List NoticeBody) : (notifyAll l s).line = s.line := by
  induction l generalizing s with
  | nil => rfl
  | cons b l ih => simp [notifyAll, ih]

@[simp] theorem notifyAll_recycler (l : List NoticeBody) : (notifyAll l s).recycler = s.recycler := by
  induction l generalizing s with
  | nil => rfl
  | cons b l ih => simp [notifyAll, ih]

@[simp] theorem notifyAll_arbiter (l : List NoticeBody) : (notifyAll l s).arbiter = s.arbiter := by
  induction l generalizing s with
  | nil => rfl
  | cons b l ih => simp [notifyAll, ih]

@[simp] theorem notifyAll_evac (l : List NoticeBody) : (notifyAll l s).evac = s.evac := by
  induction l generalizing s with
  | nil => rfl
  | cons b l ih => simp [notifyAll, ih]

@[simp] theorem notifyAll_bay (l : List NoticeBody) : (notifyAll l s).bay = s.bay := by
  induction l generalizing s with
  | nil => rfl
  | cons b l ih => simp [notifyAll, ih]

@[simp] theorem notifyAll_doors (l : List NoticeBody) : (notifyAll l s).doors = s.doors := by
  induction l generalizing s with
  | nil => rfl
  | cons b l ih => simp [notifyAll, ih]

@[simp] theorem notifyAll_office (l : List NoticeBody) : (notifyAll l s).office = s.office := by
  induction l generalizing s with
  | nil => rfl
  | cons b l ih => simp [notifyAll, ih]

/-! ### `noticeFull` -/

@[simp] theorem noticeFull_pending (c before : Nat) : (noticeFull c before s).pending = s.pending := by
  simp [noticeFull]

@[simp] theorem noticeFull_powered (c before : Nat) : (noticeFull c before s).powered = s.powered := by
  simp [noticeFull]

@[simp] theorem noticeFull_book (c before : Nat) : (noticeFull c before s).book = s.book := by
  simp [noticeFull]

@[simp] theorem noticeFull_desk (c before : Nat) : (noticeFull c before s).desk = s.desk := by
  simp [noticeFull]

@[simp] theorem noticeFull_count (c before : Nat) : (noticeFull c before s).count = s.count := by
  simp [noticeFull]

@[simp] theorem noticeFull_line (c before : Nat) : (noticeFull c before s).line = s.line := by
  simp [noticeFull]

@[simp] theorem noticeFull_recycler (c before : Nat) : (noticeFull c before s).recycler = s.recycler := by
  simp [noticeFull]

@[simp] theorem noticeFull_arbiter (c before : Nat) : (noticeFull c before s).arbiter = s.arbiter := by
  simp [noticeFull]

@[simp] theorem noticeFull_evac (c before : Nat) : (noticeFull c before s).evac = s.evac := by
  simp [noticeFull]

@[simp] theorem noticeFull_bay (c before : Nat) : (noticeFull c before s).bay = s.bay := by
  simp [noticeFull]

@[simp] theorem noticeFull_doors (c before : Nat) : (noticeFull c before s).doors = s.doors := by
  simp [noticeFull]

@[simp] theorem noticeFull_office (c before : Nat) : (noticeFull c before s).office = s.office := by
  simp [noticeFull]

/-! ### The availability cut, R20, R21 -/

theorem CutChangesOnly.refl (s : State) : CutChangesOnly s s := ⟨_, _, _, _, _, _, _, _, rfl⟩

theorem CutChangesOnly.trans {s t u : State} (h : CutChangesOnly s t) (k : CutChangesOnly t u) : CutChangesOnly s u := by
  obtain ⟨_, _, _, _, _, _, _, _, rfl⟩ := h
  obtain ⟨_, _, _, _, _, _, _, _, rfl⟩ := k
  exact ⟨_, _, _, _, _, _, _, _, rfl⟩

theorem CutChangesOnly.notify (b : NoticeBody) (s : State) : CutChangesOnly s (notify b s) := by
  unfold Machine.notify
  split <;> exact ⟨_, _, _, _, _, _, _, _, rfl⟩

theorem CutChangesOnly.setBuild (k : Nat) (b : Option Build) (s : State) : CutChangesOnly s (s.setBuild k b) :=
  ⟨_, _, _, _, _, _, _, _, rfl⟩

theorem CutChangesOnly.cutRun (s : State) : CutChangesOnly s (cutRun s) := by
  unfold Machine.cutRun
  dsimp only
  split
  · exact ⟨_, _, _, _, _, _, _, _, rfl⟩
  · exact .refl s

theorem CutChangesOnly.withdraw (k : Nat) (s : State) : CutChangesOnly s (withdrawFor k s) := by
  have h : ∀ a, CutChangesOnly s (s.setArbiter { s.arbiter with dispense := a, dispenseWithdrawn := true }) :=
    fun _ => ⟨_, _, _, _, _, _, _, _, rfl⟩
  unfold withdrawFor withdrawDispense dropDispense
  repeat' split
  all_goals first | exact .refl s | exact ⟨_, _, _, _, _, _, _, _, rfl⟩ | exact (h _).trans (.cutRun _)

theorem CutChangesOnly.short (k : Nat) (c : ShortCause) (d : Nat) (s : State) : CutChangesOnly s (becomeShort k c d s) := by
  unfold becomeShort
  split
  · exact .refl s
  · exact ((CutChangesOnly.setBuild k _ s).trans (.withdraw k _)).trans (.notify _ _)

theorem CutChangesOnly.report (d k : Nat) (s : State) : CutChangesOnly s (cutReport d k s) := by
  unfold cutReport
  split
  · exact .refl s
  · dsimp only
    repeat' split
    all_goals first
      | exact .setBuild k _ s
      | exact (CutChangesOnly.setBuild k _ s).trans (.short k _ _ _)
      | exact ((CutChangesOnly.setBuild k _ s).trans (.setBuild k _ _)).trans (.withdraw k _)

theorem CutChangesOnly.each (f : Nat → State → State) (h : ∀ n s, CutChangesOnly s (f n s)) (l : List Nat) (s : State) :
    CutChangesOnly s (State.each f l s) :=
  each_keeps (CutChangesOnly s) f (fun n t ht => ht.trans (h n t)) l s (.refl s)

/-- All that the cut of one denomination can change. -/
theorem cutDenom_only (d : Nat) (s : State) : CutChangesOnly s (cutDenom d s) := by
  unfold cutDenom
  split
  · exact .refl s
  · have h : CutChangesOnly s (cutEntries d s).1 := ⟨_, _, _, _, _, _, _, _, rfl⟩
    exact h.trans (.each (cutReport d) (CutChangesOnly.report d) _ _)

/-- All that the cuts due can change. -/
theorem cutDue_only (s : State) : CutChangesOnly s (cutDue s) := CutChangesOnly.each cutDenom cutDenom_only denoms s

/-! ### `applyMovement` -/

/-- The change of counts, totals and entries leaves everything but the book. -/
theorem moveCounts_state (m : Movement) : ∃ b, moveCounts m s = { s with book := b } := by
  unfold moveCounts issueFromEntry moveTotals changeEntry giveTo takeFrom
  cases m.src <;> cases m.dst <;> dsimp only [Side.position, State.setPosRec] <;> split <;> exact ⟨_, rfl⟩

/-- CASSETTE_FULL leaves the book. -/
theorem noticeInto_book (x : Side) (n : Nat) : (noticeInto x n s).book = s.book := by
  unfold noticeInto; split <;> simp

/-- Where the movement brings about no excess there is no cut: it changes its counts, and is numbered and posted (R20,
R28). -/
theorem applyMovement_uncut (m : Movement) (h : ∀ d < 12, (moveCounts m s).excess d = 0) :
    applyMovement m s = noticeInto m.dst (s.sideItems m.dst) (numberAndPost m (moveCounts m s)) := by
  rw [applyMovement, cutDue_none _ h]

@[simp] theorem cutDue_moveCounts_pending (m : Movement) : (cutDue (moveCounts m s)).pending = s.pending := by
  obtain ⟨_, _, _, _, _, _, _, _, h⟩ := cutDue_only (moveCounts m s)
  obtain ⟨b, hb⟩ := moveCounts_state s m
  rw [h, hb]

@[simp] theorem cutDue_moveCounts_powered (m : Movement) : (cutDue (moveCounts m s)).powered = s.powered := by
  obtain ⟨_, _, _, _, _, _, _, _, h⟩ := cutDue_only (moveCounts m s)
  obtain ⟨b, hb⟩ := moveCounts_state s m
  rw [h, hb]

@[simp] theorem cutDue_moveCounts_count (m : Movement) : (cutDue (moveCounts m s)).count = s.count := by
  obtain ⟨_, _, _, _, _, _, _, _, h⟩ := cutDue_only (moveCounts m s)
  obtain ⟨b, hb⟩ := moveCounts_state s m
  rw [h, hb]

@[simp] theorem cutDue_moveCounts_line (m : Movement) : (cutDue (moveCounts m s)).line = s.line := by
  obtain ⟨_, _, _, _, _, _, _, _, h⟩ := cutDue_only (moveCounts m s)
  obtain ⟨b, hb⟩ := moveCounts_state s m
  rw [h, hb]

@[simp] theorem cutDue_moveCounts_evac (m : Movement) : (cutDue (moveCounts m s)).evac = s.evac := by
  obtain ⟨_, _, _, _, _, _, _, _, h⟩ := cutDue_only (moveCounts m s)
  obtain ⟨b, hb⟩ := moveCounts_state s m
  rw [h, hb]

@[simp] theorem cutDue_moveCounts_bay (m : Movement) : (cutDue (moveCounts m s)).bay = s.bay := by
  obtain ⟨_, _, _, _, _, _, _, _, h⟩ := cutDue_only (moveCounts m s)
  obtain ⟨b, hb⟩ := moveCounts_state s m
  rw [h, hb]

@[simp] theorem cutDue_moveCounts_doors (m : Movement) : (cutDue (moveCounts m s)).doors = s.doors := by
  obtain ⟨_, _, _, _, _, _, _, _, h⟩ := cutDue_only (moveCounts m s)
  obtain ⟨b, hb⟩ := moveCounts_state s m
  rw [h, hb]

@[simp] theorem cutDue_moveCounts_office (m : Movement) : (cutDue (moveCounts m s)).office = s.office := by
  obtain ⟨_, _, _, _, _, _, _, _, h⟩ := cutDue_only (moveCounts m s)
  obtain ⟨b, hb⟩ := moveCounts_state s m
  rw [h, hb]

@[simp] theorem applyMovement_pending (m : Movement) : (applyMovement m s).pending = s.pending := by
  unfold applyMovement noticeInto; split <;> simp

@[simp] theorem applyMovement_powered (m : Movement) : (applyMovement m s).powered = s.powered := by
  unfold applyMovement noticeInto; split <;> simp

@[simp] theorem applyMovement_count (m : Movement) : (applyMovement m s).count = s.count := by
  unfold applyMovement noticeInto; split <;> simp

@[simp] theorem applyMovement_line (m : Movement) : (applyMovement m s).line = s.line := by
  unfold applyMovement noticeInto; split <;> simp

@[simp] theorem applyMovement_evac (m : Movement) : (applyMovement m s).evac = s.evac := by
  unfold applyMovement noticeInto; split <;> simp

@[simp] theorem applyMovement_bay (m : Movement) : (applyMovement m s).bay = s.bay := by
  unfold applyMovement noticeInto; split <;> simp

@[simp] theorem applyMovement_doors (m : Movement) : (applyMovement m s).doors = s.doors := by
  unfold applyMovement noticeInto; split <;> simp

@[simp] theorem applyMovement_office (m : Movement) : (applyMovement m s).office = s.office := by
  unfold applyMovement noticeInto; split <;> simp

/-! ### `reserve` -/

@[simp] theorem reserve_pending (k till : Nat) (c : Counts) : (reserve k till c s).pending = s.pending := by
  unfold reserve; split <;> rfl

@[simp] theorem reserve_powered (k till : Nat) (c : Counts) : (reserve k till c s).powered = s.powered := by
  unfold reserve; split <;> rfl

@[simp] theorem reserve_desk (k till : Nat) (c : Counts) : (reserve k till c s).desk = s.desk := by
  unfold reserve; split <;> rfl

@[simp] theorem reserve_count (k till : Nat) (c : Counts) : (reserve k till c s).count = s.count := by
  unfold reserve; split <;> rfl

@[simp] theorem reserve_line (k till : Nat) (c : Counts) : (reserve k till c s).line = s.line := by
  unfold reserve; split <;> rfl

@[simp] theorem reserve_recycler (k till : Nat) (c : Counts) : (reserve k till c s).recycler = s.recycler := by
  unfold reserve; split <;> rfl

@[simp] theorem reserve_arbiter (k till : Nat) (c : Counts) : (reserve k till c s).arbiter = s.arbiter := by
  unfold reserve; split <;> rfl

@[simp] theorem reserve_evac (k till : Nat) (c : Counts) : (reserve k till c s).evac = s.evac := by
  unfold reserve; split <;> rfl

@[simp] theorem reserve_bay (k till : Nat) (c : Counts) : (reserve k till c s).bay = s.bay := by
  unfold reserve; split <;> rfl

@[simp] theorem reserve_doors (k till : Nat) (c : Counts) : (reserve k till c s).doors = s.doors := by
  unfold reserve; split <;> rfl

@[simp] theorem reserve_office (k till : Nat) (c : Counts) : (reserve k till c s).office = s.office := by
  unfold reserve; split <;> rfl

@[simp] theorem reserve_link (k till : Nat) (c : Counts) : (reserve k till c s).link = s.link := by
  unfold reserve; split <;> rfl

/-! ### `releaseEntry` -/

@[simp] theorem releaseEntry_pending (k : Nat) : (releaseEntry k s).pending = s.pending := by
  rfl

@[simp] theorem releaseEntry_powered (k : Nat) : (releaseEntry k s).powered = s.powered := by
  rfl

@[simp] theorem releaseEntry_desk (k : Nat) : (releaseEntry k s).desk = s.desk := by
  rfl

@[simp] theorem releaseEntry_count (k : Nat) : (releaseEntry k s).count = s.count := by
  rfl

@[simp] theorem releaseEntry_line (k : Nat) : (releaseEntry k s).line = s.line := by
  rfl

@[simp] theorem releaseEntry_recycler (k : Nat) : (releaseEntry k s).recycler = s.recycler := by
  rfl

@[simp] theorem releaseEntry_arbiter (k : Nat) : (releaseEntry k s).arbiter = s.arbiter := by
  rfl

@[simp] theorem releaseEntry_evac (k : Nat) : (releaseEntry k s).evac = s.evac := by
  rfl

@[simp] theorem releaseEntry_bay (k : Nat) : (releaseEntry k s).bay = s.bay := by
  rfl

@[simp] theorem releaseEntry_doors (k : Nat) : (releaseEntry k s).doors = s.doors := by
  rfl

@[simp] theorem releaseEntry_office (k : Nat) : (releaseEntry k s).office = s.office := by
  rfl

@[simp] theorem releaseEntry_link (k : Nat) : (releaseEntry k s).link = s.link := by
  rfl

/-! ### A note booked by a run, and a run's closing group -/

/-- A closing group goes on only past a movement that passes its checks (R30). -/
theorem closeMoves_cons (m : Movement) (ms : List Movement) :
    closeMoves (m :: ms) s = if checkMovement m true s = none then closeMoves ms (closeMove m s) else none := by
  cases h : checkMovement m true s <;> simp [closeMoves, h]

/-- All that a closing group's checked movements can come to: every one passes its checks on what those before it leave and
the state is what they leave one after another, or none of them is applied (R29, R30). -/
theorem closeMoves_cases (l : List Movement) (s : State) :
    closeMoves l s = none ∨ closeMoves l s = some (l.foldl (fun t m => closeMove m t) s) := by
  induction l generalizing s with
  | nil => exact .inr rfl
  | cons m ms ih =>
    rw [closeMoves_cons]
    split
    · exact ih (closeMove m s)
    · exact .inl rfl

/-- Marking a position in a run changes the book only. -/
theorem markInRun_state (p : Nat) : ∃ b, markInRun p s = { s with book := b } := ⟨_, rfl⟩

/-- A cause given to a run, or a cut, changes the run record only. -/
theorem endRun_state (c : EndCause) : ∃ r, endRun c s = s.setRun r := by
  unfold endRun
  dsimp only
  split
  · exact ⟨_, rfl⟩
  · exact ⟨s.recycler.run, rfl⟩

theorem cutRun_state : ∃ r, cutRun s = s.setRun r := by
  unfold cutRun
  dsimp only
  split
  · exact ⟨_, rfl⟩
  · exact ⟨s.recycler.run, rfl⟩

/-- The deposit account stays within CLIP, R148. -/
theorem accountNote_le (k : RunKind) (h : s.arbiter.account ≤ s.arbiter.settings.clip) :
    (accountNote k s).arbiter.account ≤ (accountNote k s).arbiter.settings.clip := by
  simp only [accountNote, State.setArbiter_arbiter]
  split
  · exact le_trans (Nat.sub_le _ _) (Nat.min_le_left _ _)
  · exact le_trans (Nat.sub_le _ _) h

/-- A bucket that rises stays within 255, R158. -/
theorem raiseBucket_le (c w : Nat) (hc : c < 12) (h : (s.cassette c).bucket ≤ Config.bucketTop) :
    ((raiseBucket c w s).cassette c).bucket ≤ Config.bucketTop := by
  unfold raiseBucket
  split
  · exact h
  · dsimp only
    have key : ((changeCassette c (fun r => { r with bucket := Nat.min Config.bucketTop (r.bucket + w) }) s).cassette
        c).bucket ≤ Config.bucketTop := by
      simp [changeCassette, hc]
    split
    · unfold setThreshold
      dsimp only
      generalize changeCassette c (fun r => { r with bucket := Nat.min Config.bucketTop (r.bucket + w) }) s = t at key
      have hn : ∀ b (u : State), (notify b u).cassette c = u.cassette c := by
        intro b u; simp [State.cassette]
      rw [hn]
      simpa [hc] using key
    · exact key

end Sys2Proof.Machine
end

