-- ==== Sys2Proof/Laws/Heard.lean ====
section
/-! SUPPORT. What the receiver's hearing a frame whole leaves: every condition and record the requests consult reads after
`heard` as before it. -/

namespace Sys2Proof.Machine

variable (s : State)

@[simp] theorem heard_denom (d : Nat) : (heard s).denom d = s.denom d := rfl
@[simp] theorem heard_posRec (p : Nat) : (heard s).posRec p = s.posRec p := rfl
@[simp] theorem heard_held (p d : Nat) : (heard s).held p d = s.held p d := rfl
@[simp] theorem heard_till (t : Nat) : (heard s).till t = s.till t := rfl
@[simp] theorem heard_template (c : Nat) : (heard s).template c = s.template c := rfl
@[simp] theorem heard_build (k : Nat) : (heard s).build k = s.build k := rfl
@[simp] theorem heard_lot (n : Nat) : (heard s).lot n = s.lot n := rfl
@[simp] theorem heard_station (n : Nat) : (heard s).station n = s.station n := rfl
@[simp] theorem heard_module (m : Nat) : (heard s).module m = s.module m := rfl
@[simp] theorem heard_cassette (c : Nat) : (heard s).cassette c = s.cassette c := rfl
@[simp] theorem heard_ranges (d : Nat) : (heard s).ranges d = s.ranges d := rfl
@[simp] theorem heard_headLoaded (h : Nat) : (heard s).headLoaded h = s.headLoaded h := rfl
@[simp] theorem heard_container (n : Nat) : (heard s).container n = s.container n := rfl
@[simp] theorem heard_consignment (k : Nat) : (heard s).consignment k = s.consignment k := rfl
@[simp] theorem heard_clock : (heard s).clock = s.clock := rfl
@[simp] theorem heard_face (d : Nat) : (heard s).face d = s.face d := rfl
@[simp] theorem heard_isNote (d : Nat) : (heard s).isNote d = s.isNote d := rfl
@[simp] theorem heard_isCoin (d : Nat) : (heard s).isCoin d = s.isCoin d := rfl
@[simp] theorem heard_isRoll (d : Nat) : (heard s).isRoll d = s.isRoll d := rfl
@[simp] theorem heard_isDefined (d : Nat) : (heard s).isDefined d = s.isDefined d := rfl
@[simp] theorem heard_valueOf (c : Counts) : (heard s).valueOf c = s.valueOf c := rfl
@[simp] theorem heard_notesOf (c : Counts) : (heard s).notesOf c = s.notesOf c := rfl
@[simp] theorem heard_rollsOf (c : Counts) : (heard s).rollsOf c = s.rollsOf c := rfl
@[simp] theorem heard_activeEntry (n : Nat) : (heard s).activeEntry n = s.activeEntry n := rfl
@[simp] theorem heard_oneOperator (n : Nat) : (heard s).oneOperator n = s.oneOperator n := rfl
@[simp] theorem heard_dualControl (need : Need) (a b : Nat) : (heard s).dualControl need a b = s.dualControl need a b := rfl
@[simp] theorem heard_rosterEmpty : (heard s).rosterEmpty = s.rosterEmpty := rfl
@[simp] theorem heard_inService (m : Nat) : (heard s).inService m = s.inService m := rfl
@[simp] theorem heard_eligibleCassette (d c : Nat) : (heard s).eligibleCassette d c = s.eligibleCassette d c := rfl
@[simp] theorem heard_evacPair : (heard s).evacPair = s.evacPair := rfl
@[simp] theorem heard_spareStock (d : Nat) : (heard s).spareStock d = s.spareStock d := rfl
@[simp] theorem heard_eligible (d : Nat) : (heard s).eligible d = s.eligible d := rfl
@[simp] theorem heard_reserved (d : Nat) : (heard s).reserved d = s.reserved d := rfl
@[simp] theorem heard_available (d : Nat) : (heard s).available d = s.available d := rfl
@[simp] theorem heard_resEntry (k : Nat) : (heard s).resEntry k = s.resEntry k := rfl
@[simp] theorem heard_resCount (k d : Nat) : (heard s).resCount k d = s.resCount k d := rfl
@[simp] theorem heard_reservedByOthers (k d : Nat) : (heard s).reservedByOthers k d = s.reservedByOthers k d := rfl
@[simp] theorem heard_queueFull : (heard s).queueFull = s.queueFull := rfl
@[simp] theorem heard_postingsOverdue : (heard s).postingsOverdue = s.postingsOverdue := rfl
@[simp] theorem heard_denomInUse (d : Nat) : (heard s).denomInUse d = s.denomInUse d := rfl
@[simp] theorem heard_coinNamed (d : Nat) : (heard s).coinNamed d = s.coinNamed d := rfl
@[simp] theorem heard_isTrayBuild (b : Build) : (heard s).isTrayBuild b = s.isTrayBuild b := rfl
@[simp] theorem heard_buildOf (t : Nat) : (heard s).buildOf t = s.buildOf t := rfl
@[simp] theorem heard_spineIdle : (heard s).spineIdle = s.spineIdle := rfl
@[simp] theorem heard_runningKind (k : RunKind) : (heard s).runningKind k = s.runningKind k := rfl
@[simp] theorem heard_evacRunInService : (heard s).evacRunInService = s.evacRunInService := rfl
@[simp] theorem heard_evacRunOpen : (heard s).evacRunOpen = s.evacRunOpen := rfl
@[simp] theorem heard_dispenseInProgress (k : Nat) : (heard s).dispenseInProgress k = s.dispenseInProgress k := rfl
@[simp] theorem heard_grantsOpen : (heard s).grantsOpen = s.grantsOpen := rfl
@[simp] theorem heard_canDispense (d c : Nat) (left : List Nat) : (heard s).canDispense d c left = s.canDispense d c left := rfl
@[simp] theorem heard_promoted : (heard s).promoted = s.promoted := rfl
@[simp] theorem heard_windowIsOpen : (heard s).windowIsOpen = s.windowIsOpen := rfl
@[simp] theorem heard_dispenseGrantable : (heard s).dispenseGrantable = s.dispenseGrantable := rfl
@[simp] theorem heard_evacGrantable : (heard s).evacGrantable = s.evacGrantable := rfl
@[simp] theorem heard_holdConditions : (heard s).holdConditions = s.holdConditions := rfl
@[simp] theorem heard_serviceState (m : Nat) : (heard s).serviceState m = s.serviceState m := rfl
@[simp] theorem heard_qualifyingSpare (c b : Nat) : (heard s).qualifyingSpare c b = s.qualifyingSpare c b := rfl
@[simp] theorem heard_spareFor (c : Nat) : (heard s).spareFor c = s.spareFor c := rfl
@[simp] theorem heard_isCandidate (c : Nat) : (heard s).isCandidate c = s.isCandidate c := rfl
@[simp] theorem heard_pauseCauses : (heard s).pauseCauses = s.pauseCauses := rfl
@[simp] theorem heard_offerable (n : Nat) : (heard s).offerable n = s.offerable n := rfl
@[simp] theorem heard_doorAlarmCondition : (heard s).doorAlarmCondition = s.doorAlarmCondition := rfl
@[simp] theorem heard_safeOpenCondition : (heard s).safeOpenCondition = s.safeOpenCondition := rfl
@[simp] theorem heard_bayHolder : (heard s).bayHolder = s.bayHolder := rfl
@[simp] theorem heard_bayHeldByOther (k : Nat) : (heard s).bayHeldByOther k = s.bayHeldByOther k := rfl
@[simp] theorem heard_inRegister (n : Nat) : (heard s).inRegister n = s.inRegister n := rfl
@[simp] theorem heard_isCassetteTag (n : Nat) (except : Option Nat) : (heard s).isCassetteTag n except = s.isCassetteTag n except := rfl
@[simp] theorem heard_freeContainers : (heard s).freeContainers = s.freeContainers := rfl
@[simp] theorem heard_freeLots : (heard s).freeLots = s.freeLots := rfl
@[simp] theorem heard_slotsReserved : (heard s).slotsReserved = s.slotsReserved := rfl
@[simp] theorem heard_retrievable (n : Nat) : (heard s).retrievable n = s.retrievable n := rfl
@[simp] theorem heard_anyRetrievable : (heard s).anyRetrievable = s.anyRetrievable := rfl
@[simp] theorem heard_consIn (st : ConsState) : (heard s).consIn st = s.consIn st := rfl
@[simp] theorem heard_settleBlocked (p : Nat) : (heard s).settleBlocked p = s.settleBlocked p := rfl
@[simp] theorem heard_sideClosed (x : Side) : (heard s).sideClosed x = s.sideClosed x := rfl
@[simp] theorem heard_sideInRun (x : Side) : (heard s).sideInRun x = s.sideInRun x := rfl
@[simp] theorem heard_sideHolds (x : Side) (d : Nat) : (heard s).sideHolds x d = s.sideHolds x d := rfl
@[simp] theorem heard_sideLacks (x : Side) (d n : Nat) : (heard s).sideLacks x d n = s.sideLacks x d n := rfl
@[simp] theorem heard_sideOver (x : Side) (d n : Nat) : (heard s).sideOver x d n = s.sideOver x d n := rfl
@[simp] theorem heard_pairOver (c : Nat) (n : Nat) : (heard s).pairOver c n = s.pairOver c n := rfl
@[simp] theorem heard_nextMove : (heard s).nextMove = s.nextMove := rfl
@[simp] theorem heard_overReserved (k : Nat) (c : Counts) : (heard s).overReserved k c = s.overReserved k c := rfl
@[simp] theorem heard_excess (d : Nat) : (heard s).excess d = s.excess d := rfl
@[simp] theorem heard_makeLine (a : Nat) (e : TemplateEntry) : (heard s).makeLine a e = s.makeLine a e := rfl
@[simp] theorem heard_makeAvail (own : Nat → Nat) (d : Nat) : (heard s).makeAvail own d = s.makeAvail own d := rfl
@[simp] theorem heard_makeUpFor (t : Template) : (heard s).makeUpFor t = s.makeUpFor t := rfl
@[simp] theorem heard_makeUpAgain (k : Nat) (b : Build) : (heard s).makeUpAgain k b = s.makeUpAgain k b := rfl
@[simp] theorem heard_orderOf (es : List TemplateEntry) : (heard s).orderOf es = s.orderOf es := rfl
@[simp] theorem heard_depositInService (n : Nat) : (heard s).depositInService n = s.depositInService n := rfl
@[simp] theorem heard_trayValue (b : Build) : (heard s).trayValue b = s.trayValue b := rfl
@[simp] theorem heard_reservedRolls (k : Nat) : (heard s).reservedRolls k = s.reservedRolls k := rfl
@[simp] theorem heard_nextDenom (b : Build) : (heard s).nextDenom b = s.nextDenom b := rfl
@[simp] theorem heard_cutRoll (b : Build) : (heard s).cutRoll b = s.cutRoll b := rfl
@[simp] theorem heard_occupied : (heard s).occupied = s.occupied := rfl
@[simp] theorem heard_oldestTrayBuild : (heard s).oldestTrayBuild = s.oldestTrayBuild := rfl
@[simp] theorem heard_nextAge : (heard s).nextAge = s.nextAge := rfl
@[simp] theorem heard_runInProgress : (heard s).runInProgress = s.runInProgress := rfl
@[simp] theorem heard_stackStation (n : Nat) : (heard s).stackStation n = s.stackStation n := rfl
@[simp] theorem heard_revalue (l : LotRec) : (heard s).revalue l = s.revalue l := rfl
@[simp] theorem heard_attachCommand (k n : Nat) : (heard s).attachCommand k n = s.attachCommand k n := rfl
@[simp] theorem heard_countingHolder (n : Nat) (l : LotRec) : (heard s).countingHolder n l = s.countingHolder n l := rfl
@[simp] theorem heard_stackHolder (n : Nat) (l : LotRec) : (heard s).stackHolder n l = s.stackHolder n l := rfl
@[simp] theorem heard_feederHolder (n : Nat) (l : LotRec) : (heard s).feederHolder n l = s.feederHolder n l := rfl
@[simp] theorem heard_headNames (n : Nat) : (heard s).headNames n = s.headNames n := rfl
@[simp] theorem heard_agePlace (b : Build) : (heard s).agePlace b = s.agePlace b := rfl
@[simp] theorem heard_sideItems (x : Side) : (heard s).sideItems x = s.sideItems x := rfl
@[simp] theorem heard_cassetteTakes (src d c : Nat) : (heard s).cassetteTakes src d c = s.cassetteTakes src d c := rfl
@[simp] theorem heard_reportGood (job : Nat) (h : HeadRecord) (items : List ItemRecord) (e : EndRecord) : (heard s).reportGood job h items e = s.reportGood job h items e := rfl
@[simp] theorem heard_stationFor (n : Nat) : (heard s).stationFor n = s.stationFor n := rfl
@[simp] theorem heard_faultPresent (m : Nat) : (heard s).faultPresent m = s.faultPresent m := rfl
@[simp] theorem heard_thresholdDue (c : Nat) : (heard s).thresholdDue c = s.thresholdDue c := rfl
@[simp] theorem heard_wayEligible (d c : Nat) : (heard s).wayEligible d c = s.wayEligible d c := rfl
@[simp] theorem heard_wayOf (d : Nat) (r : Range) : (heard s).wayOf d r = s.wayOf d r := rfl
@[simp] theorem heard_waysNaming (c : Nat) : (heard s).waysNaming c = s.waysNaming c := rfl
@[simp] theorem heard_strandDue : (heard s).strandDue = s.strandDue := rfl
@[simp] theorem heard_canBook (n : PathNote) (dst : Nat) : (heard s).canBook n dst = s.canBook n dst := rfl
@[simp] theorem heard_pickCassette : (heard s).pickCassette = s.pickCassette := rfl
@[simp] theorem heard_cassettePick : (heard s).cassettePick = s.cassettePick := rfl
@[simp] theorem heard_runDone : (heard s).runDone = s.runDone := rfl
@[simp] theorem heard_purgeBin (m : Nat) : (heard s).purgeBin m = s.purgeBin m := rfl
@[simp] theorem heard_grantRule : (heard s).grantRule = s.grantRule := rfl
@[simp] theorem heard_door : (heard s).door = s.door := rfl
@[simp] theorem heard_heldTooLong (d : Door) : (heard s).heldTooLong d = s.heldTooLong d := rfl
@[simp] theorem heard_mayUnlock (d : Door) : (heard s).mayUnlock d = s.mayUnlock d := rfl
@[simp] theorem heard_itemState (i : Item) : (heard s).itemState i = s.itemState i := rfl
@[simp] theorem heard_allPlaced (c : ConsRec) : (heard s).allPlaced c = s.allPlaced c := rfl
@[simp] theorem heard_officeDue : (heard s).officeDue = s.officeDue := rfl
@[simp] theorem heard_containerNumbered (n : Nat) : (heard s).containerNumbered n = s.containerNumbered n := rfl
@[simp] theorem heard_handable (slot : Nat) : (heard s).handable slot = s.handable slot := rfl
@[simp] theorem heard_lotInterrupted (n : Nat) : (heard s).lotInterrupted n = s.lotInterrupted n := rfl
@[simp] theorem heard_lotsSentBack : (heard s).lotsSentBack = s.lotsSentBack := rfl
@[simp] theorem heard_startOwner : (heard s).startOwner = s.startOwner := rfl
@[simp] theorem heard_specRecord : (heard s).specRecord = s.specRecord := rfl
@[simp] theorem heard_specCoin (i : Nat) : (heard s).specCoin i = s.specCoin i := rfl
@[simp] theorem heard_coinChanged (i : Nat) (r : DenomRec) : (heard s).coinChanged i r = s.coinChanged i r := rfl
@[simp] theorem heard_trayBusy : (heard s).trayBusy = s.trayBusy := rfl
@[simp] theorem heard_adjustBarred (p : Nat) : (heard s).adjustBarred p = s.adjustBarred p := rfl
@[simp] theorem heard_resolves (p : Nat) : (heard s).resolves p = s.resolves p := rfl
@[simp] theorem heard_buildIn (t : Nat) (ok : BuildState → Bool) : (heard s).buildIn t ok = s.buildIn t ok := rfl
@[simp] theorem heard_numbersOf (n : Nat) : (heard s).numbersOf n = s.numbersOf n := rfl
@[simp] theorem heard_shortRolls (k : Nat) (b : Build) : (heard s).shortRolls k b = s.shortRolls k b := rfl
@[simp] theorem heard_pickupLimit (r : TillRec) : (heard s).pickupLimit r = s.pickupLimit r := rfl
@[simp] theorem heard_bandOf (r : TillRec) (v : Int) : (heard s).bandOf r v = s.bandOf r v := rfl
@[simp] theorem heard_tillExtras (t : Nat) : (heard s).tillExtras t = s.tillExtras t := rfl
@[simp] theorem heard_sourceReady : (heard s).sourceReady = s.sourceReady := rfl
@[simp] theorem heard_sourceNotes : (heard s).sourceNotes = s.sourceNotes := rfl
@[simp] theorem heard_coinOps (v a : Nat) (b : Option Nat) : (heard s).coinOps v a b = s.coinOps v a b := rfl
@[simp] theorem heard_recorded (n : Nat) (src : LotSource) : (heard s).recorded n src = s.recorded n src := rfl
@[simp] theorem heard_afterSource (n : Nat) (l : LotRec) : (heard s).afterSource n l = s.afterSource n l := rfl
@[simp] theorem heard_acceptGroup (n op : Nat) (d : Disposal) (l : LotRec) : (heard s).acceptGroup n op d l = s.acceptGroup n op d l := rfl
@[simp] theorem heard_disposalRefused (d : Disposal) (l : LotRec) : (heard s).disposalRefused d l = s.disposalRefused d l := rfl
@[simp] theorem heard_acceptOps (src : LotSource) (a : Nat) (b : Option Nat) : (heard s).acceptOps src a b = s.acceptOps src a b := rfl
@[simp] theorem heard_tillRefuses (l : LotRec) : (heard s).tillRefuses l = s.tillRefuses l := rfl
@[simp] theorem heard_jobPlace (n : Nat) : (heard s).jobPlace n = s.jobPlace n := rfl
@[simp] theorem heard_noteGiven (d : Option Nat) : (heard s).noteGiven d = s.noteGiven d := rfl
@[simp] theorem heard_cassetteCount (c : Nat) : (heard s).cassetteCount c = s.cassetteCount c := rfl
@[simp] theorem heard_removable (c : Nat) (o : RemoveOption) : (heard s).removable c o = s.removable c o := rfl
@[simp] theorem heard_requestTable : (heard s).requestTable = s.requestTable := rfl
@[simp] theorem heard_closedConditions : (heard s).closedConditions = s.closedConditions := rfl
@[simp] theorem heard_numberTaken (n : Nat) : (heard s).numberTaken n = s.numberTaken n := rfl
@[simp] theorem heard_bagOpen (n : Nat) : (heard s).bagOpen n = s.bagOpen n := rfl
@[simp] theorem heard_containerEmpty (n : Nat) : (heard s).containerEmpty n = s.containerEmpty n := rfl
@[simp] theorem heard_itemOk (i : DeliveryItemReq) : (heard s).itemOk i = s.itemOk i := rfl
@[simp] theorem heard_createOk (q : CreateConsignmentReq) (k : ConsKind) : (heard s).createOk q k = s.createOk q k := rfl
@[simp] theorem heard_itemsDefined (l : List DeliveryItemReq) : (heard s).itemsDefined l = s.itemsDefined l := rfl
@[simp] theorem heard_consSlot : (heard s).consSlot = s.consSlot := rfl
@[simp] theorem heard_addable (n : Nat) : (heard s).addable n = s.addable n := rfl
@[simp] theorem heard_strangerInBay (k : Nat) : (heard s).strangerInBay k = s.strangerInBay k := rfl
@[simp] theorem heard_stageable (c : ConsRec) : (heard s).stageable c = s.stageable c := rfl
@[simp] theorem heard_deliveryBarred (k : Nat) (c : ConsRec) : (heard s).deliveryBarred k c = s.deliveryBarred k c := rfl
@[simp] theorem heard_retrievalBarred : (heard s).retrievalBarred = s.retrievalBarred := rfl
@[simp] theorem heard_itemValue (c : ConsRec) (i : Item) : (heard s).itemValue c i = s.itemValue c i := rfl
@[simp] theorem heard_slotsInBay : (heard s).slotsInBay = s.slotsInBay := rfl
@[simp] theorem heard_numberHeld (n except : Nat) : (heard s).numberHeld n except = s.numberHeld n except := rfl
@[simp] theorem heard_restartBarred : (heard s).restartBarred = s.restartBarred := rfl
@[simp] theorem heard_recordFor (n : Nat) : (heard s).recordFor n = s.recordFor n := rfl
@[simp] theorem heard_turnOf (n : Nat) : (heard s).turnOf n = s.turnOf n := rfl
@[simp] theorem heard_cycleStations : (heard s).cycleStations = s.cycleStations := rfl
@[simp] theorem heard_hasJob (n : Nat) : (heard s).hasJob n = s.hasJob n := rfl
@[simp] theorem heard_picksFrom (p : PickPoint) : (heard s).picksFrom p = s.picksFrom p := rfl
@[simp] theorem heard_stillHeld (p d : Nat) : (heard s).stillHeld p d = s.stillHeld p d := rfl
@[simp] theorem heard_escrowRoom (d : Nat) : (heard s).escrowRoom d = s.escrowRoom d := rfl
@[simp] theorem heard_routesInto (m : Nat) : (heard s).routesInto m = s.routesInto m := rfl
@[simp] theorem heard_runUses (m : Nat) : (heard s).runUses m = s.runUses m := rfl

@[simp] theorem heard_checkMovement (m : Movement) (ofRun : Bool) :
    checkMovement m ofRun (heard s) = checkMovement m ofRun s := rfl
@[simp] theorem heard_freeSlot : freeSlot (heard s) = freeSlot s := rfl
@[simp] theorem heard_collectMoves (c n a b : Nat) : collectMoves (heard s) c n a b = collectMoves s c n a b := rfl
@[simp] theorem heard_recoveryMove (c n a b : Nat) : recoveryMove (heard s) c n a b = recoveryMove s c n a b := rfl
@[simp] theorem heard_newBuild (t : Nat) (x : Template) (c : Counts) (n : Nat) :
    newBuild (heard s) t x c n = newBuild s t x c n := rfl
@[simp] theorem heard_reconcile (r : TillRec) : reconcile (heard s) r = reconcile s r := rfl
@[simp] theorem heard_rebuilt (b : Build) (c : Counts) (n : Nat) : rebuilt (heard s) b c n = rebuilt s b c n := rfl

end Sys2Proof.Machine
end

