-- ==== Sys2Proof/Laws/PerInstr.lean ====
section
/-! SUPPORT. The family `Code`: what holds of every command as syntax. A command that is a request of Table 11-2 carries a
tag of one byte when it is well-formed, and a frame with its code is read as a request of that code and of the frame's
tag, whatever its body (R203). -/

namespace Sys2Proof.Laws.Code

/-- The statement for one command. -/
def Statement (i : Instr) : Prop :=
  ∀ c, requestCode i = some c →
    (∀ t, requestTag i = some t → i.wf = true → t < 256) ∧
      ∀ tag body, requestCode (decodeRequest c tag body) = some c ∧ requestTag (decodeRequest c tag body) = some tag

/-- A well-formed command's tag, checked first, fits a byte. -/
theorem tag_fits {t : Nat} {b : Bool} (h : (fits 1 t && b) = true) : t < 256 := by
  simp only [fits, Bool.and_eq_true, decide_eq_true_eq] at h
  omega

/-- The same where the body needs no check. -/
theorem tag_fits' {t : Nat} (h : fits 1 t = true) : t < 256 := by
  simp only [fits, decide_eq_true_eq] at h
  omega

theorem setDenomination (tag : Nat) (body : Body SetDenominationReq) :
    Statement (.setDenomination tag body) := by
  rintro _ ⟨⟩
  exact ⟨fun t ht h => by cases ht; exact tag_fits h, fun _ _ => ⟨rfl, rfl⟩⟩

theorem clearDenomination (tag : Nat) (body : Body Nat) : Statement (.clearDenomination tag body) := by
  rintro _ ⟨⟩
  exact ⟨fun t ht h => by cases ht; exact tag_fits h, fun _ _ => ⟨rfl, rfl⟩⟩

theorem queryStock (tag : Nat) (body : Body Unit) : Statement (.queryStock tag body) := by
  rintro _ ⟨⟩
  exact ⟨fun t ht h => by cases ht; exact tag_fits' h, fun _ _ => ⟨rfl, rfl⟩⟩

theorem queryPosition (tag : Nat) (body : Body QueryPositionReq) :
    Statement (.queryPosition tag body) := by
  rintro _ ⟨⟩
  exact ⟨fun t ht h => by cases ht; exact tag_fits h, fun _ _ => ⟨rfl, rfl⟩⟩

theorem postPosition (tag : Nat) (body : Body Nat) : Statement (.postPosition tag body) := by
  rintro _ ⟨⟩
  exact ⟨fun t ht h => by cases ht; exact tag_fits h, fun _ _ => ⟨rfl, rfl⟩⟩

theorem setPostingMode (tag : Nat) (body : Body SetPostingModeReq) :
    Statement (.setPostingMode tag body) := by
  rintro _ ⟨⟩
  exact ⟨fun t ht h => by cases ht; exact tag_fits h, fun _ _ => ⟨rfl, rfl⟩⟩

theorem fetchPostings (tag : Nat) (body : Body Nat) : Statement (.fetchPostings tag body) := by
  rintro _ ⟨⟩
  exact ⟨fun t ht h => by cases ht; exact tag_fits h, fun _ _ => ⟨rfl, rfl⟩⟩

theorem adjustPosition (tag : Nat) (body : Body AdjustReq) : Statement (.adjustPosition tag body) := by
  rintro _ ⟨⟩
  exact ⟨fun t ht h => by cases ht; exact tag_fits h, fun _ _ => ⟨rfl, rfl⟩⟩

theorem opening (tag : Nat) (body : Body OpeningReq) : Statement (.opening tag body) := by
  rintro _ ⟨⟩
  exact ⟨fun t ht h => by cases ht; exact tag_fits h, fun _ _ => ⟨rfl, rfl⟩⟩

theorem setTemplate (tag : Nat) (body : Body SetTemplateReq) : Statement (.setTemplate tag body) := by
  rintro _ ⟨⟩
  exact ⟨fun t ht h => by cases ht; exact tag_fits h, fun _ _ => ⟨rfl, rfl⟩⟩

theorem buildFloat (tag : Nat) (body : Body BuildFloatReq) : Statement (.buildFloat tag body) := by
  rintro _ ⟨⟩
  exact ⟨fun t ht h => by cases ht; exact tag_fits h, fun _ _ => ⟨rfl, rfl⟩⟩

theorem floatHanded (tag : Nat) (body : Body TillOpReq) : Statement (.floatHanded tag body) := by
  rintro _ ⟨⟩
  exact ⟨fun t ht h => by cases ht; exact tag_fits h, fun _ _ => ⟨rfl, rfl⟩⟩

theorem acceptShort (tag : Nat) (body : Body TillOpReq) : Statement (.acceptShort tag body) := by
  rintro _ ⟨⟩
  exact ⟨fun t ht h => by cases ht; exact tag_fits h, fun _ _ => ⟨rfl, rfl⟩⟩

theorem rebuild (tag : Nat) (body : Body Nat) : Statement (.rebuild tag body) := by
  rintro _ ⟨⟩
  exact ⟨fun t ht h => by cases ht; exact tag_fits h, fun _ _ => ⟨rfl, rfl⟩⟩

theorem cancelBuild (tag : Nat) (body : Body Nat) : Statement (.cancelBuild tag body) := by
  rintro _ ⟨⟩
  exact ⟨fun t ht h => by cases ht; exact tag_fits h, fun _ _ => ⟨rfl, rfl⟩⟩

theorem queryBuilds (tag : Nat) (body : Body Unit) : Statement (.queryBuilds tag body) := by
  rintro _ ⟨⟩
  exact ⟨fun t ht h => by cases ht; exact tag_fits' h, fun _ _ => ⟨rfl, rfl⟩⟩

theorem reportSales (tag : Nat) (body : Body ReportSalesReq) : Statement (.reportSales tag body) := by
  rintro _ ⟨⟩
  exact ⟨fun t ht h => by cases ht; exact tag_fits h, fun _ _ => ⟨rfl, rfl⟩⟩

theorem acceptVariance (tag : Nat) (body : Body AcceptVarianceReq) :
    Statement (.acceptVariance tag body) := by
  rintro _ ⟨⟩
  exact ⟨fun t ht h => by cases ht; exact tag_fits h, fun _ _ => ⟨rfl, rfl⟩⟩

theorem closeTill (tag : Nat) (body : Body Nat) : Statement (.closeTill tag body) := by
  rintro _ ⟨⟩
  exact ⟨fun t ht h => by cases ht; exact tag_fits h, fun _ _ => ⟨rfl, rfl⟩⟩

theorem queryTill (tag : Nat) (body : Body Nat) : Statement (.queryTill tag body) := by
  rintro _ ⟨⟩
  exact ⟨fun t ht h => by cases ht; exact tag_fits h, fun _ _ => ⟨rfl, rfl⟩⟩

theorem setLine (tag : Nat) (body : Body SetLineReq) : Statement (.setLine tag body) := by
  rintro _ ⟨⟩
  exact ⟨fun t ht h => by cases ht; exact tag_fits h, fun _ _ => ⟨rfl, rfl⟩⟩

theorem resetStation (tag : Nat) (body : Body Nat) : Statement (.resetStation tag body) := by
  rintro _ ⟨⟩
  exact ⟨fun t ht h => by cases ht; exact tag_fits h, fun _ _ => ⟨rfl, rfl⟩⟩

theorem stationQuery (tag : Nat) (body : Body Nat) : Statement (.stationQuery tag body) := by
  rintro _ ⟨⟩
  exact ⟨fun t ht h => by cases ht; exact tag_fits h, fun _ _ => ⟨rfl, rfl⟩⟩

theorem startCount (tag : Nat) (body : Body StartCountReq) : Statement (.startCount tag body) := by
  rintro _ ⟨⟩
  exact ⟨fun t ht h => by cases ht; exact tag_fits h, fun _ _ => ⟨rfl, rfl⟩⟩

theorem declareCoin (tag : Nat) (body : Body DeclareCoinReq) : Statement (.declareCoin tag body) := by
  rintro _ ⟨⟩
  exact ⟨fun t ht h => by cases ht; exact tag_fits h, fun _ _ => ⟨rfl, rfl⟩⟩

theorem setCoinLimit (tag : Nat) (body : Body Nat) : Statement (.setCoinLimit tag body) := by
  rintro _ ⟨⟩
  exact ⟨fun t ht h => by cases ht; exact tag_fits h, fun _ _ => ⟨rfl, rfl⟩⟩

theorem acceptCount (tag : Nat) (body : Body AcceptCountReq) : Statement (.acceptCount tag body) := by
  rintro _ ⟨⟩
  exact ⟨fun t ht h => by cases ht; exact tag_fits h, fun _ _ => ⟨rfl, rfl⟩⟩

theorem rejectCount (tag : Nat) (body : Body Nat) : Statement (.rejectCount tag body) := by
  rintro _ ⟨⟩
  exact ⟨fun t ht h => by cases ht; exact tag_fits h, fun _ _ => ⟨rfl, rfl⟩⟩

theorem voidLot (tag : Nat) (body : Body Nat) : Statement (.voidLot tag body) := by
  rintro _ ⟨⟩
  exact ⟨fun t ht h => by cases ht; exact tag_fits h, fun _ _ => ⟨rfl, rfl⟩⟩

theorem resumeDisposal (tag : Nat) (body : Body Nat) : Statement (.resumeDisposal tag body) := by
  rintro _ ⟨⟩
  exact ⟨fun t ht h => by cases ht; exact tag_fits h, fun _ _ => ⟨rfl, rfl⟩⟩

theorem disposeLotReserve (tag : Nat) (body : Body DisposeLotReserveReq) :
    Statement (.disposeLotReserve tag body) := by
  rintro _ ⟨⟩
  exact ⟨fun t ht h => by cases ht; exact tag_fits h, fun _ _ => ⟨rfl, rfl⟩⟩

theorem queryLot (tag : Nat) (body : Body Nat) : Statement (.queryLot tag body) := by
  rintro _ ⟨⟩
  exact ⟨fun t ht h => by cases ht; exact tag_fits h, fun _ _ => ⟨rfl, rfl⟩⟩

theorem queryJobs (tag : Nat) (body : Body Unit) : Statement (.queryJobs tag body) := by
  rintro _ ⟨⟩
  exact ⟨fun t ht h => by cases ht; exact tag_fits' h, fun _ _ => ⟨rfl, rfl⟩⟩

theorem setCassette (tag : Nat) (body : Body SetCassetteReq) : Statement (.setCassette tag body) := by
  rintro _ ⟨⟩
  exact ⟨fun t ht h => by cases ht; exact tag_fits h, fun _ _ => ⟨rfl, rfl⟩⟩

theorem insertCassette (tag : Nat) (body : Body InsertCassetteReq) :
    Statement (.insertCassette tag body) := by
  rintro _ ⟨⟩
  exact ⟨fun t ht h => by cases ht; exact tag_fits h, fun _ _ => ⟨rfl, rfl⟩⟩

theorem removeCassette (tag : Nat) (body : Body RemoveCassetteReq) :
    Statement (.removeCassette tag body) := by
  rintro _ ⟨⟩
  exact ⟨fun t ht h => by cases ht; exact tag_fits h, fun _ _ => ⟨rfl, rfl⟩⟩

theorem setRoute (tag : Nat) (body : Body SetRouteReq) : Statement (.setRoute tag body) := by
  rintro _ ⟨⟩
  exact ⟨fun t ht h => by cases ht; exact tag_fits h, fun _ _ => ⟨rfl, rfl⟩⟩

theorem queryRecycler (tag : Nat) (body : Body Unit) : Statement (.queryRecycler tag body) := by
  rintro _ ⟨⟩
  exact ⟨fun t ht h => by cases ht; exact tag_fits' h, fun _ _ => ⟨rfl, rfl⟩⟩

theorem setArbiter (tag : Nat) (body : Body SetArbiterReq) : Statement (.setArbiter tag body) := by
  rintro _ ⟨⟩
  exact ⟨fun t ht h => by cases ht; exact tag_fits h, fun _ _ => ⟨rfl, rfl⟩⟩

theorem openFloatWindow (tag : Nat) (body : Body Nat) : Statement (.openFloatWindow tag body) := by
  rintro _ ⟨⟩
  exact ⟨fun t ht h => by cases ht; exact tag_fits h, fun _ _ => ⟨rfl, rfl⟩⟩

theorem closeFloatWindow (tag : Nat) (body : Body Unit) : Statement (.closeFloatWindow tag body) := by
  rintro _ ⟨⟩
  exact ⟨fun t ht h => by cases ht; exact tag_fits' h, fun _ _ => ⟨rfl, rfl⟩⟩

theorem queryArbiter (tag : Nat) (body : Body Unit) : Statement (.queryArbiter tag body) := by
  rintro _ ⟨⟩
  exact ⟨fun t ht h => by cases ht; exact tag_fits' h, fun _ _ => ⟨rfl, rfl⟩⟩

theorem setFaultPolicy (tag : Nat) (body : Body SetFaultPolicyReq) :
    Statement (.setFaultPolicy tag body) := by
  rintro _ ⟨⟩
  exact ⟨fun t ht h => by cases ht; exact tag_fits h, fun _ _ => ⟨rfl, rfl⟩⟩

theorem clearBucket (tag : Nat) (body : Body SlotOpsReq) : Statement (.clearBucket tag body) := by
  rintro _ ⟨⟩
  exact ⟨fun t ht h => by cases ht; exact tag_fits h, fun _ _ => ⟨rfl, rfl⟩⟩

theorem setEvacuation (tag : Nat) (body : Body SetEvacuationReq) :
    Statement (.setEvacuation tag body) := by
  rintro _ ⟨⟩
  exact ⟨fun t ht h => by cases ht; exact tag_fits h, fun _ _ => ⟨rfl, rfl⟩⟩

theorem startEvacuation (tag : Nat) (body : Body SlotOpsReq) : Statement (.startEvacuation tag body) := by
  rintro _ ⟨⟩
  exact ⟨fun t ht h => by cases ht; exact tag_fits h, fun _ _ => ⟨rfl, rfl⟩⟩

theorem queryEvacuation (tag : Nat) (body : Body Unit) : Statement (.queryEvacuation tag body) := by
  rintro _ ⟨⟩
  exact ⟨fun t ht h => by cases ht; exact tag_fits' h, fun _ _ => ⟨rfl, rfl⟩⟩

theorem openBag (tag : Nat) (body : Body Nat) : Statement (.openBag tag body) := by
  rintro _ ⟨⟩
  exact ⟨fun t ht h => by cases ht; exact tag_fits h, fun _ _ => ⟨rfl, rfl⟩⟩

theorem fillBag (tag : Nat) (body : Body FillBagReq) : Statement (.fillBag tag body) := by
  rintro _ ⟨⟩
  exact ⟨fun t ht h => by cases ht; exact tag_fits h, fun _ _ => ⟨rfl, rfl⟩⟩

theorem closeBag (tag : Nat) (body : Body Nat) : Statement (.closeBag tag body) := by
  rintro _ ⟨⟩
  exact ⟨fun t ht h => by cases ht; exact tag_fits h, fun _ _ => ⟨rfl, rfl⟩⟩

theorem discardContainer (tag : Nat) (body : Body Nat) : Statement (.discardContainer tag body) := by
  rintro _ ⟨⟩
  exact ⟨fun t ht h => by cases ht; exact tag_fits h, fun _ _ => ⟨rfl, rfl⟩⟩

theorem createConsignment (tag : Nat) (body : Body CreateConsignmentReq) :
    Statement (.createConsignment tag body) := by
  rintro _ ⟨⟩
  exact ⟨fun t ht h => by cases ht; exact tag_fits h, fun _ _ => ⟨rfl, rfl⟩⟩

theorem addItem (tag : Nat) (body : Body AddItemReq) : Statement (.addItem tag body) := by
  rintro _ ⟨⟩
  exact ⟨fun t ht h => by cases ht; exact tag_fits h, fun _ _ => ⟨rfl, rfl⟩⟩

theorem stage (tag : Nat) (body : Body Nat) : Statement (.stage tag body) := by
  rintro _ ⟨⟩
  exact ⟨fun t ht h => by cases ht; exact tag_fits h, fun _ _ => ⟨rfl, rfl⟩⟩

theorem engage (tag : Nat) (body : Body EngageReq) : Statement (.engage tag body) := by
  rintro _ ⟨⟩
  exact ⟨fun t ht h => by cases ht; exact tag_fits h, fun _ _ => ⟨rfl, rfl⟩⟩

theorem retrieve (tag : Nat) (body : Body Unit) : Statement (.retrieve tag body) := by
  rintro _ ⟨⟩
  exact ⟨fun t ht h => by cases ht; exact tag_fits' h, fun _ _ => ⟨rfl, rfl⟩⟩

theorem lockBay (tag : Nat) (body : Body Unit) : Statement (.lockBay tag body) := by
  rintro _ ⟨⟩
  exact ⟨fun t ht h => by cases ht; exact tag_fits' h, fun _ _ => ⟨rfl, rfl⟩⟩

theorem abort (tag : Nat) (body : Body Nat) : Statement (.abort tag body) := by
  rintro _ ⟨⟩
  exact ⟨fun t ht h => by cases ht; exact tag_fits h, fun _ _ => ⟨rfl, rfl⟩⟩

theorem setDoorLimit (tag : Nat) (body : Body Nat) : Statement (.setDoorLimit tag body) := by
  rintro _ ⟨⟩
  exact ⟨fun t ht h => by cases ht; exact tag_fits h, fun _ _ => ⟨rfl, rfl⟩⟩

theorem queryContainer (tag : Nat) (body : Body Nat) : Statement (.queryContainer tag body) := by
  rintro _ ⟨⟩
  exact ⟨fun t ht h => by cases ht; exact tag_fits h, fun _ _ => ⟨rfl, rfl⟩⟩

theorem queryConsignment (tag : Nat) (body : Body Nat) : Statement (.queryConsignment tag body) := by
  rintro _ ⟨⟩
  exact ⟨fun t ht h => by cases ht; exact tag_fits h, fun _ _ => ⟨rfl, rfl⟩⟩

theorem queryBay (tag : Nat) (body : Body Unit) : Statement (.queryBay tag body) := by
  rintro _ ⟨⟩
  exact ⟨fun t ht h => by cases ht; exact tag_fits' h, fun _ _ => ⟨rfl, rfl⟩⟩

theorem enterHold (tag : Nat) (body : Body Unit) : Statement (.enterHold tag body) := by
  rintro _ ⟨⟩
  exact ⟨fun t ht h => by cases ht; exact tag_fits' h, fun _ _ => ⟨rfl, rfl⟩⟩

theorem leaveHold (tag : Nat) (body : Body Unit) : Statement (.leaveHold tag body) := by
  rintro _ ⟨⟩
  exact ⟨fun t ht h => by cases ht; exact tag_fits' h, fun _ _ => ⟨rfl, rfl⟩⟩

theorem setRosterEntry (tag : Nat) (body : Body SetRosterReq) : Statement (.setRosterEntry tag body) := by
  rintro _ ⟨⟩
  exact ⟨fun t ht h => by cases ht; exact tag_fits h, fun _ _ => ⟨rfl, rfl⟩⟩

theorem openSafe (tag : Nat) (body : Body OpenSafeReq) : Statement (.openSafe tag body) := by
  rintro _ ⟨⟩
  exact ⟨fun t ht h => by cases ht; exact tag_fits h, fun _ _ => ⟨rfl, rfl⟩⟩

theorem closeSafe (tag : Nat) (body : Body Unit) : Statement (.closeSafe tag body) := by
  rintro _ ⟨⟩
  exact ⟨fun t ht h => by cases ht; exact tag_fits' h, fun _ _ => ⟨rfl, rfl⟩⟩

theorem setSafeRelock (tag : Nat) (body : Body Nat) : Statement (.setSafeRelock tag body) := by
  rintro _ ⟨⟩
  exact ⟨fun t ht h => by cases ht; exact tag_fits h, fun _ _ => ⟨rfl, rfl⟩⟩

theorem setClock (tag : Nat) (body : Body Nat) : Statement (.setClock tag body) := by
  rintro _ ⟨⟩
  exact ⟨fun t ht h => by cases ht; exact tag_fits h, fun _ _ => ⟨rfl, rfl⟩⟩

theorem clearFaultRecord (tag : Nat) (body : Body Unit) : Statement (.clearFaultRecord tag body) := by
  rintro _ ⟨⟩
  exact ⟨fun t ht h => by cases ht; exact tag_fits' h, fun _ _ => ⟨rfl, rfl⟩⟩

theorem getStatus (tag : Nat) (body : Body Unit) : Statement (.getStatus tag body) := by
  rintro _ ⟨⟩
  exact ⟨fun t ht h => by cases ht; exact tag_fits' h, fun _ _ => ⟨rfl, rfl⟩⟩

theorem restart (tag : Nat) (body : Body Unit) : Statement (.restart tag body) := by
  rintro _ ⟨⟩
  exact ⟨fun t ht h => by cases ht; exact tag_fits' h, fun _ _ => ⟨rfl, rfl⟩⟩

theorem unknownRequest (code tag : Nat) : Statement (.unknownRequest code tag) := by
  rintro _ ⟨⟩

theorem linkBusy (code tag : Nat) : Statement (.linkBusy code tag) := by
  rintro _ ⟨⟩

theorem droppedFrame (reason : DropReason) : Statement (.droppedFrame reason) := by
  rintro _ ⟨⟩

theorem byteGapTimeout : Statement (.byteGapTimeout) := by
  rintro _ ⟨⟩

theorem lineBreak : Statement (.lineBreak) := by
  rintro _ ⟨⟩

theorem frameSent : Statement (.frameSent) := by
  rintro _ ⟨⟩

theorem powerOn (storeGood : Bool) : Statement (.powerOn storeGood) := by
  rintro _ ⟨⟩

theorem powerLoss : Statement (.powerLoss) := by
  rintro _ ⟨⟩

theorem clockTick : Statement (.clockTick) := by
  rintro _ ⟨⟩

theorem windowOpen (consignment : Fin 8) : Statement (.windowOpen consignment) := by
  rintro _ ⟨⟩

theorem windowClose (consignment : Fin 8) : Statement (.windowClose consignment) := by
  rintro _ ⟨⟩

theorem floatWindowExpiry : Statement (.floatWindowExpiry) := by
  rintro _ ⟨⟩

theorem heldOpen (door : Door) : Statement (.heldOpen door) := by
  rintro _ ⟨⟩

theorem courierDoorTimeout : Statement (.courierDoorTimeout) := by
  rintro _ ⟨⟩

theorem relockTime : Statement (.relockTime) := by
  rintro _ ⟨⟩

theorem safeSensorOpen : Statement (.safeSensorOpen) := by
  rintro _ ⟨⟩

theorem safeSensorClosed : Statement (.safeSensorClosed) := by
  rintro _ ⟨⟩

theorem officeDoorOpened : Statement (.officeDoorOpened) := by
  rintro _ ⟨⟩

theorem officeDoorClosed : Statement (.officeDoorClosed) := by
  rintro _ ⟨⟩

theorem courierDoorOpened : Statement (.courierDoorOpened) := by
  rintro _ ⟨⟩

theorem courierDoorClosed : Statement (.courierDoorClosed) := by
  rintro _ ⟨⟩

theorem officeSideRead (number : Nat) : Statement (.officeSideRead number) := by
  rintro _ ⟨⟩

theorem courierSideRead (number : Nat) : Statement (.courierSideRead number) := by
  rintro _ ⟨⟩

theorem pollCycle : Statement (.pollCycle) := by
  rintro _ ⟨⟩

theorem attachMark : Statement (.attachMark) := by
  rintro _ ⟨⟩

theorem recordSent (signals : List Nat) : Statement (.recordSent signals) := by
  rintro _ ⟨⟩

theorem replyTimeout : Statement (.replyTimeout) := by
  rintro _ ⟨⟩

theorem recordGapTimeout (signals : List Nat) : Statement (.recordGapTimeout signals) := by
  rintro _ ⟨⟩

theorem failedRecord (signals : List Nat) : Statement (.failedRecord signals) := by
  rintro _ ⟨⟩

theorem stationState (station : Fin 4) (signals : List Nat) (mech : Option MechState) (stack : Nat) :
    Statement (.stationState station signals mech stack) := by
  rintro _ ⟨⟩

theorem reportHead (station : Fin 4) (signals : List Nat) (head : HeadRecord) :
    Statement (.reportHead station signals head) := by
  rintro _ ⟨⟩

theorem reportItem (station : Fin 4) (signals : List Nat) (item : ItemRecord) :
    Statement (.reportItem station signals item) := by
  rintro _ ⟨⟩

theorem reportEnd (station : Fin 4) (signals : List Nat) (last : EndRecord) :
    Statement (.reportEnd station signals last) := by
  rintro _ ⟨⟩

theorem reportQuietTimeout : Statement (.reportQuietTimeout) := by
  rintro _ ⟨⟩

theorem reportRecordTimeout : Statement (.reportRecordTimeout) := by
  rintro _ ⟨⟩

theorem noteRead (point : ReadPoint) (reading : Reading) : Statement (.noteRead point reading) := by
  rintro _ ⟨⟩

theorem noteArrived (dest : Arrival) : Statement (.noteArrived dest) := by
  rintro _ ⟨⟩

theorem misfeed (point : PickPoint) : Statement (.misfeed point) := by
  rintro _ ⟨⟩

theorem doublePick (point : PickPoint) : Statement (.doublePick point) := by
  rintro _ ⟨⟩

theorem jam (point : JamPoint) : Statement (.jam point) := by
  rintro _ ⟨⟩

theorem moduleFault (m : Fin 2) : Statement (.moduleFault m) := by
  rintro _ ⟨⟩

theorem moduleFaultCleared (m : Fin 2) : Statement (.moduleFaultCleared m) := by
  rintro _ ⟨⟩

theorem headEmpty (h : Fin 2) : Statement (.headEmpty h) := by
  rintro _ ⟨⟩

theorem headLoaded (h : Fin 2) : Statement (.headLoaded h) := by
  rintro _ ⟨⟩

theorem tagCheckDone (m : Fin 2) (tags : Tab 6 (Option Nat)) : Statement (.tagCheckDone m tags) := by
  rintro _ ⟨⟩

theorem purgeEnded (clear : Bool) (notes : Nat) : Statement (.purgeEnded clear notes) := by
  rintro _ ⟨⟩

end Sys2Proof.Laws.Code
end

