-- ==== Sys2Proof/Laws/Wire.lean ====
section
/-! SUPPORT. What the cut of a long reply body leaves (R205). -/

namespace Sys2Proof.Machine

theorem fieldBytes_append (a b : List Field) : fieldBytes (a ++ b) = fieldBytes a + fieldBytes b := by
  induction a with
  | nil => simp [fieldBytes]
  | cons x a ih => simp only [fieldBytes, List.cons_append, List.map_cons, List.foldr_cons] at ih ⊢; omega

/-- The items taken fit in the room. -/
theorem itemsThatFit_le (room : Nat) (l : List (List Field)) : fieldBytes (itemsThatFit room l).flatten ≤ room := by
  induction l generalizing room with
  | nil => simp [itemsThatFit, fieldBytes]
  | cons x l ih =>
    simp only [itemsThatFit]
    split
    · have := ih (room - fieldBytes x)
      simp only [List.flatten_cons, fieldBytes_append]; omega
    · simp [fieldBytes]

/-- The items taken are the first of the list. -/
theorem itemsThatFit_prefix (room : Nat) (l : List (List Field)) : itemsThatFit room l <+: l := by
  induction l generalizing room with
  | nil => simp [itemsThatFit]
  | cons x l ih =>
    simp only [itemsThatFit]
    split
    · exact List.cons_prefix_cons.2 ⟨rfl, ih _⟩
    · exact List.nil_prefix

/-- The bytes of a reply's items, without the counts and the fields after the lists. -/
def itemBytes (l : List (List (List Field) × List (List Field))) : Nat := (l.map fun q => fieldBytes q.1.flatten).sum

/-- A cut changes no field after a list; it takes at least what was over and is over no more, and where something is still
over no item is left. -/
theorem cutLists_bytes (n : Nat) (l : List (List (List Field) × List (List Field))) :
    (cutLists n l).2.map Prod.snd = l.map Prod.snd ∧
      itemBytes (cutLists n l).2 + (n - (cutLists n l).1) ≤ itemBytes l ∧
      ((cutLists n l).1 = 0 ∨ itemBytes (cutLists n l).2 = 0) := by
  induction l with
  | nil => simp [cutLists, itemBytes]
  | cons q l ih =>
    obtain ⟨items, rest⟩ := q
    obtain ⟨h1, h2, h3⟩ := ih
    have h4 := itemsThatFit_le (fieldBytes items.flatten - (cutLists n l).1) items
    simp only [cutLists, itemBytes, List.map_cons, List.sum_cons, List.cons.injEq, true_and] at h1 h2 h3 ⊢
    exact ⟨h1, by omega, by omega⟩

theorem natBytes_length (k n : Nat) : (natBytes k n).length = k := by
  induction k with
  | zero => rfl
  | succ k ih => simp [natBytes, ih]

/-- The fields take the bytes their widths say. -/
theorem fieldsBytes_length (l : List Field) : (fieldsBytes l).length = fieldBytes l := by
  induction l with
  | nil => rfl
  | cons x l ih =>
    simp only [fieldsBytes, fieldBytes, List.map_cons, List.flatten_cons, List.length_append, List.foldr_cons] at ih ⊢
    rw [ih, Field.encode, natBytes_length]

/-- No reply body exceeds 512 bytes, R205. -/
theorem replyBody_length_le (r : Reply) : (replyBody r).length ≤ 512 := by
  have h := itemsThatFit_le (Config.maxReplyBody - 1) r.data
  simp only [replyBody, List.length_cons, fieldsBytes_length, Config.maxReplyBody] at h ⊢
  omega

end Sys2Proof.Machine
end

