-- ==== Sys2Proof/Tests/Slice0.lean ====
section
/-! SUPPORT. The model's own tests: ill-formed commands refused, the bytes of frames and records, the worked cases of the
spec, one step of each family, and, for each statement with hypotheses, a state and operands that meet them
(`witness_<statement>`). Every expected figure is the spec's or formed by hand from it. -/

namespace Sys2Proof.Tests

open Sys2Proof.Machine

-- The theorems of this file wait for one another in the kernel; elaborated in order, they need few threads.
set_option Elab.async false

/-! ### Ill-formed commands -/

/-- Every request refuses a tag wider than a byte (Table 11-1). -/
theorem test_wf_tags : ([.setDenomination 256 .bad, .clearDenomination 256 .bad, .queryStock 256 .bad,
    .queryPosition 256 .bad, .postPosition 256 .bad, .setPostingMode 256 .bad, .fetchPostings 256 .bad,
    .adjustPosition 256 .bad, .opening 256 .bad, .setTemplate 256 .bad, .buildFloat 256 .bad, .floatHanded 256 .bad,
    .acceptShort 256 .bad, .rebuild 256 .bad, .cancelBuild 256 .bad, .queryBuilds 256 .bad, .reportSales 256 .bad,
    .acceptVariance 256 .bad, .closeTill 256 .bad, .queryTill 256 .bad, .setLine 256 .bad, .resetStation 256 .bad,
    .stationQuery 256 .bad, .startCount 256 .bad, .declareCoin 256 .bad, .setCoinLimit 256 .bad, .acceptCount 256 .bad,
    .rejectCount 256 .bad, .voidLot 256 .bad, .resumeDisposal 256 .bad, .disposeLotReserve 256 .bad, .queryLot 256 .bad,
    .queryJobs 256 .bad, .setCassette 256 .bad, .insertCassette 256 .bad, .removeCassette 256 .bad, .setRoute 256 .bad,
    .queryRecycler 256 .bad, .setArbiter 256 .bad, .openFloatWindow 256 .bad, .closeFloatWindow 256 .bad,
    .queryArbiter 256 .bad, .setFaultPolicy 256 .bad, .clearBucket 256 .bad, .setEvacuation 256 .bad,
    .startEvacuation 256 .bad, .queryEvacuation 256 .bad, .openBag 256 .bad, .fillBag 256 .bad, .closeBag 256 .bad,
    .discardContainer 256 .bad, .createConsignment 256 .bad, .addItem 256 .bad, .stage 256 .bad, .engage 256 .bad,
    .retrieve 256 .bad, .lockBay 256 .bad, .abort 256 .bad, .setDoorLimit 256 .bad, .queryContainer 256 .bad,
    .queryConsignment 256 .bad, .queryBay 256 .bad, .enterHold 256 .bad, .leaveHold 256 .bad, .setRosterEntry 256 .bad,
    .openSafe 256 .bad, .closeSafe 256 .bad, .setSafeRelock 256 .bad, .setClock 256 .bad, .clearFaultRecord 256 .bad,
    .getStatus 256 .bad, .restart 256 .bad, .unknownRequest 1 256, .unknownRequest 256 1, .linkBusy 1 256,
    .linkBusy 256 1] : List Instr).all (fun c => !c.wf) = true := by decide +kernel

/-- Fields of the book's and the till desk's requests wider than the bytes that carry them. -/
theorem test_wf_money_fields : ([.setDenomination 1 (.good ⟨256, .note 1⟩), .setDenomination 1 (.good ⟨0, .note 16777216⟩),
    .setDenomination 1 (.good ⟨0, .coin 16777216⟩), .setDenomination 1 (.good ⟨0, .roll 256 2⟩),
    .setDenomination 1 (.good ⟨0, .roll 4 256⟩), .clearDenomination 1 (.good 256), .queryPosition 1 (.good ⟨256, none⟩),
    .postPosition 1 (.good 256), .setPostingMode 1 (.good ⟨256, none⟩), .fetchPostings 1 (.good 256),
    .adjustPosition 1 (.good ⟨256, none, [], 1, 2⟩), .adjustPosition 1 (.good ⟨0, none, [⟨256, 1⟩], 1, 2⟩),
    .adjustPosition 1 (.good ⟨0, none, [⟨0, 65536⟩], 1, 2⟩),
    .adjustPosition 1 (.good ⟨0, none, List.replicate 256 ⟨0, 1⟩, 1, 2⟩),
    .adjustPosition 1 (.good ⟨0, none, [], 16777216, 2⟩), .adjustPosition 1 (.good ⟨0, none, [], 1, 16777216⟩),
    .opening 1 (.good ⟨256, [], 1, 2⟩), .opening 1 (.good ⟨0, [⟨256, 1⟩], 1, 2⟩), .opening 1 (.good ⟨0, [], 16777216, 2⟩),
    .opening 1 (.good ⟨0, [], 1, 16777216⟩), .setTemplate 1 (.good ⟨256, 0, 0, 0, 0, 0, []⟩),
    .setTemplate 1 (.good ⟨0, 1099511627776, 0, 0, 0, 0, []⟩), .setTemplate 1 (.good ⟨0, 0, 1099511627776, 0, 0, 0, []⟩),
    .setTemplate 1 (.good ⟨0, 0, 0, 281474976710656, 0, 0, []⟩), .setTemplate 1 (.good ⟨0, 0, 0, 0, 281474976710656, 0, []⟩),
    .setTemplate 1 (.good ⟨0, 0, 0, 0, 0, 281474976710656, []⟩), .setTemplate 1 (.good ⟨0, 0, 0, 0, 0, 0, [⟨256, 0, 0, 0⟩]⟩),
    .setTemplate 1 (.good ⟨0, 0, 0, 0, 0, 0, [⟨0, 65536, 0, 0⟩]⟩), .setTemplate 1 (.good ⟨0, 0, 0, 0, 0, 0, [⟨0, 0, 65536, 0⟩]⟩),
    .setTemplate 1 (.good ⟨0, 0, 0, 0, 0, 0, [⟨0, 0, 0, 65536⟩]⟩), .buildFloat 1 (.good ⟨256, 0⟩),
    .buildFloat 1 (.good ⟨0, 256⟩), .floatHanded 1 (.good ⟨256, 1⟩), .floatHanded 1 (.good ⟨0, 16777216⟩),
    .acceptShort 1 (.good ⟨256, 1⟩), .acceptShort 1 (.good ⟨0, 16777216⟩), .rebuild 1 (.good 256), .cancelBuild 1 (.good 256),
    .reportSales 1 (.good ⟨256, 0⟩), .reportSales 1 (.good ⟨0, 140737488355328⟩), .acceptVariance 1 (.good ⟨256, 1, 2⟩),
    .acceptVariance 1 (.good ⟨0, 16777216, 2⟩), .acceptVariance 1 (.good ⟨0, 1, 16777216⟩), .closeTill 1 (.good 256),
    .queryTill 1 (.good 256)] : List Instr).all (fun c => !c.wf) = true := by decide +kernel

/-- The same of the count unit's and the recycler controller's requests. -/
theorem test_wf_count_fields : ([.setLine 1 (.good ⟨65536, 0, 0⟩), .setLine 1 (.good ⟨0, 256, 0⟩),
    .setLine 1 (.good ⟨0, 0, 256⟩), .resetStation 1 (.good 256), .stationQuery 1 (.good 256),
    .startCount 1 (.good ⟨.pickup 256, none, none⟩), .startCount 1 (.good ⟨.ret 256, none, none⟩),
    .startCount 1 (.good ⟨.container 256, none, none⟩), .startCount 1 (.good ⟨.reserveRecount [256], none, none⟩),
    .startCount 1 (.good ⟨.purge 256, none, none⟩), .startCount 1 (.good ⟨.stranded 256, none, none⟩),
    .startCount 1 (.good ⟨.unknown, some (.one 5), none⟩), .startCount 1 (.good ⟨.unknown, none, some 281474976710656⟩),
    .declareCoin 1 (.good ⟨256, [], 1, none⟩), .declareCoin 1 (.good ⟨0, [⟨256, 1⟩], 1, none⟩),
    .declareCoin 1 (.good ⟨0, [], 16777216, none⟩), .declareCoin 1 (.good ⟨0, [], 1, some 16777216⟩),
    .setCoinLimit 1 (.good 4294967296), .acceptCount 1 (.good ⟨256, none, 1, none⟩),
    .acceptCount 1 (.good ⟨0, some (.container 256), 1, none⟩), .acceptCount 1 (.good ⟨0, none, 16777216, none⟩),
    .acceptCount 1 (.good ⟨0, none, 1, some 16777216⟩), .rejectCount 1 (.good 256), .voidLot 1 (.good 256),
    .resumeDisposal 1 (.good 256), .disposeLotReserve 1 (.good ⟨256, 1⟩), .disposeLotReserve 1 (.good ⟨0, 16777216⟩),
    .queryLot 1 (.good 256), .setCassette 1 (.good ⟨⟨256, 0⟩, none, none, 0⟩), .setCassette 1 (.good ⟨⟨0, 256⟩, none, none, 0⟩),
    .setCassette 1 (.good ⟨⟨0, 0⟩, none, some 256, 0⟩), .setCassette 1 (.good ⟨⟨0, 0⟩, none, none, 65536⟩),
    .insertCassette 1 (.good ⟨⟨256, 0⟩, 1, none, none, 0⟩), .insertCassette 1 (.good ⟨⟨0, 0⟩, 4294967296, none, none, 0⟩),
    .insertCassette 1 (.good ⟨⟨0, 0⟩, 1, none, some 256, 0⟩), .insertCassette 1 (.good ⟨⟨0, 0⟩, 1, none, none, 65536⟩),
    .removeCassette 1 (.good ⟨⟨256, 0⟩, none, 1, 2⟩), .removeCassette 1 (.good ⟨⟨0, 0⟩, none, 16777216, 2⟩),
    .removeCassette 1 (.good ⟨⟨0, 0⟩, none, 1, 16777216⟩), .setRoute 1 (.good ⟨256, []⟩), .setRoute 1 (.good ⟨0, [⟨256, []⟩]⟩),
    .setRoute 1 (.good ⟨0, [⟨0, [⟨0, 256⟩]⟩]⟩), .setArbiter 1 (.good ⟨256, 0, 0, 0, 0, 0, none⟩),
    .setArbiter 1 (.good ⟨0, 256, 0, 0, 0, 0, none⟩), .setArbiter 1 (.good ⟨0, 0, 256, 0, 0, 0, none⟩),
    .setArbiter 1 (.good ⟨0, 0, 0, 65536, 0, 0, none⟩), .setArbiter 1 (.good ⟨0, 0, 0, 0, 65536, 0, none⟩),
    .setArbiter 1 (.good ⟨0, 0, 0, 0, 0, 256, none⟩), .openFloatWindow 1 (.good 65536), .setFaultPolicy 1 (.good ⟨256, 0⟩),
    .setFaultPolicy 1 (.good ⟨0, 65536⟩), .clearBucket 1 (.good ⟨⟨256, 0⟩, 1, 2⟩), .clearBucket 1 (.good ⟨⟨0, 0⟩, 16777216, 2⟩),
    .clearBucket 1 (.good ⟨⟨0, 0⟩, 1, 16777216⟩), .setEvacuation 1 (.good ⟨256, none⟩),
    .startEvacuation 1 (.good ⟨⟨256, 0⟩, 1, 2⟩), .startEvacuation 1 (.good ⟨⟨0, 0⟩, 16777216, 2⟩),
    .startEvacuation 1 (.good ⟨⟨0, 0⟩, 1, 16777216⟩)] : List Instr).all (fun c => !c.wf) = true := by decide +kernel

/-- The same of the bay's and the office's requests, the readers, the station line's records and the mechanism. -/
theorem test_wf_bay_and_events : ([.openBag 1 (.good 4294967296), .fillBag 1 (.good ⟨256, none, [], 1⟩),
    .fillBag 1 (.good ⟨0, none, [⟨256, 1⟩], 1⟩), .fillBag 1 (.good ⟨0, none, [], 16777216⟩), .closeBag 1 (.good 256),
    .discardContainer 1 (.good 256), .createConsignment 1 (.good ⟨none, 65536, 0, 0, []⟩),
    .createConsignment 1 (.good ⟨none, 0, 4294967296, 0, []⟩), .createConsignment 1 (.good ⟨none, 0, 0, 4294967296, []⟩),
    .createConsignment 1 (.good ⟨some .collection, 0, 0, 0, [⟨1, 0, []⟩]⟩),
    .createConsignment 1 (.good ⟨some .delivery, 0, 0, 0, [⟨4294967296, 0, []⟩]⟩),
    .createConsignment 1 (.good ⟨some .delivery, 0, 0, 0, [⟨1, 281474976710656, []⟩]⟩),
    .createConsignment 1 (.good ⟨some .delivery, 0, 0, 0, [⟨1, 0, [⟨256, 1⟩]⟩]⟩), .addItem 1 (.good ⟨256, 0⟩),
    .addItem 1 (.good ⟨0, 256⟩), .stage 1 (.good 256), .engage 1 (.good ⟨256, 1, 1, 2⟩), .engage 1 (.good ⟨0, 65536, 1, 2⟩),
    .engage 1 (.good ⟨0, 1, 16777216, 2⟩), .engage 1 (.good ⟨0, 1, 1, 16777216⟩), .abort 1 (.good 256),
    .setDoorLimit 1 (.good 65536), .queryContainer 1 (.good 256), .queryConsignment 1 (.good 256),
    .setRosterEntry 1 (.good ⟨256, none, 1, 2⟩), .setRosterEntry 1 (.good ⟨0, some ⟨16777216, none, true⟩, 1, 2⟩),
    .setRosterEntry 1 (.good ⟨0, none, 16777216, 2⟩), .setRosterEntry 1 (.good ⟨0, none, 1, 16777216⟩),
    .openSafe 1 (.good ⟨16777216, 2⟩), .openSafe 1 (.good ⟨1, 16777216⟩), .setSafeRelock 1 (.good 65536),
    .setClock 1 (.good 4294967296), .officeSideRead 4294967296, .courierSideRead 4294967296, .recordSent [9],
    .recordGapTimeout [9], .failedRecord [9], .stationState 0 [9] (some .ready) 0, .stationState 0 [] (some .ready) 65536,
    .reportHead 0 [9] ⟨1, 1, 0, 0⟩, .reportHead 0 [] ⟨256, 1, 0, 0⟩, .reportHead 0 [] ⟨1, 256, 0, 0⟩,
    .reportHead 0 [] ⟨1, 1, 65536, 0⟩, .reportHead 0 [] ⟨1, 1, 0, 65536⟩, .reportItem 0 [9] ⟨0, 0, 0, 0, 0, 0⟩,
    .reportItem 0 [] ⟨256, 0, 0, 0, 0, 0⟩, .reportItem 0 [] ⟨0, 65536, 0, 0, 0, 0⟩, .reportItem 0 [] ⟨0, 0, 65536, 0, 0, 0⟩,
    .reportItem 0 [] ⟨0, 0, 0, 65536, 0, 0⟩, .reportItem 0 [] ⟨0, 0, 0, 0, 65536, 0⟩, .reportItem 0 [] ⟨0, 0, 0, 0, 0, 65536⟩,
    .reportEnd 0 [9] ⟨1, 0⟩, .reportEnd 0 [] ⟨256, 0⟩, .reportEnd 0 [] ⟨1, 65536⟩, .noteRead .tray (.note 12 0),
    .tagCheckDone 0 (Tab.fill 6 (some 4294967296)), .purgeEnded true 65536] : List Instr).all (fun c => !c.wf) = true := by
  decide +kernel

/-- A few commands that are well-formed at the ends of their ranges. -/
theorem test_wf_accepts : ([.setDenomination 255 (.good ⟨255, .note 16777215⟩), .adjustPosition 0 (.good ⟨255, none, [⟨255, 65535⟩], 16777215, 0⟩),
    .createConsignment 1 (.good ⟨some .delivery, 65535, 4294967295, 0, [⟨1, 0, []⟩]⟩), .recordSent [8], .noteRead .tray (.note 11 3),
    .reportSales 0 (.good ⟨255, -140737488355328⟩), .powerLoss] : List Instr).all Instr.wf = true := by decide +kernel

/-! ### Bytes (R82, R201) -/

/-- The CRC of the nine bytes "123456789", the check value the generator and the starting register of R201 are known
by. -/
theorem test_crc : crc [0x31#8, 0x32#8, 0x33#8, 0x34#8, 0x35#8, 0x36#8, 0x37#8, 0x38#8, 0x39#8] = 0x29B1#16 := by decide +kernel

/-- A RETRIEVE request of tag 7, laid out byte by byte, is heard as that request. -/
theorem test_receiver_reads : receiveBytes .hunting
    ([0xA5#8, 0#8, 0#8, 1#8, 88#8, 7#8] ++ natBytes 2 (crc [0#8, 0#8, 1#8, 88#8, 7#8]).toNat) =
    (.hunting, [.request 88 7 []]) := by decide +kernel

/-- 13 bytes over take 7 of the 30 two-byte items of the last list; 70 take them all, and 4 of the 20 three-byte items of the
list before it (R205). -/
theorem test_cut_lists : let l := [(List.replicate 20 [u3 1], [[u1 9]]), (List.replicate 30 [u2 3], [])];
    ((cutLists 13 l).2.map fun q => q.1.length) = [20, 23] ∧ ((cutLists 70 l).2.map fun q => q.1.length) = [16, 0] := by
  decide +kernel

/-- A body of code 37 with one byte is CANCEL BUILD of that till; with two it does not decode (R201, Table 11-2). -/
theorem test_decode_request : decodeRequest 37 5 [12#8] = .cancelBuild 5 (.good 12) ∧
    decodeRequest 37 5 [12#8, 0#8] = .cancelBuild 5 .bad ∧ decodeRequest 200 5 [] = .unknownRequest 200 5 := by
  decide +kernel

/-- POLL to station 2: address 2, kind 2, no body, and the check byte that makes the sum 256 (Table 4-2). -/
theorem test_poll_record : LineRecord.poll.encode 2 = [2#8, 2#8, 0#8, 252#8] := by decide +kernel

/-- A STATE record of station 3 that shows REPORT_READY with 300 notes; with a wrong check byte it is a failed record. -/
theorem test_state_record :
    answerCommand [] (recordBytes 131 33 [3#8, 1#8, 44#8]) = .stationState 2 [] (some .reportReady) 300 ∧
    answerCommand [] [131#8, 33#8, 3#8, 3#8, 1#8, 44#8, 0#8] = .failedRecord [] := by decide +kernel

/-- A STATE record whose mechanism code, 9, is in no row of Table 4-3 is good and names no state (R83). -/
theorem test_unknown_mech : answerCommand [] (recordBytes 131 33 [9#8, 0#8, 0#8]) = .stationState 2 [] none 0 := by
  decide +kernel

/-- The character of byte 161, 10100001: a start bit, the data bits lowest first, three ones among them and so a parity bit of
one, and the guard; with the wrong parity bit it is not taken (R80). -/
theorem test_character :
    (charBits 161#8 = [.start, .data true, .data false, .data false, .data false, .data false, .data true, .data false,
      .data true, .parity true, .guard, .guard]) ∧ readChar (charBits 161#8) = some 161#8 ∧
    readChar ((charBits 161#8).set 9 (.parity false)) = none := by decide +kernel

/-- No row of the table has bits: no word spells a command, and nothing is put into the queue. -/
theorem test_no_table_word : decodeTableWord 16 7 = none ∧ State.reset.withFetchWord 16 7 = State.reset := ⟨rfl, rfl⟩

/-! ### States the tests start from -/

/-- The state a command leaves. -/
def after (c : Instr) (s : State) : State := match exec c s with | .next t => t | _ => s

/-- The status of the reply to the request in hand. -/
def status (s : State) : Option Status := s.link.inHand.map (·.reply.status)

/-- States that can take a request. -/
theorem ready_all (l : List State) (h : (l.all fun s => s.powered && s.link.inHand.isNone && !s.link.stopping) = true) :
    ∀ s ∈ l, s.ready := by
  intro s hs
  simpa [State.ready, and_assoc] using List.all_eq_true.mp h s hs

/-- The reset state with its notices sent. -/
def ready0 : State := { State.reset with link := Link.initial }

def every : Roles := ⟨true, true, true⟩
def one (d n : Nat) : Counts := Counts.put Counts.zero d n

/-- The example denomination table, Table 0-5, two operators with every role, both modules IN_SERVICE, in HOLD. -/
def shop : State :=
  let s : State := { ready0 with
    book := { ready0.book with
      denoms := ⟨[.note 5000, .note 2000, .note 1000, .note 500, .coin 200, .coin 100, .coin 50, .coin 20, .coin 10,
        .roll 4 25 5000, .roll 5 25 2500, .roll 6 20 1000], rfl⟩ }
    recycler := { ready0.recycler with modules := Tab.fill 2 ⟨.inService, .tags, false⟩, freshTags := Tab.fill 2 false } }
  (s.setRoster 0 (some ⟨1001, every, true⟩)).setRoster 1 (some ⟨1002, every, true⟩)

/-- The same in TRADING. -/
def trade : State := shop.setMode .trading

/-- Position `p` holds these counts. -/
def put (p : Nat) (c : Counts) (s : State) : State := s.setPosRec p { s.posRec p with inUse := true, counts := c }

/-- Cassette `c` is present with a role and a denomination. -/
def cass (c : Nat) (r : Role) (d : Option Nat) (s : State) : State :=
  s.setCassette c { CasRec.vacant with present := true, tag := some (11 + c), sensed := .tag (11 + c), role := r, denom := d }

/-- A lot in a state, with a source; its position is claimed. -/
def lotIn (n : Nat) (st : LotState) (src : LotSource) (s : State) : State :=
  (claimSlot (lotPos n) s).setLot n (some { newLot 1 src (some .any) none with state := st })

/-- A container in a state on a side; its position is claimed. -/
def box (n : Nat) (st : ContState) (l : Location) (s : State) : State :=
  (claimSlot (containerPos n) s).setContainer n (some ⟨st, 500 + n, .bag, l, none, none, none⟩)

/-- A build of till 12 in slot 0 with a plan of 5 notes of d2 and one roll of d9, and its reservation. -/
def building (st : BuildState) (disp : Counts) (s : State) : State :=
  let e : List TemplateEntry := [⟨2, 5, 0, 9⟩, ⟨9, 1, 0, 2⟩]
  let plan := Counts.add (one 2 5) (one 9 1)
  let u : State := { s with
    book := { s.book with reservations := [⟨0, 12, Counts.sub plan disp, Marks.clear⟩] }
    desk := { s.desk with trayOwner := some 0 } }
  (u.setBuild 0 (some ⟨st, 12, 1, 10000, 500, e, plan, disp, Counts.sub (one 2 5) disp, 10000, some 2, Marks.clear, none,
    none, none⟩)).setTill 12 { s.till 12 with state := .building }

/-- Cassette 0.2 holds 40 notes of d2 and RESERVE 6 rolls of d9. -/
def stocked (s : State) : State := put 0 (one 9 6) (put 3 (one 2 40) (cass 2 .recycle (some 2) s))

/-- A consignment in slot 0 with one item. -/
def cons (k : ConsKind) (st : ConsState) (i : Item) (s : State) : State :=
  s.setConsignment 0 (some ⟨k, st, 7, 0, 100, [i], some (1001, 1002), none, false⟩)

/-! ### The worked cases of the spec -/

/-- The exact build of Section 3, with the availability and entries of Table 3-5 in make-up order. -/
def template2 (d3 : Nat) : List MakeLine :=
  [⟨0, 0, 0, 1, 40, 5000, false⟩, ⟨9, 1, 0, 1, 6, 5000, true⟩, ⟨10, 1, 1, 2, 10, 2500, true⟩, ⟨1, 4, 2, 6, 3, 2000, false⟩,
    ⟨2, 5, 3, 8, 120, 1000, false⟩, ⟨11, 2, 1, 3, 9, 1000, true⟩, ⟨3, 6, 4, 10, d3, 500, false⟩]

theorem test_makeup_exact : makeUp 25000 500 (template2 200) =
    .accepted ⟨[0, 3, 6, 7, 0, 0, 0, 0, 0, 1, 1, 2], rfl⟩ 25000 0 := by decide +kernel

/-- With 6 notes of d3 available the plan is short by 500, within tolerance. -/
theorem test_makeup_short : makeUp 25000 500 (template2 6) =
    .accepted ⟨[0, 3, 6, 6, 0, 0, 0, 0, 0, 1, 1, 2], rfl⟩ 24500 500 := by decide +kernel

/-- The reduce pass of Section 3: d0 stays at 2 and d2 becomes 0; with d2's min at 1 the plan is over by 1000. -/
theorem test_makeup_reduce :
    makeUp 10000 0 [⟨0, 2, 0, 2, 99, 5000, false⟩, ⟨2, 3, 0, 5, 99, 1000, false⟩] = .accepted (one 0 2) 10000 0 ∧
    makeUp 10000 0 [⟨0, 2, 0, 2, 99, 5000, false⟩, ⟨2, 3, 1, 5, 99, 1000, false⟩] = .over 1000 := by decide +kernel

/-- The make-up order of Table 3-5: d9 after d0, and d11 after d2, for a NOTE comes before a ROLL of its face value. -/
theorem test_makeup_order : (makeupOrder (template2 200).reverse).map (·.denom) = [0, 9, 10, 1, 2, 11, 3] := by decide +kernel

/-- The deposit account of Section 7: RATIO 2, DECR 1, CLIP 60 takes 59 to 59, and a DISPENSE note lowers 50 to 49. -/
theorem test_deposit_account :
    (accountNote .deposit (shop.setArbiter { shop.arbiter with
      settings := { shop.arbiter.settings with clip := 60 }, account := 59 })).arbiter.account = 59 ∧
    (accountNote .dispense (shop.setArbiter { shop.arbiter with account := 50 })).arbiter.account = 49 := by decide +kernel

/-- The busy link of Section 11, step 2: REPORT SALES with tag 8 while tag 7 is in hand is owed LINK_BUSY. -/
theorem test_link_busy : (after (.reportSales 8 (.good ⟨3, 100⟩)) (after (.getStatus 7 (.good ())) shop)).link.owed =
    [(39, 8)] := by decide +kernel

/-- The same sequence, steps 3 to 5: reply 7 ends, the LINK_BUSY reply goes before the reply of tag 9. -/
theorem test_frame_order :
    let s := after .frameSent (after (.reportSales 8 (.good ⟨3, 100⟩)) (after (.getStatus 7 (.good ())) shop))
    let t := after (.queryTill 9 (.good 3)) s
    s.link.onLine = some (.busy 39 8) ∧ (after .frameSent t).link.onLine.isSome = true ∧
      (after .frameSent t).link.owed = [] ∧ (after .frameSent t).link.inHand.map (·.tag) = some 9 := by decide +kernel

/-! ### Witnesses: states and operands that meet the hypotheses of the statements -/

/-- A result that is not an error. -/
theorem ok_of_isOk {ε α : Type} {x : Except ε α} (h : x.isOk = true) : ∃ a, x = .ok a := by
  cases x with
  | ok a => exact ⟨a, rfl⟩
  | error e => exact absurd h (by simp [Except.isOk, Except.toBool])

/-- The dispense run of the build of till 12, RUNNING with nothing in path. -/
def dispensing : State :=
  (building .dispensing Counts.zero (stocked trade)).setRun
    { Run.granted .dispense (.slot 0) none (some 2) 5 with pick := some 2 }

theorem witness_EmptyQueuePicksOrIdles :
    (ready0.pending = [] ∧ ready0.cassettePick = none) ∧
    (dispensing.pending = [] ∧ dispensing.powered = true ∧ dispensing.cassettePick = some ⟨3, 2, .pos 13⟩) := by
  decide +kernel

/-- The controller without power. -/
def dark : State := { shop with powered := false }

theorem witness_FailedStoreStartIsReset : dark.powered = false ∧ dark.doors.office.sensorOpen = false ∧
    dark.doors.courier.sensorOpen = false ∧ dark.office.safe.sensorOpen = false := by decide +kernel

theorem witness_UnpoweredControllerIgnoresCommands : dark.powered = false ∧ exec .pollCycle dark = .next dark := ⟨rfl, rfl⟩

/-- A request with its reply in hand. -/
def inHand : State := after (.getStatus 7 (.good ())) shop

/-- A RESTART taken while another request was owed its LINK_BUSY, and its OK reply sent. -/
def stopping : State := after .frameSent (after (.queryTill 8 (.good 3)) (after (.restart 7 (.good ())) shop))

theorem witness_LinkTurnsRequestsAway :
    (requestCode (.retrieve 1 .bad) = some 88 ∧ requestTag (.retrieve 1 .bad) = some 1 ∧ inHand.powered = true ∧
      inHand.link.inHand ≠ none ∧ inHand.link.owed.length < 8) ∧
    (shop.powered = true ∧ shop.link.inHand = none ∧ undecoded (.retrieve 1 .bad) = true) ∧
    (15 ∉ requestCodes ∧ 25 ∉ requestCodes ∧ 114 ∉ requestCodes ∧ 16 ∈ requestCodes ∧ 113 ∈ requestCodes) ∧
    (stopping.powered = true ∧ stopping.link.inHand = none ∧ stopping.link.stopping = true) := by
  decide +kernel

theorem witness_RefusedRequestHasNoEffect : ∃ t h, requestCode (.openBag 1 (.good 0)) = some 80 ∧ ready0.ready ∧
    exec (.openBag 1 (.good 0)) ready0 = .next t ∧ t.link.inHand = some h ∧ h.reply.status ≠ .ok ∧
    h.reply.status ≠ .accepted :=
  ⟨after (.openBag 1 (.good 0)) ready0, ⟨80, 1, refusal .badField, 0, none⟩, rfl, ⟨rfl, rfl, rfl⟩, rfl, rfl, by decide, by decide⟩

theorem witness_ReceiverReadsEveryRequestFrame : readChar (charBits 255#8) = some 255#8 ∧ (255 : Nat) < 256 ∧ (List.replicate 512 (0xA5#8)).length ≤ 512 := by decide +kernel

theorem witness_ReceiverDropsBadFrames : ((2 : Nat) < 256 ∧ (2 : Nat) ≠ 1) ∧
    ([0#8, 0#8].length = 2 ∧ [0#8, 0#8] ≠ (frameBytes 1 88 7 []).drop 6) ∧ 512 < (2#8).toNat * 256 + (1#8).toNat := by
  decide +kernel

/-- The worked table with no counts keeps every law. -/
theorem shop_lawful : shop.lawful := by
  refine ⟨⟨by unfold State.totalsLaw; decide +kernel, ?_⟩, by unfold State.queueLaw; decide +kernel,
    by unfold State.reservationLaw; decide +kernel, by unfold State.accountLaw; decide +kernel,
    by unfold State.bucketLaw; decide +kernel, by unfold State.doorLaw; decide +kernel,
    by unfold State.linkLaw; decide +kernel, ?_, by unfold State.jobsLaw; decide +kernel,
    ⟨by unfold State.thresholdLaw; decide +kernel, by unfold State.cassetteLaw; decide +kernel, ?_⟩,
    by unfold State.registerLaw; decide +kernel, ?_⟩
  · have h : ∀ p < 177, (shop.posRec p).counts = Counts.zero := by decide +kernel
    intro p _ h2 _
    exact h p (by omega)
  · have h : ∀ i < 32, ∀ j < 32, i ≠ j → (shop.office.roster.get none i).map RosterEntry.number =
        (shop.office.roster.get none j).map RosterEntry.number → (shop.office.roster.get none i) = none := by decide +kernel
    intro i j hi hj hij a b ha hb hn
    have := h i hi j hj hij (by simp [ha, hb, hn])
    simp [ha] at this
  · have h : shop.evacPair = none := by decide +kernel
    simp [State.evacLaw, h]
  · have hl : ∀ n < 64, shop.lot n = none := by decide +kernel
    have hk : ∀ k ∈ stationNumbers, (shop.station k).job = none := by decide +kernel
    have hb : ∀ k < 4, shop.build k = none := by decide +kernel
    exact ⟨fun n hn l h => by simp [hl n hn] at h, fun k h j n hj => by simp [hk k h] at hj,
      fun k h b e => by simp [hb k h] at e⟩

/-- A step on the worked table, for the statements that hold a law over every step. -/
theorem witness_StepKeepsLaws : shop.lawful ∧ ∃ t, step shop = .next t := ⟨shop_lawful, _, rfl⟩

theorem witness_StepKeepsReservationsAndOpenLots : (shop.reservationLaw ∧ shop.tillLaw) ∧ ∃ t, step shop = .next t :=
  ⟨⟨shop_lawful.2.2.1, shop_lawful.2.2.2.2.2.2.2.2.2.2.2⟩, _, rfl⟩

/-- A build waits in HOLD for its first note; LEAVE HOLD grants its run. -/
def leaving : State :=
  { giveDispense 0 2 5 (building .dispensing Counts.zero (stocked shop)) with pending := [.leaveHold 1 (.good ())] }

/-- Grants open, a build's dispense request for till 12 waiting. -/
def wanting : State := giveDispense 0 2 5 (building .dispensing Counts.zero (stocked trade))

/-- A deposit request of lot 0 at head 1, the tray's return after it, and the account at and above LIMIT. -/
def queueing (a : Nat) (s : State) : State :=
  let t := { giveTrayReturn 0 (giveHead 0 0 (lotIn 0 .disposing (.pickup 12) s)) with }
  { t with arbiter := { t.arbiter with account := a, settings := { t.arbiter.settings with limit := 5 } } }

/-- An evacuation of cassette 0.2 into 0.5 that waits, passed over so many times. -/
def evacWaits (skips : Nat) (s : State) : State :=
  let t := giveEvac (cass 5 .spare (some 2) s)
  { t with
    evac := { t.evac with state := .active, source := some 2, spare := some 5 }
    arbiter := { t.arbiter with skips := skips } }

/-- A DEPOSIT run of lot 0, which holds 6 notes of d2, from head 1. -/
def depositing : State :=
  ((lotIn 0 .disposing (.pickup 12) (stocked trade)).setRun (Run.granted .deposit (.head 0) (some 0) none 25)
    |> put 14 (one 2 6)).setRanges 2 [⟨2, [2], 0⟩, ⟨0, [], 0⟩]

theorem witness_RunStartsOnlyWithGrantsOpen :
    (∃ t, step leaving = .next t ∧ leaving.recycler.run.state ≠ .running ∧ t.recycler.run.state = .running) ∧
    (wanting.grantsOpen = true ∧ (grantStep wanting).isSome = true ∧ wanting.arbiter.dispense = some ⟨0, 2, 5⟩ ∧
      wanting.dispenseGrantable = true ∧ wanting.arbiter.order = [] ∧ wanting.evacGrantable = false ∧
      (wanting.setArbiter { wanting.arbiter with window := some 1 }).windowIsOpen = true) ∧
    ([5, 6].all fun a => (queueing a wanting).grantsOpen && (queueing a wanting).dispenseGrantable
      && decide ((queueing a wanting).arbiter.order = [.head 0, .trayReturn])) = true ∧
    ((queueing 0 trade).dispenseGrantable = false ∧ (queueing 0 trade).grantsOpen = true ∧
      (entryToTail (.head 0) (queueing 0 trade)).arbiter.order = [.trayReturn, .head 0]) ∧
    (let s := evacWaits 0 (stocked trade); s.grantsOpen = true ∧ s.evacGrantable = true ∧ s.dispenseGrantable = false ∧
      s.promoted = false ∧ (evacWaits s.arbiter.settings.patience wanting).evacGrantable = true) ∧
    (trade.grantsOpen = true ∧ grantStep trade = none ∧ (0 : Nat) ∉ trade.arbiter.heads.get [] 0 ∧
      DepositEntry.head 0 ∉ trade.arbiter.order) ∧
    (let r := Run.granted .deposit (.head 0) none none 25; r.kind = .deposit ∧ r.requester = .head 0 ∧
      .head 0 ∈ (reportEnd r (queueing 0 trade)).arbiter.order) ∧
    (let s := queueing 0 (building .cancelling (one 2 5) (stocked trade));
      let r := Run.granted .trayReturn (.slot 0) none none 25; r.kind = .trayReturn ∧ s.arbiter.trayReturn = some 0 ∧ (s.build 0).isSome = true ∧
        .trayReturn ∈ (reportEnd r (put 13 (one 2 1) s)).arbiter.order) ∧
    (let s := (giveDispense 0 2 5 depositing).setArbiter { (giveDispense 0 2 5 depositing).arbiter with
        window := some 1, settings := { depositing.arbiter.settings with preemption := .inWindow } };
      (preemptStep s).isSome = true ∧ preemptStep depositing = none) :=
  ⟨⟨after (.leaveHold 1 (.good ())) { leaving with pending := [] }, rfl, by decide +kernel⟩, by decide +kernel⟩

/-- A run of a kind and requester that has moved `m` notes, in service. -/
def run (k : RunKind) (q : Requester) (m : Nat) (s : State) : State :=
  s.setRun { Run.granted k q none (some 2) 25 with moved := m }

/-- The deposit run of lot 0 ends at its limit: two notes of d2 went into cassette 0.2, and `e` into escrow. -/
def closing (e : Nat) : State :=
  depositing.setRun { depositing.recycler.run with
    cause := some .limit, moved := 25, pairs := [⟨14, 3, one 2 2⟩], escrowed := one 2 e }

theorem witness_RunStartsOnlyWithGrantsOpen_endings :
    (let s := run .dispense (.slot 0) 1 (building .dispensing (one 2 5) (stocked trade)); s.recycler.run.cause = none ∧
      (s.build 0).map (fun b => Counts.of b.remaining 2) = some 0) ∧
    (let s := run .trayReturn (.slot 0) 1 trade; s.recycler.run.live = true ∧ ∀ d < 12, s.held 13 d = 0) ∧
    (let s := run .evacuate .evacuation 1 (evacWaits 0 trade); s.evac.source = some 2 ∧
      (s.posRec (cassettePos 2)).counts.isZero = true) ∧
    (let s := run .trayReturn (.slot 0) 25 (put 13 (one 2 1) trade); s.recycler.run.limit ≤ s.recycler.run.moved ∧
      Counts.of s.recycler.run.escrowed 2 < s.held 13 2) ∧
    ((closing 0).recycler.run.live = true ∧ (closing 0).recycler.run.cause ≠ none ∧ (closing 0).recycler.run.path = [] ∧
      (∀ d < 12, Counts.of (closing 0).recycler.run.escrowed d = 0) ∧
      (∀ p ∈ [14, 3], ((closing 0).posRec p).mode = .through ∧ ((closing 0).posRec p).overdue = false) ∧
      (closing 0).book.queue = []) ∧
    (closing 1).recycler.run.lot = some 0 ∧
    checkMovement ⟨.escrowReturn, .pos (lotPos 0), .pos reservePos, pairsOf (closing 1).recycler.run.escrowed, [], none⟩ true
      (numberAndPost (runEndMove .deposit ⟨14, 3, one 2 2⟩) (closing 1)) = none := by decide +kernel

/-- The closing group of R30: a DEPOSIT movement from the lot to the cassette with number 1, posted source first, then the
escrow's return with number 2; the lot keeps 6 − 1 of its notes. -/
theorem test_closing_group : (closeRun none (closing 1)).book.moveCounter = 2 ∧
    (closeRun none (closing 1)).held 14 2 = 5 ∧ (closeRun none (closing 1)).held 0 2 = 1 ∧
    ((closeRun none (closing 0)).book.queue.map Entry.body) =
      [14, 3].map (fun p => .move p 1 .deposit (.pos 14) (.pos 3) [] [(⟨2, 2⟩, (closing 0).held p 2)]) := by decide +kernel

/-- A note on its way to escrow, and a double pick's on its way to the purge bin. -/
def toEscrow : State := pickNote ⟨14, 2, .escrow⟩ depositing
def toPurge : State := after (.doublePick (.cassette 2)) dispensing

theorem witness_StepKeepsDepositAccount :
    (toEscrow.recycler.run.live = true ∧
      toEscrow.recycler.run.path.find? (fun x => x.dest = arrivalDest .escrow) = some ⟨14, 2, .escrow⟩) ∧
    (let x : PathNote := ⟨14, 2, .pos 3⟩; let s := pickNote x depositing; s.recycler.run.path.find? (fun x => x.dest = arrivalDest (.cassette 2)) = some x ∧ isPurgePos 3 = false ∧
        s.canBook x 3 = true) ∧
    (toPurge.recycler.run.live = true ∧ toPurge.recycler.run.path.find? (fun x => x.dest = arrivalDest (.purge 0)) =
      some ⟨3, 2, .pos 175⟩ ∧ isPurgePos 175 = true) ∧
    (depositing.recycler.run.roomToPick = true ∧ depositing.picksFrom (.head 0) = true ∧
      depositing.recycler.run.lot = some 0) ∧
    (∃ t, exec (.noteArrived .escrow) toEscrow = .next t) ∧ (∃ t, exec (.noteRead (.head 0) .noRead) depositing = .next t) :=
  ⟨by decide +kernel, by decide +kernel, by decide +kernel, by decide +kernel, ⟨_, rfl⟩, _, rfl⟩

theorem witness_StepKeepsFaultBuckets : shop.recyclerLaw ∧ depositing.thresholdLaw ∧
    depositing.place 2 2 = some (0, 0, 2) :=
  ⟨shop_lawful.2.2.2.2.2.2.2.2.2.1, by unfold State.thresholdLaw; decide +kernel, by decide +kernel⟩

theorem witness_SettingsChangeOnlyByTheirRequests :
    (∃ t, exec .lineBreak shop = .next t) ∧ Instr.lineBreak ≠ .powerOn false := ⟨⟨_, rfl⟩, by decide⟩

/-- An OPENING of 3 notes of d2 into RESERVE. -/
def openingMove : Movement := ⟨.opening, .external .opening, .pos 0, [⟨2, 3⟩], [1001, 1002], none⟩

theorem witness_MovementMovesItsCounts : shop.bookLaw ∧ checkMovement openingMove false shop = none ∧
    ∀ d < 12, (moveCounts openingMove shop).excess d = 0 :=
  ⟨shop_lawful.1, by decide +kernel⟩

/-- A posting queue of so many entries. -/
def queued (n : Nat) : State :=
  { shop with book := { shop.book with queue := List.replicate n ⟨1, 0, .settleOne 0 .post 0 2 0⟩ } }

/-- 5 notes of d2 taken out of RESERVE into SUSPECT, and RESERVE overdue with one mark. -/
def asideMove : Movement := ⟨.suspectAside, .pos 0, .pos 174, [⟨2, 5⟩], [1001], none⟩
def late : State := (queued 127).setPosRec 0 { (queued 127).posRec 0 with overdue := true, marks := Marks.mark Marks.clear 2 }

theorem witness_HeldPositionIsMarkedNotQueued :
    (((queued 127).posRec 0).mode = .through ∧ ((queued 127).posRec 0).overdue = false ∧
      (queued 127).book.queue.length < 128 ∧ 128 ≤ (queued 128).book.queue.length ∧ (late.posRec 0).mode = .through) ∧
    (asideMove.src = .pos 0 ∧ asideMove.dst = .pos 174 ∧ (queued 126).book.queue.length + 2 ≤ 128 ∧
      ∀ x, x = 0 ∨ x = 174 → ((queued 126).posRec x).mode = .through ∧ ((queued 126).posRec x).overdue = false) ∧
    ((late.posRec 0).overdue = true ∧ (late.posRec 0).inRun = false ∧ (late.posRec 0).unposted = true ∧
      late.book.queue.length < 128 ∧ ((catchUp late).posRec 0).overdue = false) ∧
    ((shop.setPosRec 176 { shop.posRec 176 with mode := .held }).posRec 176).mode = .held ∧
    ((shop.setPosRec 0 { shop.posRec 0 with mode := .held }).posRec 0).mode = .held ∧ openingMove.dst = .pos 0 ∧
    (∀ q, openingMove.src = .pos q ∨ openingMove.dst = .pos q →
      ((shop.setPosRec 0 { shop.posRec 0 with mode := .held }).posRec q).mode = .held) := by
  refine ⟨by decide +kernel, ⟨rfl, rfl, by decide +kernel, fun x h => ?_⟩, by decide +kernel, by decide +kernel,
    by decide +kernel, rfl, fun q h => ?_⟩
  · rcases h with h | h <;> subst h <;> decide +kernel
  rcases h with h | h
  · exact absurd h (by simp [openingMove])
  · simp only [openingMove, Side.pos.injEq] at h
    subst h
    decide +kernel

theorem witness_DenominationRequestsSetTheTable : shop.ready ∧ shop.office.mode = .hold ∧ shop.denom 0 = .note 5000 ∧
    shop.denomInUse 11 = false ∧ shop.coinNamed 8 = false ∧ shop.isCoin 11 = false ∧ shop.denom 11 ≠ .note 1000000 ∧
    shop.denom 11 ≠ .coin 1 ∧ shop.denom 4 = .coin 200 ∧ 100 * 200 ≤ 1000000 ∧ shop.denom 11 ≠ .roll 4 100 (100 * 200) ∧
    shop.denom 11 ≠ .roll 4 2 (2 * 200) := ⟨⟨rfl, rfl, rfl⟩, by decide +kernel⟩

theorem witness_QueriesChangeNothing : trade.ready ∧ requestCode (.queryPosition 1 (.good ⟨176, some .peek⟩)) = some 19 ∧
    requestCode (.queryTill 1 (.good 255)) = some 42 := ⟨⟨rfl, rfl, rfl⟩, rfl, rfl⟩

/-- TRAY, HELD, with marks for two denominations. -/
def marked : State := shop.setPosRec 13 { shop.posRec 13 with mode := .held, marks := Marks.mark (Marks.mark Marks.clear 2) 3 }

theorem witness_SettlingRequestsClearMarks : shop.ready ∧ marked.ready ∧
    ((shop.posRec 176).inUse = true ∧ (shop.posRec 176).unposted = false ∧ (shop.posRec 176).inRun = false ∧
      (shop.posRec 176).releasePending = false ∧ (shop.posRec 176).mode = .through) ∧
    ((marked.posRec 13).inUse = true ∧ (marked.posRec 13).unposted = true ∧ (marked.posRec 13).inRun = false ∧
      (marked.posRec 13).releasePending = false ∧ (marked.posRec 13).mode = .held ∧ marked.book.queue.length < 128) ∧
    (((shop.setPosRec 0 { shop.posRec 0 with mode := .held }).posRec 0).mode = .held ∧
      ((shop.setPosRec 0 { shop.posRec 0 with mode := .held }).posRec 0).unposted = false) ∧
    ((shop.posRec 14).inUse = false ∧ ((shop.setPosRec 3 { shop.posRec 3 with inRun := true }).posRec 3).inRun = true) ∧
    (let full : State := { marked with book := { marked.book with
        queue := List.replicate 128 ⟨1, 0, .settleOne 0 .post 0 2 0⟩ } };
      (full.posRec 13).unposted = true ∧ 128 ≤ full.book.queue.length) :=
  ⟨⟨rfl, rfl, rfl⟩, ⟨rfl, rfl, rfl⟩, by decide +kernel⟩

theorem witness_QueuedEntryTakesNextSequenceNumber : (queued 127).book.queue.length < 128 ∧
    (queued 127).book.queue.length ≠ 96 ∧ (queued 96).book.queue.length = 96 ∧ (queued 96).book.armed = true := by
  decide +kernel

theorem witness_FetchedEntriesLeaveWhenSent : (queued 2).ready ∧
    (let s := after (.fetchPostings 4 (.good 16)) (queued 2);
      s.powered = true ∧ (s.link.onLine.map fun f => match f with | .reply c g _ => (c, g) | _ => (0, 0)) = some (22, 4) ∧
        (s.link.inHand.map (·.fetched)) = some (some 2) ∧ s.link.stopping = false) := ⟨⟨rfl, rfl, rfl⟩, by decide +kernel⟩

/-- Cassette 0.2 under MISMATCH with the tag 77 sensed. -/
def mismatched : State := shop.setCassette 2 { CasRec.vacant with
  present := true, tag := some 13, sensed := .tag 77, role := .recycle, denom := some 2, mismatch := true }

/-- The worked table with an empty roster. -/
def unstaffed : State := (shop.setRoster 0 none).setRoster 1 none

theorem witness_AdjustAndOpeningApplyOneMovement : shop.ready ∧ mismatched.ready ∧ unstaffed.ready ∧
    (shop.dualControl .supervisor 1001 1002 = none ∧ shop.adjustBarred 0 = false ∧
      checkMovement (adjustMove 0 .into [⟨2, 3⟩] 1001 1002) false shop = none) ∧
    (mismatched.dualControl .supervisor 1001 1002 = none ∧ (mismatched.cassette 2).present = true ∧
      (mismatched.cassette 2).mismatch = true ∧ (mismatched.cassette 2).role ≠ .unassigned ∧
      (mismatched.cassette 2).sensed = .tag 77) ∧
    (checkMovement openingMove false shop = none ∧ shop.rosterEmpty = false ∧
      shop.dualControl .supervisorAndCustodian 1001 1002 = none) ∧
    (checkMovement openingMove false unstaffed = none ∧ unstaffed.rosterEmpty = true) :=
  ⟨⟨rfl, rfl, rfl⟩, ⟨rfl, rfl, rfl⟩, ⟨rfl, rfl, rfl⟩, by decide +kernel⟩

/-- A template with every field at an end of its range. -/
def templateReq : SetTemplateReq := ⟨7, 137438953472, 0, 0, 500, 100, [⟨2, 65535, 0, 65535⟩, ⟨9, 0, 0, 0⟩]⟩

theorem witness_SetTemplateStoresTheFields : shop.ready ∧ shop.office.mode = .hold ∧ templateInRange templateReq = true ∧
    (templateReq.entries.all fun e => shop.isNote e.denom || shop.isRoll e.denom) = true :=
  ⟨⟨rfl, rfl, rfl⟩, by decide +kernel⟩

theorem witness_AcceptedMakeUpKeepsItsBounds : ((template2 200).all fun l => l.min ≤ l.max && decide (l.denom < 12)) = true ∧
    ((template2 200).map MakeLine.denom).Nodup ∧
    makeUp 25000 500 (template2 200) = .accepted ⟨[0, 3, 6, 7, 0, 0, 0, 0, 0, 1, 1, 2], rfl⟩ 25000 0 := by decide +kernel

/-- Class 1 builds 5 notes of d2 and one roll of d9. -/
def template1 : Template := ⟨10000, 500, 100000, 100, 500, [⟨2, 5, 0, 9⟩, ⟨9, 1, 0, 2⟩]⟩
def templated : State :=
  let s := stocked trade
  { s with desk := { s.desk with templates := s.desk.templates.set 1 (some template1) } }

theorem witness_BuildFloatPlansAndReserves : templated.ready ∧ templated.office.mode = .trading ∧
    (templated.till 255).state = .closed ∧ templated.template 1 = some template1 ∧ freeSlot templated = some 0 ∧
    templated.resEntry 0 = none ∧
    templated.makeUpFor template1 = .accepted (Counts.add (one 2 5) (one 9 1)) 10000 0 ∧
    templated.overReserved 0 (Counts.add (one 2 5) (one 9 1)) = none := ⟨⟨rfl, rfl, rfl⟩, by decide +kernel⟩

/-- A build whose notes lie in TRAY. -/
def built (st : BuildState) : State := put 13 (one 2 5) (building st (one 2 5) (stocked trade))

theorem witness_HandoverOpensTheSession : (built .awaitingHandover).ready ∧ (built .short).ready ∧
    ((built .awaitingHandover).till 12).state = .building ∧ (built .awaitingHandover).buildOf 12 = some 0 ∧
    (built .awaitingHandover).oneOperator 1001 = true ∧
    (∃ b, (built .awaitingHandover).build 0 = some b ∧ b.state = .awaitingHandover ∧
      (∃ t, applyGroup 1 (issueGroup 0 12 1001 b.dispensed ((built .awaitingHandover).rollsOf b.plan))
        (heard (built .awaitingHandover)) = .ok t)) ∧
    (∃ b, (built .short).build 0 = some b ∧ b.state = .short ∧
      (∃ t, applyGroup 1 (issueGroup 0 12 1001 b.dispensed ((built .short).shortRolls 0 b)) (heard (built .short)) = .ok t)) :=
  ⟨⟨rfl, rfl, rfl⟩, ⟨rfl, rfl, rfl⟩, by decide +kernel, by decide +kernel, by decide +kernel,
    ⟨_, rfl, by decide +kernel, ok_of_isOk (by decide +kernel)⟩, ⟨_, rfl, by decide +kernel, ok_of_isOk (by decide +kernel)⟩⟩

/-- A SHORT build with 3 of its 5 notes in TRAY. -/
def short3 : State := put 13 (one 2 3) (building .short (one 2 3) (stocked trade))

theorem witness_ShortBuildsAreRebuiltOrCancelled : short3.ready ∧ (short3.till 12).state = .building ∧
    short3.buildOf 12 = some 0 ∧ (short3.resEntry 0).isSome = true ∧
    (∃ b, short3.build 0 = some b ∧ b.state = .short ∧ b.dispensed.isZero = false ∧
      short3.makeUpAgain 0 b = .accepted (Counts.add (one 2 2) (one 9 1)) 7000 0 ∧
      short3.overReserved 0 (Counts.add (one 2 2) (one 9 1)) = none) ∧
    (∃ b, (building .planned Counts.zero (stocked shop)).build 0 = some b ∧ b.state = .planned ∧ b.dispensed.isZero = true) :=
  ⟨⟨rfl, rfl, rfl⟩, by decide +kernel, by decide +kernel, by decide +kernel,
    ⟨_, rfl, by decide +kernel⟩, ⟨_, rfl, by decide +kernel⟩⟩

/-- A build with some cut marks, a current denomination and a change to SHORT that is due. -/
def cutBuild (st : BuildState) (disp cut : Nat) (due : Option (ShortCause × Nat)) : State :=
  let s := building st (one 2 disp) (stocked trade)
  s.setBuild 0 ((s.build 0).map fun b => { b with
    cut := if cut < 12 then Marks.mark Marks.clear cut else Marks.clear, shortDue := due })

/-- A build of one roll and no note. -/
def rolls1 : State :=
  let s := cutBuild .planned 0 12 none
  s.setBuild 0 ((s.build 0).map fun b => { b with plan := one 9 1, remaining := Counts.zero })

theorem witness_ShortBuildsAreRebuiltOrCancelled_alone :
    (∀ s ∈ [cutBuild .planned 0 12 none, cutBuild .planned 0 2 none, cutBuild .planned 5 9 none],
      s.desk.trayOwner = some 0 ∧ (s.build 0).map (fun b => (b.state, s.isTrayBuild b)) = some (.planned, true)) ∧
    ((rolls1.build 0).map rolls1.isTrayBuild = some false ∧ (rolls1.build 0).map rolls1.cutRoll = some none) ∧
    ((cutBuild .planned 5 9 none).build 0).map (cutBuild .planned 5 9 none).cutRoll = some (some 9) ∧
    ((cutBuild .planned 0 2 none).build 0).map (cutBuild .planned 0 2 none).nextDenom = some (some 2) ∧
    (dispensing.dispenseInProgress 0 = true ∧ (cutBuild .dispensing 0 12 none).dispenseInProgress 0 = false) ∧
    ((cutBuild .dispensing 0 12 (some (.cut, 2))).build 0).map (·.shortDue) = some (some (.cut, 2)) ∧
    ((cutBuild .dispensing 5 12 none).build 0).map (fun b => (b.current, Counts.of b.remaining 2)) = some (some 2, 0) ∧
    (let s := (cutBuild .planned 0 12 none).setTrayOwner none; s.desk.trayOwner = none ∧ s.oldestTrayBuild = some 0) ∧
    (shop.desk.trayOwner = none ∧ shop.occupied = []) ∧ (shop.setTrayOwner (some 3)).build 3 = none := by decide +kernel

/-- The owner goes on to d2, the one note of its make-up order, with its request given (R57). -/
theorem test_build_dispenses : (buildStep 0 (cutBuild .planned 0 12 none)).map (·.arbiter.dispense) = some (some ⟨0, 2, 5⟩) := by
  decide +kernel

/-- Till 12 in a state of its session: F 10,000, N 4,000 and P 2,000. -/
def session (st : TillState) (s : State) : State := s.setTill 12 { s.till 12 with
  state := st, cls := 1, floatValue := 10000, sales := 4000, pickups := 2000
  returned := if st = .reconciled ∨ st = .exception then some 11900 else none }

theorem witness_ReportSalesFormsTheFigures : templated.ready ∧ ((session .trading templated).till 12).state = .trading ∧
    ((session .returning templated).till 12).state = .returning ∧
    ((session .reconciled templated).till 12).state = .reconciled ∧
    ((session .exception templated).till 12).state = .exception ∧ (trade.till 255).state = .closed :=
  ⟨⟨rfl, rfl, rfl⟩, by decide +kernel⟩

theorem witness_ExceptionsAreAcceptedAndTillsClosed : trade.ready ∧ trade.dualControl .supervisor 1001 1001 = some .dualControl ∧
    trade.dualControl .supervisor 1001 1002 = none ∧ (trade.till 255).state ≠ .exception ∧
    ((session .exception trade).till 12).state = .exception ∧ ((session .reconciled trade).till 12).state = .reconciled ∧
    trade.book.queue.length < 128 ∧ ((session .reconciled (queued 128)).till 12).state = .reconciled ∧
    128 ≤ (queued 128).book.queue.length := ⟨⟨rfl, rfl, rfl⟩, by decide +kernel⟩

/-- Station `n` with a record. -/
def stn (n : Nat) (st : StationState) (s : State) : State :=
  s.setStation n { s.station n with state := st, mech := some .ready }

/-- Station 1 BUSY with job 5 of lot 0. -/
def busy : State := (stn 1 .busy (lotIn 0 .counting (.pickup 12) trade)).setStation 1
  { StationRec.initial with state := .busy, mech := some .feeding, job := some (5, 0) }

theorem witness_LineRequestsReachTheStations : shop.ready ∧ shop.office.mode = .hold ∧
    shop.count.settings.bitRate = 38400 ∧ (9600 : Nat) ≠ shop.count.settings.bitRate ∧
    (∀ n < 5, (shop.station n).state ≠ .stacked) ∧
    (((stn 4 .idle shop).station 4).state ≠ .absent ∧ ((stn 4 .idle shop).station 4).resetPending = false ∧
      ((stn 4 .idle shop).station 4).working = false) ∧
    (busy.ready ∧ (busy.station 1).resetPending = false ∧ (busy.station 1).working = true) ∧
    (let s := makePending 1 (.reset false) (stn 1 .idle shop);
      (s.station 1).state ≠ .absent ∧ (s.station 1).resetPending = true) := by
  refine ⟨⟨rfl, rfl, rfl⟩, ?_, ?_, ?_, ?_, ?_, ⟨⟨rfl, rfl, rfl⟩, ?_⟩, ?_⟩ <;> decide +kernel

/-- A till trading, a container received, a stranded lot that waits. -/
def countable : State := lotIn 1 .waiting (.stranded 2) (box 95 .received .office (session .trading trade))
def stranded : State :=
  (lotIn 1 .waiting (.stranded 2) trade).setLot 1 (some (newLot 9 (.stranded 2) none none))

theorem witness_StartCountCreatesTheLot : countable.ready ∧ stranded.ready ∧
    (sourceInRange (.pickup 12) = true ∧ selInRange (.pickup 12) (some .coinOnly) = true ∧
      declaredInRange (some 1099511627776) = true ∧ countable.sourceNotes (.pickup 12) = true ∧
      countable.sourceReady (.pickup 12) = true ∧ countable.freeLots.head? = some 0) ∧
    (sourceInRange (.container 95) = true ∧ selInRange (.container 95) (some (.one 4)) = true ∧
      countable.sourceReady (.container 95) = true ∧ countable.count.jobs.length < 16) ∧
    (sourceInRange (.reserveRecount [0, 11]) = true ∧ sourceInRange (.reserveRecount [2]) = true ∧
      countable.sourceNotes (.reserveRecount [2]) = true ∧ countable.sourceReady (.reserveRecount [2]) = true) ∧
    (sourceInRange (.stranded 1) = true ∧ selInRange (.stranded 1) (some .any) = true ∧
      stranded.sourceReady (.stranded 1) = true ∧ (stranded.lot 1).isSome = true) :=
  ⟨⟨rfl, rfl, rfl⟩, ⟨rfl, rfl, rfl⟩, by decide +kernel⟩

/-- Lot 0, for any station, behind lot 1, for station 2 alone, which is taken; stations 3 and 4 offerable. -/
def assignable : State :=
  let s := (lotIn 0 .waiting (.pickup 12) (lotIn 1 .waiting (.ret 11) trade)).setJobs [1, 0]
  stn 3 .idle (stn 4 .idle (stn 2 .stacked (s.setLot 1 (some { newLot 1 (.ret 11) (some (.one 2)) none with state := .waiting }))))

theorem witness_StartCountCreatesTheLot_assignment : assignable.office.mode = .trading ∧ assignable.count.jobs = [1] ++ [0] ∧
    assignable.stationFor 1 = none ∧ assignable.stationFor 0 = some 3 ∧
    (assignable.station 3).resetPending = false ∧ (assignable.station 1).state = .absent ∧
    shop.office.mode ≠ .trading := by decide +kernel

/-- The first job for station 2 waits, and the later one for any takes station 3 (R104). -/
theorem test_assignment : (assignStep assignable).map (fun s => ((s.station 3).job, s.count.jobs)) =
    some (some (1, 0), [1, 0]) := by decide +kernel

/-- A coin-only lot that waits, and a COUNTED lot of 6 notes of d2 and 4 coins of d4. -/
def coinLot : State := (lotIn 63 .waiting (.pickup 12) trade).setLot 63 (some (newLot 1 (.pickup 12) (some .coinOnly) none))
def counted6 : LotRec := { newLot 1 (.pickup 12) (some .any) none with
  state := .counted, counting := some 1, band3 := one 2 6, coin := one 4 4, countedValue := 6800 }
def countedLot : State :=
  (lotIn 63 .counted (.pickup 12) (put 0 Counts.zero (session .pickup trade))).setLot 63 (some counted6)
/-- The declaration of 3 rolls of d9, 15,000 in value. -/
def declareReq (b : Option Nat) : DeclareCoinReq := ⟨63, [⟨9, 3⟩], 1001, b⟩

theorem witness_DeclareCoinAddsToTheLot : coinLot.ready ∧ countedLot.ready ∧ declareInRange (declareReq none) = true ∧
    (newLot 1 (.pickup 12) (some .coinOnly) none).takesCoin = true ∧ counted6.takesCoin = true ∧
    countedLot.lot 63 = some counted6 ∧ countedLot.isRoll 9 = true ∧ countedLot.oneOperator 1001 = true ∧
    countedLot.valueOf (Counts.add (one 4 4) (one 9 3)) ≤ countedLot.count.coinLimit ∧
    (let s := { countedLot with count := { countedLot.count with coinLimit := 15799 } };
      s.count.coinLimit < s.valueOf (Counts.add (one 4 4) (one 9 3)) ∧ s.dualControl .supervisor 1001 1002 = none) :=
  ⟨⟨rfl, rfl, rfl⟩, ⟨rfl, rfl, rfl⟩, by decide +kernel⟩

/-- The lot of `countedLot` interrupted in its deposit, still holding 2 notes of d2. -/
def interrupted6 : LotRec := { counted6 with state := .disposeInterrupted, disposal := some .deposit }
def interruptedLot : State := put 77 (one 2 2) (countedLot.setLot 63 (some interrupted6))
def restOf : Movement := ⟨.disposeReserve, .pos (lotPos 63), .pos reservePos, [⟨2, 2⟩], [1001], none⟩

/-- The movements of R111 and R114 that ACCEPT COUNT books for it into RESERVE. -/
def intoReserve : List Movement :=
  [⟨.intake, .floor 12, .pos 77, [⟨2, 6⟩, ⟨4, 4⟩], [1001], none⟩,
    ⟨.disposeReserve, .pos 77, .pos 0, [⟨2, 6⟩, ⟨4, 4⟩], [1001], none⟩]

/-- A COUNTED lot of another source, where it holds 5 notes of d2 recorded in that source's position. -/
def countedOf (src : LotSource) (p : Nat) : State :=
  (put p (one 2 5) (box 95 .received .office (box 94 .opened .office countedLot))).setLot 63
    (some { counted6 with source := src, suspects := one 2 1 })

/-- The conditions of ACCEPT COUNT hold, and the book takes the group. -/
def accepts (d : Disposal) (s : State) : Bool :=
  match s.lot 63 with
  | some l => s.powered && s.link.inHand.isNone && !s.link.stopping && l.state = .counted
      && (s.acceptOps l.source 1001 (some 1002)).isNone && !s.disposalRefused d l && !s.tillRefuses l
      && (applyGroup 1 (s.acceptGroup 63 1001 d l) (heard s)).isOk
  | none => false

/-- Station 1, or a HAND_FED one, STACKED with the lot. -/
def stackAt (k : Nat) (s : State) : State := s.setStation k { s.station k with state := .stacked, stackLot := some 63 }

theorem witness_DisposalsBookTheLot :
    (∀ s ∈ [countedLot, interruptedLot, stackAt 1 interruptedLot], s.ready) ∧ countedLot.lot 63 = some counted6 ∧
    (acceptInRange ⟨63, some .reserve, 1001, none⟩ = true ∧ countedLot.acceptGroup 63 1001 .reserve counted6 = intoReserve ∧
      accepts .reserve countedLot = true ∧ countedLot.totalsLaw) ∧
    (∃ r, applyGroup 1 intoReserve (heard (put 0 (one 2 65530) countedLot)) = .error (2, r)) ∧
    ((accepts .deposit countedLot && accepts (.container 94) (countedOf (.ret 12) 77)
      && accepts .deposit (countedOf (.container 95) 173) && accepts (.container 94) (countedOf (.reserveRecount [2]) 0)
      && accepts .reserve (countedOf (.purge 1) 176) && accepts .deposit (countedOf (.stranded 2) 77)) = true) ∧
    (counted6.hasNotes = true ∧ counted6.counting = some 1 ∧ ((stackAt 1 countedLot).station 1).stackLot = some 63 ∧
      ((stackAt 1 countedLot).station 1).resetPending = false) ∧
    (interruptedLot.lot 63 = some interrupted6 ∧ interruptedLot.feederHolder 63 interrupted6 = none ∧
      (stackAt 1 interruptedLot).feederHolder 63 interrupted6 = some 1 ∧
      pairsOf (interruptedLot.posRec (lotPos 63)).counts = restOf.pairs ∧ checkMovement restOf false interruptedLot = none) := by
  refine ⟨ready_all _ (by decide +kernel), ?_, ?_, ⟨_, rfl⟩, ?_⟩
  · decide +kernel
  · exact ⟨by decide +kernel, by decide +kernel, by decide +kernel, by unfold State.totalsLaw; decide +kernel⟩
  · decide +kernel

theorem witness_RejectAndVoidGiveTheLotBack : countedLot.ready ∧ countedLot.lot 63 = some counted6 ∧
    counted6.state = .counted ∧ counted6.recounts < 3 ∧ counted6.voidable = true ∧
    (counted6.hasNotes = true ∧ counted6.counting = some 1 ∧ (countedLot.station 1).stackLot ≠ some 63 ∧
      ((stackAt 1 countedLot).station 1).stackLot = some 63) ∧
    ((countedLot.setLot 63 (some { counted6 with recounts := 3 })).lot 63).isSome = true := ⟨⟨rfl, rfl, rfl⟩, by decide +kernel⟩

/-- Cassette 0.2 RECYCLE for d2 with 40 notes, cassette 1.5 vacant, in HOLD with the modules SAFE_OPEN. -/
def openShop : State :=
  let s := put 3 (one 2 40) (cass 2 .recycle (some 2) shop)
  { s with recycler := { s.recycler with modules := Tab.fill 2 ⟨.safeOpen, .tags, false⟩ } }

theorem witness_CassetteRequestsSetUpTheRecycler : openShop.ready ∧ openShop.office.mode = .hold ∧
    slotIndex ⟨0, 2⟩ = some 2 ∧ slotIndex ⟨1, 5⟩ = some 11 ∧ slotIndex ⟨1, 6⟩ = none ∧ slotIndex ⟨2, 0⟩ = none ∧
    roleSuits (some .depositOnly) (some 2) = true ∧ roleSuits (some .spare) none = true ∧ openShop.noteGiven (some 2) = true ∧
    ((openShop.cassette 2).present = true ∧ (openShop.cassette 2).role ≠ .retired ∧ (openShop.cassette 2).mismatch = false ∧
      (openShop.cassette 2).evacSource = false ∧ (openShop.cassette 2).evacSpare = false ∧
      (openShop.cassette 2).denom = some 2 ∧ openShop.cassetteCount 2 ≤ 100) ∧
    ((openShop.cassette 11).present = false ∧ openShop.isCassetteTag 4294967295 (some 11) = false ∧
      openShop.inRegister 4294967295 = false) ∧
    (openShop.isNote 2 = true ∧ rangesOk [⟨3, [⟨0, 2⟩]⟩, ⟨0, []⟩] = some [(3, [2]), (0, [])]) := ⟨⟨rfl, rfl, rfl⟩, by decide +kernel⟩

/-- Cassette 0.3 DEPOSIT_ONLY with 5 notes of d2, cassette 0.4 stranded with 2, cassette 0.5 empty. -/
def removing : State :=
  let s := cass 5 .spare none (put 5 (one 2 2) (cass 4 .retired (some 2) (put 4 (one 2 5) (cass 3 .depositOnly (some 2) openShop))))
  s.setCassette 4 { s.cassette 4 with stranded := true }

theorem witness_RemovedCassetteLeavesTheSlotVacant : removing.ready ∧
    (removing.office.mode = .hold ∧ slotIndex ⟨0, 3⟩ = some 3 ∧ opOk 1 = true ∧ opOk 999999 = true ∧ opOk 0 = false ∧
      opOk 1000000 = false ∧ removing.dualControl .custodian 1001 1002 = none ∧ (removing.module 0).state = .safeOpen) ∧
    (([3, 4, 5].all fun c => (removing.cassette c).present && !(removing.cassette c).evacSource
      && !(removing.cassette c).evacSpare) = true ∧ removing.cassetteCount 5 = 0) ∧
    ((removing.cassette 3).role = .depositOnly ∧ (removing.cassette 3).mismatch = false ∧ (removing.cassette 3).tag = some 14 ∧
      removing.inRegister 14 = false ∧ removing.freeContainers.head? = some 0) ∧
    ((removing.cassette 4).stranded = true ∧ removing.freeLots.head? = some 0) ∧
    (∃ t, applyGroup 1 (collectMoves removing 3 0 1001 1002) ((claimSlot (containerPos 0) (heard removing)).setContainer 0
      (some ⟨.closed, 14, .cassette, .office, none, none, none⟩)) = .ok t) ∧
    (∃ t, applyGroup 1 (withPairs [recoveryMove removing 4 0 1001 1002])
      (createLot 0 (.stranded 4) none none (heard removing)) = .ok t) := by
  refine ⟨⟨rfl, rfl, rfl⟩, ?_, ?_, ?_, ?_, ok_of_isOk ?_, ok_of_isOk ?_⟩ <;> decide +kernel

theorem witness_SpineSettingsAreStored : shop.ready ∧ shop.office.mode = .hold ∧ (60 : Nat) ≤ 7200 ∧ (1 : Nat) ≤ 255 :=
  ⟨⟨rfl, rfl, rfl⟩, by decide +kernel⟩

/-- Cassette 0.2 over threshold beside a spare, evacuation enabled. -/
def evacuable : State :=
  let s := cass 5 .spare none (stocked trade)
  s.setEvac { s.evac with enables := Tab.fill 2 true }

theorem witness_SupervisorsClearAndEvacuate : evacuable.ready ∧ slotIndex ⟨0, 2⟩ = some 2 ∧
    evacuable.dualControl .supervisor 1001 1002 = none ∧ (evacuable.cassette 2).present = true ∧
    evacuable.office.mode = .trading ∧ evacuable.evac.state = .idle ∧ (evacuable.cassette 2).sourceable = true ∧
    evacuable.inService (moduleOf 2) = true ∧ evacuable.evac.enables.get false (moduleOf 2) = true ∧
    evacuable.spareFor 2 = some 5 ∧
    (let s := evacuable.setRun dispensing.recycler.run; s.recycler.run.state = .running ∧ s.recycler.run.kind = .dispense ∧
      s.recycler.run.interrupted = false ∧ s.recycler.run.cause = none ∧ s.recycler.run.pick = some 2) :=
  ⟨⟨rfl, rfl, rfl⟩, by decide +kernel⟩

/-- The evacuation of cassette 0.2, with `n` notes, into 0.5, in a state, enabled or not, after some failures. -/
def evacuating (st : EvacState) (n f : Nat) (on : Bool) : State :=
  let s := evacWaits 3 (put 3 (one 2 n) (cass 2 .recycle (some 2) trade))
  s.setEvac { s.evac with
    state := st, enables := Tab.fill 2 on, failures := f, pause := if st = .paused then some .hold else none
    standing := if st = .paused then [.hold] else [] }

theorem witness_SupervisorsClearAndEvacuate_ends :
    (∀ s ∈ [evacuating .active 0 0 true, evacuating .paused 4 3 false],
      s.evac.source = some 2 ∧ s.evac.spare = some 5 ∧ (2 : Nat) ≠ 5) ∧
    (((evacuating .active 0 0 true).posRec 3).counts.isZero = true ∧
      ((evacuating .active 4 3 true).posRec 3).counts.isZero = false ∧ (evacuating .active 4 3 true).evac.failures = 3) ∧
    (run .evacuate .evacuation 1 (evacuating .active 0 0 true)).evacRunInService = true ∧
    (evacuating .active 0 0 true).evacRunInService = false ∧
    ((evacuating .active 4 0 true).pauseCauses = [] ∧ (evacuating .paused 4 0 true).pauseCauses = []) ∧
    ((evacuating .active 4 0 false).pauseCauses = [.disabled] ∧ (evacuating .active 4 0 false).strandDue = false) ∧
    (pauseStep (evacuating .paused 4 0 false)).isSome = true := by decide +kernel

/-- A PAUSED record whose module is disabled takes that cause before HOLD, Table 8-3; the way that named the source names the
spare when the evacuation is done (R167). -/
theorem test_evacuation_ends : (pauseStep (evacuating .paused 4 0 false)).map (·.evac.pause) = some (some .disabled) ∧
    (evacExamine ((evacuating .active 0 0 true).setRanges 2 [⟨0, [2, 4], 1⟩])).ranges 2 = [⟨0, [5, 4], 1⟩] := by
  decide +kernel

/-- An OPEN bag in slot 95 that holds 3 notes of d2, an empty CLOSED one in slot 0, 5 notes of d2 in RESERVE. -/
def bags : State := box 0 .closed .office (put 0 (one 2 5) (put 173 (one 2 3) (box 95 .opened .office trade)))
def fillMove (n : Nat) : Movement := ⟨.fill, .pos 0, .pos 173, [⟨2, n⟩], [1001], none⟩

theorem witness_BagRequestsFollowTheBag : bags.ready ∧ bags.numberTaken 999999999 = false ∧
    bags.slotsReserved < bags.freeContainers.length ∧ bags.freeContainers.head? = some 1 ∧
    ((bags.container 95).map (·.state) = some .opened ∧ bags.containerEmpty 95 = false ∧ bags.oneOperator 1001 = true ∧
      checkMovement (fillMove 5) false bags = none ∧ (checkMovement (fillMove 6) false bags).isSome = true) ∧
    ((bags.container 0).map (fun r => (r.state, r.consignment, r.countLot)) = some (.closed, none, none) ∧
      bags.containerEmpty 0 = true) := ⟨⟨rfl, rfl, rfl⟩, by decide +kernel⟩

/-- A delivery of one bag with 2 notes of d2. -/
def deliveryReq : CreateConsignmentReq := ⟨some .delivery, 65535, 0, 1, [⟨999999999, 2000, [⟨2, 2⟩]⟩]⟩
/-- A DRAFT collection in slot 7 and a CLOSED container that holds something. -/
def drafting : State :=
  (put 78 (one 2 3) (box 0 .closed .office trade)).setConsignment 7
    (some ⟨.collection, .draft, 7, 0, 100, [], none, none, false⟩)

theorem witness_ConsignmentsTakeTheirItems : trade.ready ∧ drafting.ready ∧
    (trade.createOk deliveryReq .delivery = true ∧ trade.clock < deliveryReq.windowClose ∧
      trade.itemsDefined deliveryReq.items = true ∧ (deliveryReq.items.map DeliveryItemReq.number).Nodup ∧
      trade.numberTaken 999999999 = false ∧ trade.consSlot = some 0) ∧
    ((drafting.consignment 7).map (fun c => (c.kind, c.state, c.items.length)) = some (.collection, .draft, 0) ∧
      (drafting.container 0).map (fun r => (r.state, r.location, r.countLot)) = some (.closed, .office, none) ∧
      drafting.containerEmpty 0 = false) ∧
    (16 ≤ (List.replicate 16 (⟨none, 1, 0, [], false⟩ : Item)).length) := ⟨⟨rfl, rfl, rfl⟩, ⟨rfl, rfl, rfl⟩, by decide +kernel⟩

/-- A collection of one bag in slot 0, in a state; the container in slot 0. -/
def coll (st : ConsState) (cst : ContState) (l : Location) : State :=
  let s := cons .collection st ⟨some 0, 500, 0, [], false⟩ (put 78 (one 2 3) (box 0 cst l trade))
  s.setContainer 0 ((s.container 0).map fun r => ({ r with consignment := some 0 } : ContRec))

theorem witness_BayRequestsUnlockOneDoor :
    (∀ s ∈ [coll .draft .assigned .office, coll .waiting .placed .bay, coll .complete .assigned .office], s.ready) ∧
    (let s := coll .draft .assigned .office;
      (s.consignment 0).isSome = true ∧ ((s.consignment 0).map fun c => s.stageable c) = some true ∧ s.clock < 100 ∧
        s.bayHeldByOther 0 = false ∧ s.strangerInBay 0 = false ∧ s.doors.courier.secure = true ∧
        (s.setDoor .courier { DoorRec.initial with sensorOpen := true }).doors.courier.secure = false) ∧
    (let s := coll .waiting .placed .bay;
      s.dualControl .custodian 1001 1002 = none ∧ ((s.consignment 0).map fun c => s.deliveryBarred 0 c) = some none ∧
        s.doors.office.secure = true ∧
        (s.setDoor .office { DoorRec.initial with locked := false }).doors.office.secure = false) ∧
    ((coll .complete .assigned .office).consignment 0).map (·.state) = some .complete ∧
    (let s := box 1 .closed .bay trade; s.retrievalBarred = false ∧ s.anyRetrievable = true ∧ s.doors.courier.secure = true) ∧
    trade.consIn .loading = none := ⟨ready_all _ (by decide +kernel), by decide +kernel⟩

/-- The safe in a state. -/
def safeIn (st : SafeState) (s : State) : State :=
  s.setSafe { s.office.safe with state := st, sensorOpen := decide (st = .opened), timer := some 0 }

theorem witness_HoldAndSafeFollowTheirStates :
    (∀ s ∈ [shop, trade, shop.setMode .holdPending, dispensing, safeIn .pending shop, safeIn .opened shop], s.ready) ∧
    shop.office.mode = .hold ∧ trade.office.mode = .trading ∧ (shop.setMode .holdPending).office.mode = .holdPending ∧
    shop.dualControl .custodian 1001 1002 = none ∧ shop.office.safe.state = .locked ∧ shop.spineIdle = true ∧
    shop.office.safe.forced = false ∧ dispensing.spineIdle = false ∧ (safeIn .pending shop).office.safe.state = .pending ∧
    (safeIn .closed shop).office.safe.state = .closed ∧ (safeIn .opened shop).office.safe.state = .opened ∧
    (trade.office.mode = .trading ∧ quiet trade = true ∧ trade.evac.state = .idle ∧ trade.holdConditions = true) ∧
    (let s := stn 2 .busy trade; quiet s = true ∧ (s.station 2).state = .busy) ∧
    (holdStep (shop.setMode .holdPending)).isSome = true :=
  ⟨ready_all _ (by decide +kernel), by decide +kernel⟩

theorem witness_OfficeSettingsAreStored : shop.ready ∧ shop.dualControl .twoSupervisors 1001 1002 = none ∧
    shop.numberHeld 999999 31 = false ∧ (shop.office.roster.get none 1).map (·.number) = some 1002 :=
  ⟨⟨rfl, rfl, rfl⟩, by decide +kernel⟩

/-- LINK_BUSY and a notice on the line. -/
def sendingBusy : State := { shop with link := { Link.initial with owed := [(39, 8)], onLine := some (.busy 39 8) } }
def sendingNotice : State := { shop with link := { Link.initial with
  notices := [⟨1, 0, .holdReached 0⟩], noticeNumber := 1, onLine := some (.notice ⟨1, 0, .holdReached 0⟩) } }

theorem witness_LinkEventsMoveTheFrames : shop.powered = true ∧ shop.link.onLine = none ∧
    (inHand.link.onLine = some (.reply 112 7 (okReply (statusFields shop))) ∧
      inHand.link.inHand.map (·.fetched) = some none ∧ inHand.link.stopping = false) ∧ sendingBusy.link.stopping = false ∧
    sendingBusy.link.onLine = some (.busy 39 8) ∧ sendingNotice.link.onLine = some (.notice ⟨1, 0, .holdReached 0⟩) := by
  decide +kernel

/-- A RESTART whose OK reply is on the line. -/
def restarting : State := after (.restart 7 (.good ())) shop

theorem witness_StartAnnouncesItself : (dark.powered = false ∧ ∃ t, exec (.powerOn true) dark = .next t) ∧
    (shop.ready ∧ shop.office.mode = .hold ∧ shop.recycler.run.state = .idle ∧ shop.recycler.purge = none ∧
      ∃ t, exec (.restart 255 (.good ())) shop = .next t) ∧
    (restarting.powered = true ∧ restarting.link.onLine = some (.reply 113 7 (okReply [])) ∧
      restarting.link.inHand.map (·.fetched) = some none ∧ restarting.link.owed = [] ∧
      (after (.queryTill 8 (.good 3)) restarting).link.owed ≠ []) ∧
    (stopping.link.onLine = some (.busy 42 8) ∧ stopping.link.stopping = true ∧ stopping.link.owed.tail = []) :=
  ⟨⟨rfl, _, rfl⟩, ⟨⟨rfl, rfl, rfl⟩, rfl, rfl, rfl, _, rfl⟩, by decide +kernel⟩

/-- The start after a RESTART: while its OK is on the line another request is owed LINK_BUSY; after that reply a request is
dropped; when the LINK_BUSY has left, STARTED is sent (R210). -/
theorem test_restart : (after (.queryTill 9 (.good 3)) stopping).link.inHand = none ∧
    (after .frameSent stopping).link.onLine = some (.notice ⟨1, 0, .started true true .hold 0⟩) := by decide +kernel

/-- Timers that have run out. -/
def overdue : State :=
  let s := cons .delivery .engaged ⟨none, 1, 0, [], false⟩ (safeIn .unlocked trade)
  { s with
    arbiter := { s.arbiter with window := some 0 }
    doors := { s.doors with
      office := { DoorRec.initial with locked := false, sensorOpen := true, openTime := some 61 }, courierTimer := some 0 } }

theorem witness_TimeEndsWhatItShould : overdue.powered = true ∧ overdue.arbiter.window = some 0 ∧
    ((coll .staged .placed .bay).consignment 0).map (fun c => (c.state, c.windowOpen)) = some (.staged, 0) ∧
    ((coll .staged .placed .bay).setClock 100).clock = 100 ∧
    (overdue.door .office).openTime = some 61 ∧ overdue.bay.doorLimit < 61 ∧ (overdue.door .office).heldOpen = false ∧
    overdue.doors.courierTimer = some 0 ∧ overdue.doors.courier.sensorOpen = false ∧ overdue.consIn .engaged = some 0 ∧
    overdue.office.safe.state = .unlocked ∧ overdue.office.safe.timer = some 0 ∧
    (((coll .staged .placed .bay).consignment 0).map (·.windowClose) = some 100 ∧
      ((coll .draft .placed .bay).consignment 0).map (·.state) = some .draft ∧ trade.consignment 7 = none) ∧
    (trade.arbiter.window ≠ some 0 ∧ (trade.door .courier).openTime = none ∧ trade.doors.courierTimer ≠ some 0 ∧
      trade.consIn .engaged = none ∧ trade.office.safe.state = .locked) ∧
    (let s := overdue.setDoor .office { overdue.door .office with openTime := some 60 };
      (s.door .office).openTime = some 60 ∧ 60 ≤ s.bay.doorLimit) := by decide +kernel

/-- A float window of one second is CLOSED by the tick that takes its time to zero (R154). -/
theorem test_window_closes : (after .clockTick (trade.setArbiter { trade.arbiter with window := some 1 })).arbiter.window = none := by
  decide +kernel

theorem witness_SafeSensorMovesTheSafe : shop.powered = true ∧ (safeIn .unlocked shop).office.safe.state = .unlocked ∧
    (shop.office.safe.state = .locked ∧ shop.office.safe.sensorOpen = false) ∧
    ((safeIn .opened shop).office.safe.state = .opened ∧ (safeIn .opened shop).office.safe.lockDue = false) ∧
    (after (.closeSafe 1 (.good ())) (safeIn .opened shop)).office.safe.lockDue = true ∧
    (let s := shop.setSafe { shop.office.safe with forced := true, sensorOpen := true };
      s.office.safe.state = .locked ∧ s.office.safe.forced = true) := by decide +kernel

/-- The courier door unlocked for an ENGAGED consignment, and open during a transfer. -/
def engaged0 : State :=
  let s := coll .engaged .placed .bay
  s.setDoors { s.doors with courier := { DoorRec.initial with locked := false }, courierTimer := some 120 }
def transfer0 : State := after .courierDoorOpened engaged0

/-- The courier door of an ENGAGED consignment found OPEN and then given up by ABORT: its lock is due (R181). -/
def forcedOpen : State := after (.abort 1 (.good 0)) (engaged0.setDoor .courier { engaged0.doors.courier with sensorOpen := true })

theorem witness_DoorSensorsMoveTheBay : shop.powered = true ∧ shop.consIn .engaged = none ∧
    ((shop.door .office).sensorOpen = false ∧ (shop.door .office).locked = true ∧ (shop.door .office).forced = false) ∧
    ((engaged0.door .courier).sensorOpen = false ∧ (engaged0.door .courier).locked = false ∧ engaged0.consIn .engaged = some 0) ∧
    ((unlockDoor .office shop).door .office).locked = false ∧ shop.consIn .transferring = none ∧
    (transfer0.consIn .transferring = some 0 ∧ (transfer0.consignment 0).isSome = true) ∧
    (forcedOpen.doors.courier.lockDue = true ∧ forcedOpen.consIn .transferring = none) ∧
    (let s := shop.setDoor .office { shop.door .office with sensorOpen := true, forced := true, heldOpen := true };
      (s.door .office).forced = true ∧ (s.door .office).heldOpen = true) := by decide +kernel

/-- A transfer of a delivery item that is expected. -/
def delivering : State := cons .delivery .transferring ⟨none, 600, 2000, [⟨2, 2⟩], false⟩ trade

theorem witness_ReadersMoveContainers : shop.powered = true ∧ shop.consIn .loading = none ∧ shop.doors.retrieval = false ∧
    (let s := coll .loading .assigned .office; s.consIn .loading = some 0 ∧
      ((s.consignment 0).map fun c => c.loadingContainer 500) = some (some 0) ∧
      ((s.container 0).map fun r => (r.state, r.location)) = some (.assigned, .office)) ∧
    (let s := coll .loading .placed .bay; ((s.container 0).map fun r => r.state) = some .placed) ∧
    (let s := box 1 .closed .bay (trade.setDoors { trade.doors with retrieval := true });
      s.consIn .loading = none ∧ s.containerNumbered 501 = some 1 ∧ s.retrievable 1 = true) ∧
    shop.consIn .transferring = none ∧
    (transfer0.consIn .transferring = some 0 ∧ ((transfer0.consignment 0).map fun c => (c.itemIndex 500, c.kind)) =
      some (some 0, .collection) ∧ transfer0.handable 0 = true) ∧
    (delivering.consIn .transferring = some 0 ∧ ((delivering.consignment 0).map fun c => (c.itemIndex 600, c.kind)) =
      some (some 0, .delivery)) ∧
    (let s := cons .delivery .transferring ⟨some 0, 600, 2000, [⟨2, 2⟩], true⟩ trade;
      s.consIn .transferring = some 0 ∧ ((s.consignment 0).map fun c => c.itemIndex 600) = some (some 0)) := by decide +kernel

/-- A turn of station 1 on the line. -/
def turn1 (r : LineRecord) (p : Phase) (s : State) : State := s.setLine { s.line with turn := some ⟨1, r, 3, p⟩ }

theorem witness_PollCyclesServeTheStations : trade.powered = true ∧
    (trade.line.turn = none ∧ trade.cycleStations = [1, 2, 3, 4]) ∧ (turn1 .poll .sending trade).line.turn ≠ none ∧
    (turn1 .attach .sending trade).line.turn = some ⟨1, .attach, 3, .sending⟩ ∧ (∀ x ∈ [0, 3], x ≤ 3) ∧
    (turn1 .poll .awaiting trade).line.turn = some ⟨1, .poll, 3, .awaiting⟩ ∧
    (((stn 4 .idle trade).station 4).state ≠ .absent ∧ ((stn 4 .idle trade).station 4).misses < 2) ∧
    (let s := trade.setStation 4 { StationRec.initial with state := .idle, misses := 2 };
      (s.station 4).state = .idle ∧ 2 ≤ (s.station 4).misses) := by decide +kernel

/-- A report of 6 notes of d2 on its way from station 1, which holds job 5 of lot 0. -/
def reporting : State :=
  turn1 (.command (.fetchReport 5)) (.report ⟨5, 1, 6, 0⟩ [⟨2, 1, 2, 1, 2, 0⟩])
    (busy.setStation 1 { busy.station 1 with state := .reporting, attempts := 1 })

theorem witness_StationAnswersAreTaken : trade.powered = true ∧
    ((turn1 .attach .awaiting trade).line.turn = some ⟨1, .attach, 3, .awaiting⟩ ∧ (trade.station 1).state = .absent) ∧
    (let s := turn1 .poll .awaiting (stn 1 .idle trade); (s.station 1).state = .idle ∧ showsStack .ready 0 = false ∧
      mechAlarm (s.station 1).mech = mechAlarm (some .ready)) ∧
    (let s := turn1 .poll .awaiting busy; (s.station 1).state = .busy ∧ (s.station 1).job = some (5, 0) ∧
      mechAlarm (s.station 1).mech = false) ∧
    (turn1 (.command (.fetchReport 5)) .awaiting busy).line.turn = some ⟨1, .command (.fetchReport 5), 3, .awaiting⟩ ∧
    (reporting.line.turn = some ⟨1, .command (.fetchReport 5), 3, .report ⟨5, 1, 6, 0⟩ [⟨2, 1, 2, 1, 2, 0⟩]⟩ ∧
      (reporting.station 1).job = some (5, 0) ∧
      reporting.reportGood 5 ⟨5, 1, 6, 0⟩ [⟨2, 1, 2, 1, 2, 0⟩] ⟨5, 6⟩ = true) ∧
    (turn1 .poll .quiet trade).line.turn = some ⟨1, .poll, 3, .quiet⟩ := by decide +kernel

theorem witness_RunNotesArePickedAndBooked : depositing.powered = true ∧ depositing.recycler.run.roomToPick = true ∧
    depositing.picksFrom (.head 0) = true ∧ depositing.recycler.run.lot = some 0 ∧
    (0 < depositing.stillHeld (lotPos 0) 2 ∧ depositing.place 2 3 = some (0, 0, 2)) ∧
    (depositing.place 2 1 = none ∧ depositing.escrowRoom 2 = true) ∧ depositing.stillHeld (lotPos 0) 3 = 0 ∧
    depositing.recycler.run.failed + 1 < 3 ∧ depositing.recycler.run.cause = none ∧
    (let s := pickNote ⟨14, 2, .escrow⟩ depositing; s.recycler.run.live = true ∧
      s.recycler.run.path.find? (fun x => x.dest = arrivalDest .escrow) = some ⟨14, 2, .escrow⟩) ∧
    (dispensing.picksFrom (.cassette 2) = true ∧
      dispensing.recycler.run.kind = .dispense ∧ (dispensing.cassette 2).denom = some 2) := by decide +kernel

/-- Both modules STARTING at TAGS, and a purge cycle in progress. -/
def starting : State := { shop with recycler := { shop.recycler with modules := Tab.fill 2 ⟨.starting, .tags, false⟩ } }

theorem witness_MechanismEventsReachTheSpine : dispensing.powered = true ∧
    (dispensing.recycler.run.live = true ∧ (dispensing.module (jamModule .common)).fault = false) ∧
    shop.recycler.run.live = false ∧ (depositing.picksFrom (.head 0) = true ∧ depositing.recycler.run.cause = none) ∧
    ((starting.module 1).state = .starting ∧ (starting.module 1).step = .tags) ∧
    (shop.setPurge (some ⟨1, true⟩)).recycler.purge = some ⟨1, true⟩ := by decide +kernel

/-! ### One step of each family -/

/-- The recycler of the placement sequence of Section 6: cassettes 0.2, 1.2 and 0.3, and a run of lot 12. -/
def routed : State :=
  let s := cass 3 .depositOnly (some 2) (put 9 (one 2 700) (cass 8 .recycle (some 2) (cass 2 .recycle (some 2) trade)))
  let t := put 0 (one 2 150) (put 3 (one 2 1998) (put 4 (one 2 1998)
    (s.setCassette 2 { s.cassette 2 with capacity := 2000 })))
  let u := (t.setCassette 3 { t.cassette 3 with capacity := 2000 }).setCassette 8 { t.cassette 8 with
    capacity := 2000, atThreshold := true }
  put 26 (one 2 6) (((lotIn 12 .disposing (.pickup 12) u).setRun (Run.granted .deposit (.head 0) (some 12) none 25)).setRanges 2
    [⟨2, [2, 8], 0⟩, ⟨0, [3], 0⟩])

/-- Section 6.13: bands 3 and 2 go to range 1, whose way 1 is at its threshold; bands 1 and 0 go to cassette 0.3. -/
theorem test_placement : routed.place 2 3 = some (0, 0, 2) ∧ (movePointer 2 0 0 routed).place 2 2 = some (0, 0, 2) ∧
    routed.place 2 1 = some (1, 0, 3) ∧ routed.place 2 0 = some (1, 0, 3) := by decide +kernel

/-- Section 6.13, note 1: cassette 0.2 goes from 1998 to 1999 and the pointer of range 1 to way 1. -/
theorem test_deposit_note :
    let s := after (.noteArrived (.cassette 2)) (after (.noteRead (.head 0) (.note 2 3)) routed)
    s.held 3 2 = 1999 ∧ (s.ranges 2).map (·.next) = [1, 0] ∧ s.held 26 2 = 5 := by decide +kernel

/-- A start whose store fails its check is the store loss of R24: HOLD, an empty denomination table, an empty roster. -/
theorem test_store_loss : (after (.powerOn false) dark).office.mode = .hold ∧ (after (.powerOn false) dark).denom 0 = .empty ∧
    (after (.powerOn false) dark).office.roster.get none 0 = none := by decide +kernel

/-- A request outside its mode is refused: SET DENOMINATION in TRADING is HOLD_REQUIRED (R3). -/
theorem test_hold_required : status (after (.setDenomination 9 (.good ⟨2, .note 1000⟩)) trade) = some .holdRequired := by
  decide +kernel

/-- A body that does not decode is BAD_FIELD (R203). -/
theorem test_bad_body : status (after (.openSafe 9 .bad) shop) = some .badField := by decide +kernel

/-- OPENING of 3 notes of d2 into RESERVE adds them (R25). -/
theorem test_opening : (after (.opening 9 (.good ⟨0, [⟨2, 3⟩], 1001, 1002⟩)) shop).held 0 2 = 3 := by decide +kernel

/-- OPEN SAFE needs two different operators; with the spine in use the safe is PENDING and the reply ACCEPTED (R197, the
sequence of Section 10). -/
theorem test_open_safe : (after (.openSafe 9 (.good ⟨1001, 1001⟩)) shop).office.safe.state = .locked ∧
    (after (.openSafe 9 (.good ⟨1001, 1002⟩)) dispensing).office.safe.state = .pending ∧
    status (after (.openSafe 9 (.good ⟨1001, 1002⟩)) dispensing) = some .accepted := by decide +kernel

/-- SET DOOR LIMIT clamps 5 s to 10 s and 400 s to 300 s (R182). -/
theorem test_door_limit : (after (.setDoorLimit 9 (.good 5)) trade).bay.doorLimit = 10 ∧
    (after (.setDoorLimit 9 (.good 400)) trade).bay.doorLimit = 300 := by decide +kernel

/-- START COUNT of a pickup claims the lowest free lot (R100). -/
theorem test_start_count : ((after (.startCount 9 (.good ⟨.pickup 12, some .any, none⟩)) countable).lot 0).isSome = true ∧
    status (after (.startCount 9 (.good ⟨.pickup 12, some .any, none⟩)) countable) = some .ok := by decide +kernel

/-- After a CUT a note read was picked before it: it goes its way and is booked (R138, R155); with no note in path the run
has closed, and with no room in its limit it picked none. -/
theorem test_note_read_after_cut :
    let cut := cutRun (after (.noteRead (.head 0) (.note 2 3)) routed)
    (after (.noteArrived (.cassette 3)) (after (.noteRead (.head 0) (.note 2 0)) cut)).held 4 2 = 1999 ∧
      (after (.noteRead (.head 0) (.note 2 0)) (cut.setRun { cut.recycler.run with limit := 1 })).recycler.run.path =
        cut.recycler.run.path := by decide +kernel

/-- A third FETCH REPORT answered by STATE REPORT_READY ends the job: one COUNT_FAILED and one STATION_STATE (R92, R98). -/
theorem test_one_station_state :
    let s := turn1 (.command (.fetchReport 5)) .awaiting
      (busy.setStation 1 { busy.station 1 with state := .reporting, attempts := 3, pending := some (.fetchReport 5) })
    let t := answeredBy 1 (.command (.fetchReport 5)) (some .reportReady) 0 s
    (t.station 1).state = .stacked ∧ t.link.notices.length = s.link.notices.length + 2 := by decide +kernel

/-- SET LINE takes effect from the next record: with the limit 7 in place of 1, an answer with 3 error signals is good,
and so the station's mechanism state is shown (R79). -/
theorem test_set_line :
    let s := turn1 .poll .awaiting (stn 1 .idle trade)
    let low := { s with count := { s.count with settings := { s.count.settings with repeatLimit := 1 } } }
    ((after (.stationState 0 [3] (some .ready) 0) low).station 1).failed = 1 ∧
      ((after (.stationState 0 [3] (some .ready) 0) { low with count := { low.count with settings :=
        { low.count.settings with repeatLimit := 7 } } }).station 1).failed = 0 := by decide +kernel

/-- A second release request for a slot whose release is pending changes nothing (R11). -/
theorem test_second_release :
    let s := trade.setPosRec 14 { trade.posRec 14 with releasePending := true }
    requestRelease 14 s = s := by decide +kernel

/-- QUERY RECYCLER of twelve cassettes with kept announcements and a DISPENSE run whose purge cycle failed exceeds 512 bytes
with every list empty: its last two fields, the purge bin and the end cause, go (R205, log entry 33). -/
theorem test_query_cut :
    let full : CasRec := { CasRec.vacant with
      present := true, tag := some 1, sensed := .tag 2, role := .recycle, denom := some 2, mismatch := true
      announced := some ⟨3, .recycle, some 2, 2000⟩ }
    let s := (List.range 12).foldl (fun s c => s.setCassette c full) dispensing
    let r := (doQueryRecycler () (s.setRun { s.recycler.run with
      state := .unclosed, bin := some 0, cause := some .jam })).1
    r.data.flatten.length = (itemsThatFit 511 r.data).flatten.length + 4 ∧ (replyBody r).length = 512 := by decide +kernel

/-- A jam of the common section takes the run to PURGING (R141). -/
theorem test_jam : (after (.jam .common) dispensing).recycler.run.state = .purging := by decide +kernel

/-- A clock tick adds one second. -/
theorem test_clock : (after .clockTick shop).office.clock = shop.office.clock + 1 := by decide +kernel

end Sys2Proof.Tests
end

section
/-! What a command may leave changed of the host's settings and of the custody law: the projection `State.kept` of what most
operations never touch, and the relation `Faithful` that every operation satisfies. -/

-- One theorem at a time: the whole text holds more theorems than the check has room for threads.
set_option Elab.async false

namespace Sys2Proof.Machine

/-- What the host configures: it changes by its own requests only. -/
structure Settings where
  denoms : Tab 12 DenomRec
  templates : Tab 8 (Option Template)
  roster : Tab 32 (Option RosterEntry)
  coinLimit : Nat
  line : LineSettings
  arbiter : ArbSettings
  enables : Tab 2 Bool
  threshold : Nat
  leakNotes : Nat
  doorLimit : Nat
  relockTime : Nat

/-- The settings in force. -/
def State.settings (s : State) : Settings where
  denoms := s.book.denoms
  templates := s.desk.templates
  roster := s.office.roster
  coinLimit := s.count.coinLimit
  line := s.count.settings
  arbiter := s.arbiter.settings
  enables := s.evac.enables
  threshold := s.evac.threshold
  leakNotes := s.evac.leakNotes
  doorLimit := s.bay.doorLimit
  relockTime := s.office.relockTime

/-- The part of a position record that the custody law speaks of. -/
structure Slot where
  inUse : Bool
  releasePending : Bool
  counts : Counts

/-- The custody part of a position record. -/
def PosRec.slot (r : PosRec) : Slot := ⟨r.inUse, r.releasePending, r.counts⟩

/-- The settings, and all of the book that the custody law speaks of. -/
structure Kept where
  settings : Settings
  slots : List Slot
  totals : Counts

/-- What an operation outside the book, and most of those on it, leaves as it is. -/
def State.kept (s : State) : Kept := ⟨s.settings, s.book.positions.list.map PosRec.slot, s.book.totals⟩

/-! ### The custody law is about `kept` alone -/

theorem posRec_slot (s : State) (p : Nat) :
    (s.posRec p).slot = (s.kept.slots[p]?).getD PosRec.fixed.slot := by
  simp only [State.kept, List.getElem?_map, State.posRec, Tab.get, List.getD_eq_getElem?_getD]
  cases s.book.positions.list[p]? <;> rfl

theorem posRec_slot_of_kept {s t : State} (h : t.kept = s.kept) (p : Nat) : (t.posRec p).slot = (s.posRec p).slot := by
  rw [posRec_slot, posRec_slot, h]

theorem settings_of_kept {s t : State} (h : t.kept = s.kept) : t.settings = s.settings := congrArg Kept.settings h

theorem custodySum_eq (s : State) (d : Nat) :
    s.custodySum d = ((s.kept.slots.map fun r => Counts.of r.counts d).foldr (· + ·) 0) := by
  simp only [State.custodySum, State.kept, List.map_map]; rfl

theorem bookLaw_of_kept {s t : State} (h : t.kept = s.kept) (hs : s.bookLaw) : t.bookLaw := by
  obtain ⟨hsum, hempty⟩ := hs
  refine ⟨fun d hd => ?_, fun p h1 h2 hp => ?_⟩
  · have ht : t.book.totals = s.book.totals := congrArg Kept.totals h
    rw [custodySum_eq, h, ← custodySum_eq, ht]; exact hsum d hd
  · obtain ⟨hu, hr, hc⟩ := (Slot.mk.injEq ..).mp (posRec_slot_of_kept h p)
    rw [hc]; exact hempty p h1 h2 (by rwa [← hu, ← hr])

/-! ### Every operation is faithful -/

/-- From `s` to `t` no setting has changed, and the custody law holds in `t` where it held in `s`. -/
def Faithful (s t : State) : Prop := t.settings = s.settings ∧ (s.bookLaw → t.bookLaw)

variable {r s t : State}

theorem Faithful.refl (s : State) : Faithful s s := ⟨rfl, id⟩

theorem Faithful.trans (h : Faithful r s) (k : Faithful s t) : Faithful r t := ⟨k.1.trans h.1, k.2 ∘ h.2⟩

/-- What leaves `kept` as it is may follow. -/
theorem Faithful.kept (h : Faithful r s) (e : t.kept = s.kept := by simp) : Faithful r t :=
  h.trans ⟨settings_of_kept e, bookLaw_of_kept e⟩

theorem Faithful.each {f : Nat → State → State} (hf : ∀ n s, Faithful r s → Faithful r (f n s)) (l : List Nat)
    (h : Faithful r s) : Faithful r (State.each f l s) := each_keeps (Faithful r) f hf l s h

/-! ### What leaves `kept`: the records of the tables -/

@[simp] theorem setTill_kept (i : Nat) (x : TillRec) (s : State) : (s.setTill i x).kept = s.kept := rfl
@[simp] theorem setBuild_kept (i : Nat) (x : Option Build) (s : State) : (s.setBuild i x).kept = s.kept := rfl
@[simp] theorem setTrayOwner_kept (o : Option Nat) (s : State) : (s.setTrayOwner o).kept = s.kept := rfl
@[simp] theorem setLot_kept (i : Nat) (x : Option LotRec) (s : State) : (s.setLot i x).kept = s.kept := rfl
@[simp] theorem setStation_kept (i : Nat) (x : StationRec) (s : State) : (s.setStation i x).kept = s.kept := rfl
@[simp] theorem setJobs_kept (l : List Nat) (s : State) : (s.setJobs l).kept = s.kept := rfl
@[simp] theorem setModRec_kept (i : Nat) (x : ModRec) (s : State) : (s.setModRec i x).kept = s.kept := rfl
@[simp] theorem setCassette_kept (i : Nat) (x : CasRec) (s : State) : (s.setCassette i x).kept = s.kept := rfl
@[simp] theorem setRanges_kept (i : Nat) (x : List Range) (s : State) : (s.setRanges i x).kept = s.kept := rfl
@[simp] theorem setRun_kept (x : Run) (s : State) : (s.setRun x).kept = s.kept := rfl
@[simp] theorem setPurge_kept (x : Option PurgeCycle) (s : State) : (s.setPurge x).kept = s.kept := rfl
@[simp] theorem setContainer_kept (i : Nat) (x : Option ContRec) (s : State) : (s.setContainer i x).kept = s.kept := rfl
@[simp] theorem setConsignment_kept (i : Nat) (x : Option ConsRec) (s : State) : (s.setConsignment i x).kept = s.kept := rfl
@[simp] theorem setSafe_kept (x : Safe) (s : State) : (s.setSafe x).kept = s.kept := rfl
@[simp] theorem setMode_kept (m : Mode) (s : State) : (s.setMode m).kept = s.kept := rfl
@[simp] theorem setClock_kept (n : Nat) (s : State) : (s.setClock n).kept = s.kept := rfl
@[simp] theorem setDoors_kept (x : Doors) (s : State) : (s.setDoors x).kept = s.kept := rfl
@[simp] theorem setDoor_kept (d : Door) (x : DoorRec) (s : State) : (s.setDoor d x).kept = s.kept := by cases d <;> rfl
@[simp] theorem setLine_kept (x : Line) (s : State) : (s.setLine x).kept = s.kept := rfl
@[simp] theorem heard_kept (s : State) : (heard s).kept = s.kept := rfl

/-- A new arbiter with the same settings. -/
@[simp] theorem setArbiter_kept (a : Arbiter) (s : State) (h : a.settings = s.arbiter.settings) :
    (s.setArbiter a).kept = s.kept := by
  simp [State.kept, State.settings, h]

/-- A new evacuation record with the same enables and fault policy. -/
@[simp] theorem setEvac_kept (e : Evacuation) (s : State) (h1 : e.enables = s.evac.enables)
    (h2 : e.threshold = s.evac.threshold) (h3 : e.leakNotes = s.evac.leakNotes) : (s.setEvac e).kept = s.kept := by
  simp [State.kept, State.settings, h1, h2, h3]

/-- A position record that differs in its marks, its mode, its in-run mark or its last movement number only. -/
@[simp] theorem setPosRec_kept (p : Nat) (x : PosRec) (s : State) (h1 : x.inUse = (s.posRec p).inUse)
    (h2 : x.releasePending = (s.posRec p).releasePending) (h3 : x.counts = (s.posRec p).counts) :
    (s.setPosRec p x).kept = s.kept := by
  have h : x.slot = (s.posRec p).slot := by simp only [PosRec.slot, h1, h2, h3]
  have hs : (s.book.positions.list.set p x).map PosRec.slot = s.book.positions.list.map PosRec.slot := by
    rw [List.map_set]
    by_cases hp : p < s.book.positions.list.length
    · have hx : s.posRec p = s.book.positions.list[p] := List.getD_eq_getElem _ _ hp
      rw [h, hx, ← List.getElem_map PosRec.slot (h := by simpa using hp)]
      exact List.set_getElem_self _
    · exact List.set_eq_of_length_le (by simpa using Nat.le_of_not_lt hp)
  simp only [State.kept, State.setPosRec_book, Tab.set, hs, State.settings]
  rfl

end Sys2Proof.Machine
end

section
/-! What most operations of the model never touch: `kept`, said once for each. -/

-- One theorem at a time: the whole text holds more theorems than the check has room for threads.
set_option Elab.async false

namespace Sys2Proof.Machine

/-! ### Shared operations -/

@[simp] theorem notify_kept (b : NoticeBody) (s : State) : (notify b s).kept = s.kept := by unfold notify; split <;> rfl
@[simp] theorem notifyAll_kept (l : List NoticeBody) (s : State) : (notifyAll l s).kept = s.kept := by
  induction l generalizing s with
  | nil => rfl
  | cons b l ih => simp [notifyAll, ih]
@[simp] theorem transmit_kept (s : State) : (transmit s).kept = s.kept := by unfold transmit; split <;> rfl
@[simp] theorem owe_kept (c g : Nat) (s : State) : (owe c g s).kept = s.kept := by
  obtain ⟨l, h⟩ := owe_state c g s; rw [h]; rfl
@[simp] theorem respond_kept (c g : Nat) (x : Reply) (s : State) : (respond c g x s).kept = s.kept := by
  obtain ⟨l, h⟩ := respond_state c g x s; rw [h]; rfl
@[simp] theorem handFault_kept (x : FaultSource) (k : FaultKind) (s : State) : (handFault x k s).kept = s.kept := rfl

/-- A fold of operations that leave `kept`. -/
@[simp] theorem each_kept {f : Nat → State → State} (h : ∀ n s, (f n s).kept = s.kept) (l : List Nat) (s : State) :
    (State.each f l s).kept = s.kept :=
  each_keeps (fun t => t.kept = s.kept) f (fun n t ht => (h n t).trans ht) l s rfl

/-! ### The posting queue and reservations -/

@[simp] theorem queueEntry_kept (b : EntryBody) (s : State) : (queueEntry b s).kept = s.kept := by
  unfold queueEntry
  split
  · rfl
  · dsimp only; split
    · simp; rfl
    · rfl
@[simp] theorem dropEntries_kept (n : Nat) (s : State) : (dropEntries n s).kept = s.kept := rfl
@[simp] theorem changeEntry_kept (k : Nat) (f : ResEntry → ResEntry) (s : State) : (changeEntry k f s).kept = s.kept := rfl
@[simp] theorem issueFromEntry_kept (m : Movement) (s : State) : (issueFromEntry m s).kept = s.kept := by
  unfold issueFromEntry; split <;> rfl
@[simp] theorem reserve_kept (k t : Nat) (c : Counts) (s : State) : (reserve k t c s).kept = s.kept := by
  unfold reserve; split <;> rfl
@[simp] theorem releaseEntry_kept (k : Nat) (s : State) : (releaseEntry k s).kept = s.kept := rfl
@[simp] theorem cutEntries_kept (d : Nat) (s : State) : (cutEntries d s).1.kept = s.kept := rfl
@[simp] theorem stampSide_kept (x : Side) (n : Nat) (s : State) : (stampSide x n s).kept = s.kept := by
  cases x <;> simp [stampSide]
@[simp] theorem postSide_kept (x : Side) (m : Movement) (n : Nat) (s : State) : (postSide x m n s).kept = s.kept := by
  cases x with
  | pos p => simp only [postSide]; (repeat' split) <;> simp
  | _ => rfl
@[simp] theorem numberAndPost_kept (m : Movement) (s : State) : (numberAndPost m s).kept = s.kept := by
  simp only [numberAndPost, postSide_kept, stampSide_kept]; rfl
@[simp] theorem noticeFull_kept (c n : Nat) (s : State) : (noticeFull c n s).kept = s.kept := by simp [noticeFull]
@[simp] theorem noticeInto_kept (x : Side) (n : Nat) (s : State) : (noticeInto x n s).kept = s.kept := by
  unfold noticeInto; split <;> simp
@[simp] theorem markInRun_kept (p : Nat) (s : State) : (markInRun p s).kept = s.kept := by simp [markInRun]
@[simp] theorem queueSummary_kept (n : Nat) (s : State) : (queueSummary n s).kept = s.kept := by simp [queueSummary]
@[simp] theorem catchUpTills_kept (l : List Nat) (s : State) : (catchUpTills l s).kept = s.kept := by
  induction l generalizing s with
  | nil => rfl
  | cons n l ih => unfold catchUpTills; (repeat' split) <;> simp [ih]

/-! ### The arbiter's requests -/

@[simp] theorem join_settings (a : Arbiter) (e : DepositEntry) : (a.join e).settings = a.settings := by
  unfold Arbiter.join; split <;> rfl
@[simp] theorem leave_settings (a : Arbiter) (e : DepositEntry) : (a.leave e).settings = a.settings := by unfold Arbiter.leave; rfl
@[simp] theorem toTail_settings (a : Arbiter) (e : DepositEntry) : (a.toTail e).settings = a.settings := by
  simp [Arbiter.toTail]
@[simp] theorem cutRun_kept (s : State) : (cutRun s).kept = s.kept := by unfold cutRun; dsimp only; split <;> simp
@[simp] theorem giveHead_kept (h n : Nat) (s : State) : (giveHead h n s).kept = s.kept := by
  unfold giveHead; dsimp only; split <;> simp
@[simp] theorem dropHead_kept (h n : Nat) (s : State) : (dropHead h n s).kept = s.kept := by
  unfold dropHead; dsimp only; split <;> simp
@[simp] theorem giveTrayReturn_kept (k : Nat) (s : State) : (giveTrayReturn k s).kept = s.kept := by simp [giveTrayReturn]
@[simp] theorem dropTrayReturn_kept (s : State) : (dropTrayReturn s).kept = s.kept := by simp [dropTrayReturn]
@[simp] theorem giveDispense_kept (k d n : Nat) (s : State) : (giveDispense k d n s).kept = s.kept := by simp [giveDispense]
@[simp] theorem dropDispense_kept (s : State) : (dropDispense s).kept = s.kept := by simp [dropDispense]
@[simp] theorem withdrawDispense_kept (s : State) : (withdrawDispense s).kept = s.kept := by
  unfold withdrawDispense; (repeat' split) <;> simp
@[simp] theorem giveEvac_kept (s : State) : (giveEvac s).kept = s.kept := by simp [giveEvac]
@[simp] theorem dropEvac_kept (s : State) : (dropEvac s).kept = s.kept := by simp [dropEvac]
@[simp] theorem withdrawEvac_kept (s : State) : (withdrawEvac s).kept = s.kept := by
  unfold withdrawEvac; (repeat' split) <;> simp
@[simp] theorem entryToTail_kept (e : DepositEntry) (s : State) : (entryToTail e s).kept = s.kept := by
  unfold entryToTail; split <;> simp
@[simp] theorem skipOver_kept (s : State) : (skipOver s).kept = s.kept := by unfold skipOver; split <;> simp
@[simp] theorem accountNote_kept (k : RunKind) (s : State) : (accountNote k s).kept = s.kept := by simp [accountNote]

/-! ### Builds -/

@[simp] theorem withdrawFor_kept (k : Nat) (s : State) : (withdrawFor k s).kept = s.kept := by
  unfold withdrawFor; (repeat' split) <;> simp
@[simp] theorem becomeShort_kept (k : Nat) (c : ShortCause) (d : Nat) (s : State) : (becomeShort k c d s).kept = s.kept := by
  unfold becomeShort; split <;> simp
@[simp] theorem notesDone_kept (k : Nat) (b : Build) (s : State) : (notesDone k b s).kept = s.kept := by
  unfold notesDone; split <;> simp
@[simp] theorem nextDispense_kept (k : Nat) (b : Build) (s : State) : (nextDispense k b s).kept = s.kept := by
  unfold nextDispense; (repeat' split) <;> simp
@[simp] theorem cutReport_kept (d k : Nat) (s : State) : (cutReport d k s).kept = s.kept := by
  unfold cutReport; dsimp only; (repeat' split) <;> simp
@[simp] theorem unservable_kept (k d : Nat) (s : State) : (unservable k d s).kept = s.kept := by
  unfold unservable; (repeat' split) <;> simp
@[simp] theorem freeBuild_kept (k : Nat) (s : State) : (freeBuild k s).kept = s.kept := rfl
@[simp] theorem noteForBuild_kept (k d : Nat) (s : State) : (noteForBuild k d s).kept = s.kept := by
  unfold noteForBuild; split <;> simp
@[simp] theorem trayNotesLeft_kept (c : Counts) (s : State) : (trayNotesLeft c s).kept = s.kept := by
  unfold trayNotesLeft; (repeat' split) <;> simp
@[simp] theorem finishCancel_kept (k : Nat) (b : Build) (s : State) : (finishCancel k b s).kept = s.kept := by
  simp [finishCancel]
@[simp] theorem cutDenom_kept (d : Nat) (s : State) : (cutDenom d s).kept = s.kept := by
  unfold cutDenom; split <;> simp
@[simp] theorem cutDue_kept (s : State) : (cutDue s).kept = s.kept := by simp [cutDue]
@[simp] theorem dispenseClosed_kept (k : Nat) (x : Run) (s : State) : (dispenseClosed k x s).kept = s.kept := by
  unfold dispenseClosed; (repeat' split) <;> simp
@[simp] theorem trayClosed_kept (s : State) : (trayClosed s).kept = s.kept := by
  unfold trayClosed; (repeat' split) <;> simp
theorem trayFreed_kept (h : trayFreed s = some t) : t.kept = s.kept := by
  unfold trayFreed at h; (repeat' split at h) <;> cases h <;> simp
theorem trayTaken_kept (h : trayTaken s = some t) : t.kept = s.kept := by
  unfold trayTaken at h; (repeat' split at h) <;> cases h <;> simp
theorem buildStep_kept {k : Nat} (h : buildStep k s = some t) : t.kept = s.kept := by
  unfold buildStep at h; (repeat' split at h) <;> cases h <;> simp
theorem buildsStep_kept {l : List Nat} (h : buildsStep l s = some t) : t.kept = s.kept := by
  induction l with
  | nil => cases h
  | cons k l ih =>
    unfold buildsStep at h
    split at h
    · cases h; exact buildStep_kept ‹_›
    · exact ih h

end Sys2Proof.Machine
end

section
/-! What most operations of the model never touch, continued: the count unit, the recycler, the bay and the line. -/

-- One theorem at a time: the whole text holds more theorems than the check has room for threads.
set_option Elab.async false

namespace Sys2Proof.Machine

variable {s t : State}

/-! ### Stations and lots -/

@[simp] theorem changeStation_kept (n : Nat) (f : StationRec → StationRec) (s : State) :
    (changeStation n f s).kept = s.kept := by simp [changeStation]
@[simp] theorem noteStation_kept (n : Nat) (s : State) : (noteStation n s).kept = s.kept := by simp [noteStation]
@[simp] theorem withStation_kept (n : Nat) (f : State → State) (s : State) (h : (f s).kept = s.kept) :
    (withStation n f s).kept = s.kept := by unfold withStation; dsimp only; split <;> simp [h]
@[simp] theorem makePending_kept (n : Nat) (c : StationCommand) (s : State) : (makePending n c s).kept = s.kept := by
  simp [makePending]
@[simp] theorem giveStack_kept (n : Nat) (c : StackCommand) (s : State) : (giveStack n c s).kept = s.kept := by
  unfold giveStack; dsimp only; split <;> simp
@[simp] theorem jobToHead_kept (n : Nat) (s : State) : (jobToHead n s).kept = s.kept := by
  unfold jobToHead; split <;> simp
@[simp] theorem jobLeaves_kept (n : Nat) (s : State) : (jobLeaves n s).kept = s.kept := by simp [jobLeaves]
@[simp] theorem recountLot_kept (n : Nat) (b : Bool) (s : State) : (recountLot n b s).kept = s.kept := by
  unfold recountLot; split <;> simp
@[simp] theorem endJob_kept (n : Nat) (c : CountFailure) (s : State) : (endJob n c s).kept = s.kept := by
  unfold endJob; split <;> simp
@[simp] theorem endJobReport_kept (n : Nat) (s : State) : (endJobReport n s).kept = s.kept := by simp [endJobReport]
@[simp] theorem endJobMechanism_kept (n : Nat) (s : State) : (endJobMechanism n s).kept = s.kept := by
  simp [endJobMechanism]
@[simp] theorem interruptLot_kept (n : Nat) (s : State) : (interruptLot n s).kept = s.kept := by
  unfold interruptLot; split <;> simp
@[simp] theorem stackLost_kept (n k : Nat) (s : State) : (stackLost n k s).kept = s.kept := by simp [stackLost]
@[simp] theorem takeReport_kept (n l : Nat) (x : List ItemRecord) (s : State) : (takeReport n l x s).kept = s.kept := by
  unfold takeReport; dsimp only; split <;> simp
@[simp] theorem assignJob_kept (n k : Nat) (s : State) : (assignJob n k s).kept = s.kept := by
  unfold assignJob; dsimp only; split <;> exact (withStation_kept _ _ _ (by simp)).trans rfl
theorem assignStep_kept (h : assignStep s = some t) : t.kept = s.kept := by
  unfold assignStep at h
  split at h
  · obtain ⟨q, -, rfl⟩ := Option.map_eq_some_iff.mp h; simp
  · cases h

/-! ### Modules, cassettes and the evacuation -/

@[simp] theorem enterModule_kept (m : Nat) (x : ModState) (y : StartStep) (s : State) :
    (enterModule m x y s).kept = s.kept := by unfold enterModule; dsimp only; split <;> simp
@[simp] theorem faultModule_kept (m : Nat) (s : State) : (faultModule m s).kept = s.kept := by
  unfold faultModule; split <;> simp
@[simp] theorem faultBoth_kept (s : State) : (faultBoth s).kept = s.kept := by simp [faultBoth]
@[simp] theorem gradeModule_kept (m : Nat) (s : State) : (gradeModule m s).kept = s.kept := by
  unfold gradeModule; split <;> simp
theorem gradeStep_kept (h : gradeStep s = some t) : t.kept = s.kept := by
  obtain ⟨m, -, rfl⟩ := Option.map_eq_some_iff.mp h; simp
@[simp] theorem startModules_kept (s : State) : (startModules s).kept = s.kept := by
  unfold startModules; exact each_kept (fun m s => by split <;> simp) _ s
@[simp] theorem changeCassette_kept (c : Nat) (f : CasRec → CasRec) (s : State) : (changeCassette c f s).kept = s.kept := rfl
@[simp] theorem setThreshold_kept (c : Nat) (s : State) : (setThreshold c s).kept = s.kept := by simp [setThreshold]
@[simp] theorem raiseBucket_kept (c w : Nat) (s : State) : (raiseBucket c w s).kept = s.kept := by
  unfold raiseBucket; dsimp only; (repeat' split) <;> simp
@[simp] theorem goodNote_kept (c : Nat) (s : State) : (goodNote c s).kept = s.kept := by simp [goodNote]
@[simp] theorem goodNotes_kept (a b : Nat) (s : State) : (goodNotes a b s).kept = s.kept := by
  unfold goodNotes; dsimp only; (repeat' split) <;> simp
@[simp] theorem movePointer_kept (d k i : Nat) (s : State) : (movePointer d k i s).kept = s.kept := rfl
@[simp] theorem rewriteWays_kept (a b : Nat) (s : State) : (rewriteWays a b s).kept = s.kept := rfl
@[simp] theorem spareTakesRole_kept (a b : Nat) (s : State) : (spareTakesRole a b s).kept = s.kept := rfl
@[simp] theorem completeEvac_kept (a b : Nat) (s : State) : (completeEvac a b s).kept = s.kept := by
  simp only [completeEvac, notify_kept, dropEvac_kept]; rfl
@[simp] theorem strandEvac_kept (a b : Nat) (s : State) : (strandEvac a b s).kept = s.kept := by
  simp only [strandEvac, notify_kept, dropEvac_kept]; rfl
@[simp] theorem evacExamine_kept (s : State) : (evacExamine s).kept = s.kept := by
  unfold evacExamine; (repeat' split) <;> simp
@[simp] theorem evacRunClosed_kept (b : Bool) (s : State) : (evacRunClosed b s).kept = s.kept := by
  unfold evacRunClosed; (repeat' split) <;> simp
@[simp] theorem leaveSource_kept (a : Nat) (s : State) : (leaveSource a s).kept = s.kept := by
  unfold leaveSource; dsimp only; split <;> simp
@[simp] theorem startEvac_kept (a b : Nat) (f : Bool) (s : State) : (startEvac a b f s).kept = s.kept := by
  simp [startEvac]
theorem autoEvac_kept (h : autoEvac s = some t) : t.kept = s.kept := by
  unfold autoEvac at h
  (repeat' split at h) <;> try cases h
  obtain ⟨b, -, rfl⟩ := Option.map_eq_some_iff.mp h; simp
theorem pauseStep_kept (h : pauseStep s = some t) : t.kept = s.kept := by
  unfold pauseStep at h; (repeat' split at h) <;> cases h <;> simp

/-! ### Runs -/

@[simp] theorem tellNote_kept (x : Run) (d : Nat) (s : State) : (tellNote x d s).kept = s.kept := by
  unfold tellNote; split <;> simp
@[simp] theorem escrowNote_kept (d : Nat) (s : State) : (escrowNote d s).kept = s.kept := by simp [escrowNote]
@[simp] theorem foreignNote_kept (s : State) : (foreignNote s).kept = s.kept := by simp [foreignNote]
@[simp] theorem pickNote_kept (n : PathNote) (s : State) : (pickNote n s).kept = s.kept := by simp [pickNote]
@[simp] theorem endRun_kept (c : EndCause) (s : State) : (endRun c s).kept = s.kept := by
  unfold endRun; dsimp only; split <;> simp
theorem chooseStep_kept (h : chooseStep s = some t) : t.kept = s.kept := by
  unfold chooseStep at h; dsimp only at h; (repeat' split at h) <;> cases h <;> simp
theorem causeStep_kept (h : causeStep s = some t) : t.kept = s.kept := by
  unfold causeStep at h
  dsimp only at h
  (repeat' split at h) <;> first | exact chooseStep_kept h | (cases h; try simp)
@[simp] theorem recoveredEnd_kept (x : Run) (s : State) : (recoveredEnd x s).kept = s.kept := by
  unfold recoveredEnd; split <;> simp
@[simp] theorem stopRun_kept (c : EndCause) (m : Nat) (s : State) : (stopRun c m s).kept = s.kept := by
  unfold stopRun; dsimp only; split <;> simp
@[simp] theorem faultStill_kept (s : State) : (faultStill s).kept = s.kept := by
  unfold faultStill; exact each_kept (fun m s => by split <;> simp) _ s
@[simp] theorem purgeFailed_kept (c : PurgeCycle) (s : State) : (purgeFailed c s).kept = s.kept := by
  unfold purgeFailed; dsimp only; (repeat' split) <;> simp
@[simp] theorem safeOpened_kept (s : State) : (safeOpened s).kept = s.kept := by
  unfold safeOpened
  dsimp only
  rw [each_kept (fun m s => by split <;> simp)]
  (repeat' split) <;> simp
theorem purgeStart_kept (h : purgeStart s = some t) : t.kept = s.kept := by
  unfold purgeStart at h
  dsimp only at h
  split at h
  · obtain ⟨m, -, rfl⟩ := Option.map_eq_some_iff.mp h; simp
  · cases h
@[simp] theorem grant_kept (g : Grant) (s : State) : (grant g s).kept = s.kept := by
  unfold grant; dsimp only; split <;> simp
theorem grantStep_kept (h : grantStep s = some t) : t.kept = s.kept := by
  unfold grantStep at h
  split at h
  · obtain ⟨g, -, rfl⟩ := Option.map_eq_some_iff.mp h; simp
  · cases h
theorem preemptStep_kept (h : preemptStep s = some t) : t.kept = s.kept := by
  unfold preemptStep at h; dsimp only at h; (repeat' split at h) <;> cases h <;> simp
theorem cutStep_kept (h : cutStep s = some t) : t.kept = s.kept := by
  unfold cutStep at h
  split at h
  · rw [← Option.some.inj h, cutDue_kept]
  · cases h
@[simp] theorem unlockSafe_kept (s : State) : (unlockSafe s).kept = s.kept := by simp [unlockSafe]
theorem safeStep_kept (h : safeStep s = some t) : t.kept = s.kept := by
  unfold safeStep at h; split at h <;> cases h; simp
theorem holdStep_kept (h : holdStep s = some t) : t.kept = s.kept := by
  unfold holdStep at h; split at h <;> cases h; simp

/-! ### The bay -/

@[simp] theorem enterCons_kept (k : Nat) (x : ConsState) (s : State) : (enterCons k x s).kept = s.kept := by
  unfold enterCons; (repeat' split) <;> simp
@[simp] theorem examineWindow_kept (k : Nat) (s : State) : (examineWindow k s).kept = s.kept := by
  unfold examineWindow; (repeat' split) <;> simp
@[simp] theorem examineWindows_kept (s : State) : (examineWindows s).kept = s.kept := by simp [examineWindows]
@[simp] theorem raiseForced_kept (d : Door) (s : State) : (raiseForced d s).kept = s.kept := by
  unfold raiseForced; split <;> simp
@[simp] theorem raiseHeldOpen_kept (d : Door) (s : State) : (raiseHeldOpen d s).kept = s.kept := by
  unfold raiseHeldOpen; split <;> simp
@[simp] theorem checkHeld_kept (d : Door) (s : State) : (checkHeld d s).kept = s.kept := by
  unfold checkHeld; split <;> simp
@[simp] theorem sensorOpened_kept (d : Door) (s : State) : (sensorOpened d s).kept = s.kept := by
  unfold sensorOpened; dsimp only; (repeat' split) <;> simp
@[simp] theorem sensorClosed_kept (d : Door) (s : State) : (sensorClosed d s).kept = s.kept := by
  unfold sensorClosed; dsimp only; split <;> simp
@[simp] theorem unlockDoor_kept (d : Door) (s : State) : (unlockDoor d s).kept = s.kept := by simp [unlockDoor]
@[simp] theorem lockOffice_kept (s : State) : (lockOffice s).kept = s.kept := by
  unfold lockOffice; dsimp only; (repeat' split) <;> simp
@[simp] theorem settleOffice_kept (s : State) : (settleOffice s).kept = s.kept := by
  unfold settleOffice; dsimp only; (repeat' split) <;> simp
@[simp] theorem owedUnlock_kept (s : State) : (owedUnlock s).kept = s.kept := by
  unfold owedUnlock; dsimp only; split <;> simp
@[simp] theorem bayAfter_kept (s : State) : (bayAfter s).kept = s.kept := by simp [bayAfter]
@[simp] theorem lockCourier_kept (s : State) : (lockCourier s).kept = s.kept := by simp [lockCourier]
@[simp] theorem openRetrieval_kept (s : State) : (openRetrieval s).kept = s.kept := by
  unfold openRetrieval; dsimp only; (repeat' split) <;> simp
@[simp] theorem reject_kept (d : Door) (n : Nat) (c : RejectCause) (s : State) : (reject d n c s).kept = s.kept := by
  simp [reject]
@[simp] theorem setItem_kept (k i : Nat) (x : Item) (s : State) : (setItem k i x s).kept = s.kept := by
  unfold setItem; split <;> simp
@[simp] theorem moveContainer_kept (n : Nat) (x : ContState) (l : Location) (s : State) :
    (moveContainer n x l s).kept = s.kept := by unfold moveContainer; split <;> simp
@[simp] theorem loadingRead_kept (c : ConsRec) (n : Nat) (s : State) : (loadingRead c n s).kept = s.kept := by
  unfold loadingRead; (repeat' split) <;> simp
@[simp] theorem retrievalRead_kept (n : Nat) (s : State) : (retrievalRead n s).kept = s.kept := by
  unfold retrievalRead; (repeat' split) <;> simp
@[simp] theorem officeRead_kept (n : Nat) (s : State) : (officeRead n s).kept = s.kept := by
  unfold officeRead; (repeat' split) <;> simp
@[simp] theorem eachContainerOf_kept (k : Nat) (f : ContRec → ContRec) (s : State) :
    (eachContainerOf k f s).kept = s.kept := rfl
@[simp] theorem transferClosed_kept (k : Nat) (c : ConsRec) (s : State) : (transferClosed k c s).kept = s.kept := by
  unfold transferClosed; dsimp only; (repeat' split) <;> simp
@[simp] theorem engageTimedOut_kept (k : Nat) (c : ConsRec) (s : State) : (engageTimedOut k c s).kept = s.kept := by
  simp [engageTimedOut]
@[simp] theorem abortCons_kept (k : Nat) (c : ConsRec) (s : State) : (abortCons k c s).kept = s.kept := by
  unfold abortCons; dsimp only; (repeat' split) <;> simp
@[simp] theorem courierOpens_kept (s : State) : (courierOpens s).kept = s.kept := by
  unfold courierOpens; dsimp only; (repeat' split) <;> simp

/-! ### The station line -/

@[simp] theorem startCycle_kept (s : State) : (startCycle s).kept = s.kept := by unfold startCycle; split <;> simp
@[simp] theorem nextTurn_kept (s : State) : (nextTurn s).kept = s.kept := by
  unfold nextTurn; (repeat' split) <;> simp
@[simp] theorem setPhase_kept (x : Turn) (p : Phase) (s : State) : (setPhase x p s).kept = s.kept := by simp [setPhase]
@[simp] theorem pollDue_kept (s : State) : (pollDue s).kept = s.kept := by unfold pollDue; split <;> simp
@[simp] theorem countLine_kept (n a b : Nat) (s : State) : (countLine n a b s).kept = s.kept := by simp [countLine]
@[simp] theorem thirdMiss_kept (n : Nat) (s : State) : (thirdMiss n s).kept = s.kept := by
  unfold thirdMiss; dsimp only; split <;> simp
@[simp] theorem missTurn_kept (n : Nat) (s : State) : (missTurn n s).kept = s.kept := by
  unfold missTurn; dsimp only; (repeat' split) <;> simp
@[simp] theorem clearMisses_kept (n : Nat) (s : State) : (clearMisses n s).kept = s.kept := by simp [clearMisses]
@[simp] theorem headFailure_kept (n : Nat) (s : State) : (headFailure n s).kept = s.kept := by
  unfold headFailure; split <;> simp
@[simp] theorem headFails_kept (n : Nat) (s : State) : (headFails n s).kept = s.kept := by simp [headFails]
@[simp] theorem reportFails_kept (n : Nat) (s : State) : (reportFails n s).kept = s.kept := by
  unfold reportFails; split <;> simp
@[simp] theorem showState_kept (n : Nat) (m : MechState) (k : Nat) (s : State) : (showState n m k s).kept = s.kept := by
  simp [showState]
@[simp] theorem setStationState_kept (n : Nat) (x : StationState) (s : State) : (setStationState n x s).kept = s.kept := by
  simp [setStationState]
@[simp] theorem strayStack_kept (n : Nat) (s : State) : (strayStack n s).kept = s.kept := by simp [strayStack]
@[simp] theorem busyState_kept (n j : Nat) (m : MechState) (s : State) : (busyState n j m s).kept = s.kept := by
  unfold busyState; split <;> simp
@[simp] theorem commandAnswered_kept (n : Nat) (c : StationCommand) (s : State) :
    (commandAnswered n c s).kept = s.kept := by simp [commandAnswered]
@[simp] theorem fetchState_kept (n : Nat) (m : MechState) (k : Nat) (s : State) : (fetchState n m k s).kept = s.kept := by
  unfold fetchState; dsimp only; (repeat' split) <;> simp
@[simp] theorem fetchSeen_kept (n : Nat) (m : Option MechState) (k : Nat) (s : State) :
    (fetchSeen n m k s).kept = s.kept := by unfold fetchSeen; split <;> simp
@[simp] theorem resetSent_kept (n : Nat) (s : State) : (resetSent n s).kept = s.kept := by simp [resetSent]
@[simp] theorem dropStation_kept (n : Nat) (s : State) : (dropStation n s).kept = s.kept := by
  unfold dropStation; split <;> simp
@[simp] theorem sentRecord_kept (l : List Nat) (x : Turn) (s : State) : (sentRecord l x s).kept = s.kept := by
  unfold sentRecord; dsimp only; (repeat' split) <;> simp
@[simp] theorem noAnswer_kept (x : Turn) (s : State) : (noAnswer x s).kept = s.kept := by
  unfold noAnswer; (repeat' split) <;> simp
@[simp] theorem badRecord_kept (l : List Nat) (x : Turn) (s : State) : (badRecord l x s).kept = s.kept := by
  unfold badRecord; dsimp only; (repeat' split) <;> simp
@[simp] theorem strayReport_kept (x : Turn) (s : State) : (strayReport x s).kept = s.kept := by
  unfold strayReport; split <;> simp
@[simp] theorem goodHead_kept (h : HeadRecord) (x : Turn) (s : State) : (goodHead h x s).kept = s.kept := by
  unfold goodHead; split <;> simp
@[simp] theorem goodItem_kept (i : ItemRecord) (x : Turn) (s : State) : (goodItem i x s).kept = s.kept := by
  unfold goodItem; (repeat' split) <;> simp
@[simp] theorem judgeReport_kept (h : HeadRecord) (l : List ItemRecord) (e : EndRecord) (x : Turn) (s : State) :
    (judgeReport h l e x s).kept = s.kept := by unfold judgeReport; (repeat' split) <;> simp
@[simp] theorem goodEnd_kept (e : EndRecord) (x : Turn) (s : State) : (goodEnd e x s).kept = s.kept := by
  unfold goodEnd; split <;> simp
@[simp] theorem quietOver_kept (x : Turn) (s : State) : (quietOver x s).kept = s.kept := by
  unfold quietOver; split <;> simp
@[simp] theorem recordMissing_kept (x : Turn) (s : State) : (recordMissing x s).kept = s.kept := by
  unfold recordMissing; split <;> simp

/-! ### The mechanism -/

@[simp] theorem leavePoint_kept (p : PickPoint) (s : State) : (leavePoint p s).kept = s.kept := by
  unfold leavePoint; dsimp only; split <;> simp
@[simp] theorem failedPick_kept (p : PickPoint) (s : State) : (failedPick p s).kept = s.kept := by
  unfold failedPick; dsimp only; (repeat' split) <;> simp
@[simp] theorem evacFailure_kept (s : State) : (evacFailure s).kept = s.kept := by simp [evacFailure]
@[simp] theorem evacGivesUp_kept (s : State) : (evacGivesUp s).kept = s.kept := by unfold evacGivesUp; split <;> simp
@[simp] theorem misfeedAt_kept (p : PickPoint) (s : State) : (misfeedAt p s).kept = s.kept := by
  unfold misfeedAt; dsimp only; (repeat' split) <;> simp
@[simp] theorem doubleAtCassette_kept (c : Nat) (s : State) : (doubleAtCassette c s).kept = s.kept := by
  unfold doubleAtCassette; dsimp only; (repeat' split) <;> simp
@[simp] theorem doubleAt_kept (p : PickPoint) (s : State) : (doubleAt p s).kept = s.kept := by
  unfold doubleAt; (repeat' split) <;> simp
theorem routeNote_kept {p d g : Nat} (h : routeNote p d g s = some t) : t.kept = s.kept := by
  unfold routeNote at h; (repeat' split at h) <;> cases h <;> simp
@[simp] theorem headNote_kept (n : Nat) (x : Reading) (s : State) : (headNote n x s).kept = s.kept := by
  unfold headNote
  (repeat' split) <;> first | exact (by simp) | exact routeNote_kept ‹_›
@[simp] theorem trayRefused_kept (s : State) : (trayRefused s).kept = s.kept := by
  unfold trayRefused; dsimp only; (repeat' split) <;> simp
@[simp] theorem trayNote_kept (x : Reading) (s : State) : (trayNote x s).kept = s.kept := by
  unfold trayNote
  (repeat' split) <;> first | exact (by simp) | exact routeNote_kept ‹_›
theorem arriving_kept {x : PathDest} {n : PathNote} (h : arriving x s = some (n, t)) : t.kept = s.kept := by
  unfold arriving latePick at h; (repeat' split at h) <;> cases h <;> simp
@[simp] theorem jamReported_kept (p : JamPoint) (s : State) : (jamReported p s).kept = s.kept := by
  unfold jamReported; split <;> simp
@[simp] theorem jamAt_kept (p : JamPoint) (s : State) : (jamAt p s).kept = s.kept := by
  unfold jamAt; dsimp only; (repeat' split) <;> simp
@[simp] theorem setFault_kept (m : Nat) (f : Bool) (s : State) : (setFault m f s).kept = s.kept := by simp [setFault]
@[simp] theorem faultAt_kept (m : Nat) (s : State) : (faultAt m s).kept = s.kept := by
  unfold faultAt; dsimp only; split <;> simp
@[simp] theorem setHead_kept (h : Nat) (b : Bool) (s : State) : (setHead h b s).kept = s.kept := rfl
@[simp] theorem checkTags_kept (m : Nat) (x : Tab 6 (Option Nat)) (s : State) : (checkTags m x s).kept = s.kept := by
  unfold checkTags; exact each_kept (fun i s => changeCassette_kept _ _ s) _ s

end Sys2Proof.Machine
end

section
/-! Counts and custody sums: what a list of pairs adds and takes, and what a movement that passes its checks does to the
counts, the sums and the custody totals (R9, R14). -/

-- One theorem at a time: the whole text holds more theorems than the check has room for threads.
set_option Elab.async false

namespace Sys2Proof.Machine

variable {r s t : State}

/-! ### Counts -/

theorem of_zero (d : Nat) : Counts.of Counts.zero d = 0 := by
  by_cases h : d < 12
  · exact Tab.get_fill 0 0 d h
  · exact Counts.of_out _ d (Nat.le_of_not_lt h)

theorem of_plus (c : Counts) (e n : Nat) {d : Nat} (hd : d < 12) :
    Counts.of (Counts.plus c e n) d = Counts.of c d + if e = d then n else 0 := by
  split
  · next h => subst h; exact Counts.of_plus_self c e n hd
  · next h => rw [Counts.of_plus_ne c e d n h, Nat.add_zero]

theorem of_minus (c : Counts) (e n : Nat) {d : Nat} (hd : d < 12) :
    Counts.of (Counts.minus c e n) d = Counts.of c d - if e = d then n else 0 := by
  split
  · next h => subst h; exact Counts.of_minus_self c e n hd
  · next h => rw [Counts.of_minus_ne c e d n h, Nat.sub_zero]

theorem of_pairCounts_cons (q : Pair) (qs : List Pair) {d : Nat} (hd : d < 12) :
    Counts.of (pairCounts (q :: qs)) d = Counts.of (pairCounts qs) d + if q.denom = d then q.count else 0 :=
  of_plus _ _ _ hd

/-- Pairs added one after another add what they come to. -/
theorem of_foldl_plus (qs : List Pair) (c : Counts) {d : Nat} (hd : d < 12) :
    Counts.of (qs.foldl (fun c q => Counts.plus c q.denom q.count) c) d = Counts.of c d + Counts.of (pairCounts qs) d := by
  induction qs generalizing c with
  | nil => simp [pairCounts, of_zero]
  | cons q qs ih => rw [List.foldl_cons, ih, of_plus _ _ _ hd, of_pairCounts_cons _ _ hd]; omega

/-- Pairs taken one after another take what they come to. -/
theorem of_foldl_minus (qs : List Pair) (c : Counts) {d : Nat} (hd : d < 12) :
    Counts.of (qs.foldl (fun c q => Counts.minus c q.denom q.count) c) d = Counts.of c d - Counts.of (pairCounts qs) d := by
  induction qs generalizing c with
  | nil => simp [pairCounts, of_zero]
  | cons q qs ih => rw [List.foldl_cons, ih, of_minus _ _ _ hd, of_pairCounts_cons _ _ hd]; omega

/-- A denomination that no pair names counts nothing. -/
theorem of_pairCounts_eq_zero {qs : List Pair} {d : Nat} (h : ∀ q ∈ qs, q.denom ≠ d) : Counts.of (pairCounts qs) d = 0 := by
  induction qs with
  | nil => exact of_zero d
  | cons q qs ih =>
    rw [pairCounts, Counts.of_plus_ne _ _ _ _ (h q List.mem_cons_self)]
    exact ih fun q hq => h q (List.mem_cons_of_mem _ hq)

theorem distinct_iff_nodup (l : List Nat) : distinct l = true ↔ l.Nodup := by
  induction l with
  | nil => simp [distinct]
  | cons a l ih => simp [distinct, ih]

/-- Of distinct denominations each is counted by its one pair: a bound on every pair is one on the counts. -/
theorem of_pairCounts_le {qs : List Pair} (hq : (qs.map Pair.denom).Nodup) {d : Nat} (hd : d < 12) {n : Nat}
    (h : ∀ q ∈ qs, q.denom = d → q.count ≤ n) : Counts.of (pairCounts qs) d ≤ n := by
  induction qs with
  | nil => simp [pairCounts, of_zero]
  | cons q qs ih =>
    obtain ⟨hne, hq⟩ := List.nodup_cons.mp hq
    rw [of_pairCounts_cons _ _ hd]
    by_cases hqd : q.denom = d
    · have hz : Counts.of (pairCounts qs) d = 0 :=
        of_pairCounts_eq_zero fun x hx hxd => hne (List.mem_map.mpr ⟨x, hx, hxd.trans hqd.symm⟩)
      rw [hz, if_pos hqd, Nat.zero_add]
      exact h q List.mem_cons_self hqd
    · rw [if_neg hqd, Nat.add_zero]
      exact ih hq fun x hx => h x (List.mem_cons_of_mem _ hx)

theorem eq_zero_of_isZero {c : Counts} (h : c.isZero = true) : c = Counts.zero := by
  obtain ⟨l, hl⟩ := c
  have : l = List.replicate 12 0 := List.eq_replicate_iff.mpr ⟨hl, by simpa [Counts.isZero] using h⟩
  subst this; rfl

/-! ### Sums over the positions -/

/-- One entry replaced, in a sum over a list. -/
theorem sum_set (f : PosRec → Nat) (l : List PosRec) (i : Nat) (x : PosRec) (hi : i < l.length) :
    ((l.set i x).map f).foldr (· + ·) 0 + f l[i] = (l.map f).foldr (· + ·) 0 + f x := by
  induction l generalizing i with
  | nil => cases hi
  | cons a l ih =>
    cases i with
    | zero => simp only [List.set_cons_zero, List.map_cons, List.foldr_cons, List.getElem_cons_zero]; omega
    | succ i =>
      have := ih i (Nat.lt_of_succ_lt_succ hi)
      simp only [List.set_cons_succ, List.map_cons, List.foldr_cons, List.getElem_cons_succ] at this ⊢
      omega

/-- Another record in a position changes each custody sum by the difference of their counts. -/
theorem custodySum_setPosRec (s : State) (x : PosRec) {p : Nat} (hp : p < 177) (d : Nat) :
    (s.setPosRec p x).custodySum d + s.held p d = s.custodySum d + Counts.of x.counts d := by
  have hl : p < s.book.positions.list.length := by rw [s.book.positions.size]; exact hp
  have hx : s.posRec p = s.book.positions.list[p] := List.getD_eq_getElem _ _ hl
  have := sum_set (fun x => Counts.of x.counts d) s.book.positions.list p x hl
  rw [State.held, hx]
  exact this

/-- No position holds more than the sum. -/
theorem held_le_custodySum (s : State) {p : Nat} (hp : p < 177) (d : Nat) : s.held p d ≤ s.custodySum d := by
  have := custodySum_setPosRec s PosRec.fixed hp d
  have hz : Counts.of PosRec.fixed.counts d = 0 := of_zero d
  omega

/-- Outside the 177 positions nothing is held. -/
theorem held_out (s : State) {p : Nat} (hp : 177 ≤ p) (d : Nat) : s.held p d = 0 := by
  rw [State.held, State.posRec, Tab.get_out _ _ _ hp]; exact of_zero d

theorem held_out_denom (s : State) (p : Nat) {d : Nat} (hd : 12 ≤ d) : s.held p d = 0 := Counts.of_out _ d hd

theorem held_of_kept (h : t.kept = s.kept) (p d : Nat) : t.held p d = s.held p d := by
  have := congrArg Slot.counts (posRec_slot_of_kept h p)
  exact congrArg (Counts.of · d) this

/-! ### A side that loses or gains some pairs -/

theorem takeFrom_none {x : Side} (h : x.position = none) (qs : List Pair) (s : State) : takeFrom x qs s = s := by
  cases x with
  | pos p => cases h
  | _ => rfl

theorem giveTo_none {x : Side} (h : x.position = none) (qs : List Pair) (s : State) : giveTo x qs s = s := by
  cases x with
  | pos p => cases h
  | _ => rfl

/-- A position record with other counts. -/
def PosRec.withCounts (x : PosRec) (c : Counts) : PosRec := { x with counts := c }

theorem posRec_takeFrom_self {p : Nat} (hp : p < 177) (qs : List Pair) (s : State) :
    (takeFrom (.pos p) qs s).posRec p = (s.posRec p).withCounts
      (qs.foldl (fun c q => Counts.minus c q.denom q.count) (s.posRec p).counts) :=
  posRec_setPosRec_self s p _ hp

theorem posRec_takeFrom_ne {x : Side} {p : Nat} (h : x ≠ .pos p) (qs : List Pair) (s : State) :
    (takeFrom x qs s).posRec p = s.posRec p := by
  cases x with
  | pos i => exact posRec_setPosRec_ne s i p _ fun hi => h (congrArg Side.pos hi)
  | _ => rfl

theorem posRec_giveTo_self {p : Nat} (hp : p < 177) (qs : List Pair) (s : State) :
    (giveTo (.pos p) qs s).posRec p = (s.posRec p).withCounts
      (qs.foldl (fun c q => Counts.plus c q.denom q.count) (s.posRec p).counts) :=
  posRec_setPosRec_self s p _ hp

theorem posRec_giveTo_ne {x : Side} {p : Nat} (h : x ≠ .pos p) (qs : List Pair) (s : State) :
    (giveTo x qs s).posRec p = s.posRec p := by
  cases x with
  | pos i => exact posRec_setPosRec_ne s i p _ fun hi => h (congrArg Side.pos hi)
  | _ => rfl

theorem held_takeFrom {p d : Nat} (hp : p < 177) (hd : d < 12) (qs : List Pair) (s : State) :
    (takeFrom (.pos p) qs s).held p d = s.held p d - Counts.of (pairCounts qs) d := by
  rw [State.held, posRec_takeFrom_self hp]; exact of_foldl_minus qs _ hd

theorem held_giveTo {p d : Nat} (hp : p < 177) (hd : d < 12) (qs : List Pair) (s : State) :
    (giveTo (.pos p) qs s).held p d = s.held p d + Counts.of (pairCounts qs) d := by
  rw [State.held, posRec_giveTo_self hp]; exact of_foldl_plus qs _ hd

/-- A position that holds the pairs takes them out of the sum. -/
theorem custodySum_takeFrom {p d : Nat} (hp : p < 177) (hd : d < 12) (qs : List Pair) (s : State)
    (h : Counts.of (pairCounts qs) d ≤ s.held p d) :
    (takeFrom (.pos p) qs s).custodySum d + Counts.of (pairCounts qs) d = s.custodySum d := by
  have h1 : (takeFrom (.pos p) qs s).custodySum d + s.held p d =
      s.custodySum d + (s.held p d - Counts.of (pairCounts qs) d) :=
    (custodySum_setPosRec s _ hp d).trans (congrArg _ (of_foldl_minus qs _ hd))
  omega

/-- A position adds the pairs to the sum. -/
theorem custodySum_giveTo {p d : Nat} (hp : p < 177) (hd : d < 12) (qs : List Pair) (s : State) :
    (giveTo (.pos p) qs s).custodySum d = s.custodySum d + Counts.of (pairCounts qs) d := by
  have h1 : (giveTo (.pos p) qs s).custodySum d + s.held p d =
      s.custodySum d + (s.held p d + Counts.of (pairCounts qs) d) :=
    (custodySum_setPosRec s _ hp d).trans (congrArg _ (of_foldl_plus qs _ hd))
  omega

/-! ### The checks of a movement -/

theorem orElse'_eq_none {a b : Option Refused} : orElse' a b = none ↔ a = none ∧ b = none := by
  cases a <;> simp [orElse']

theorem firstRefusal_eq_none {f : Pair → Option Refused} {l : List Pair} :
    firstRefusal f l = none ↔ ∀ q ∈ l, f q = none := by
  induction l with
  | nil => simp [firstRefusal]
  | cons q l ih => simp [firstRefusal, orElse'_eq_none, ih]

/-- What the checks of R7 and R9 establish of a movement: its positions exist, are two where it has two, and are open; it has
one at least; and its source holds what it takes. -/
structure Movement.Fits (m : Movement) (s : State) : Prop where
  src_lt : ∀ p, m.src = .pos p → p < 177
  dst_lt : ∀ p, m.dst = .pos p → p < 177
  custody : m.src.position ≠ none ∨ m.dst.position ≠ none
  apart : ∀ p, m.src = .pos p → m.dst ≠ .pos p
  src_open : ∀ p, m.src = .pos p → (s.posRec p).inUse = true ∧ (s.posRec p).releasePending = false
  dst_open : ∀ p, m.dst = .pos p → (s.posRec p).inUse = true ∧ (s.posRec p).releasePending = false
  covered : ∀ p, m.src = .pos p → ∀ d < 12, Counts.of (pairCounts m.pairs) d ≤ s.held p d

theorem refuseWith_ne_none (st : Status) : refuseWith st ≠ none := nofun
theorem refuseDenom_ne_none (st : Status) (d : Nat) : refuseDenom st d ≠ none := nofun

theorem pos_lt_of_inRange {x : Side} (h : x.outOfRange = false) (p : Nat) (hx : x = .pos p) : p < 177 := by
  subst hx; simp only [Side.outOfRange, decide_eq_false_iff_not] at h; omega

theorem open_of_sideClosed {x : Side} (h : s.sideClosed x = false) (p : Nat) (hx : x = .pos p) :
    (s.posRec p).inUse = true ∧ (s.posRec p).releasePending = false := by
  subst hx; simpa [State.sideClosed] using h

theorem checkList_none {m : Movement} (h : checkList m s = none) :
    (m.pairs.map Pair.denom).Nodup ∧ ∀ q ∈ m.pairs, checkPair m s q = none := by
  unfold checkList at h
  split at h
  · exact absurd h (refuseWith_ne_none _)
  · next hc =>
    simp only [Bool.or_eq_true, not_or, Bool.not_eq_true', Bool.not_eq_false] at hc
    exact ⟨(distinct_iff_nodup _).mp hc.2, firstRefusal_eq_none.mp h⟩

theorem checkPair_lacks {m : Movement} {q : Pair} (h : checkPair m s q = none) :
    s.sideLacks m.src q.denom q.count = false := by
  unfold checkPair at h
  split at h
  · exact absurd h (refuseDenom_ne_none _ _)
  · split at h
    · exact absurd h (refuseDenom_ne_none _ _)
    · next hc => simpa using hc

/-- A movement that passes its checks fits. -/
theorem fits_of_check {m : Movement} {b : Bool} (h : checkMovement m b s = none) : m.Fits s := by
  obtain ⟨hsides, hrest⟩ := orElse'_eq_none.mp h
  obtain ⟨hnodup, hpairs⟩ := checkList_none (orElse'_eq_none.mp hrest).1
  unfold checkSides at hsides
  split at hsides
  · exact absurd hsides (refuseWith_ne_none _)
  split at hsides
  · exact absurd hsides (refuseWith_ne_none _)
  split at hsides
  · exact absurd hsides (refuseWith_ne_none _)
  split at hsides
  · exact absurd hsides (refuseWith_ne_none _)
  next hrange hboth hsame hclosed =>
  obtain ⟨hr1, hr2⟩ : m.src.outOfRange = false ∧ m.dst.outOfRange = false := by simpa using hrange
  obtain ⟨hc1, hc2⟩ : s.sideClosed m.src = false ∧ s.sideClosed m.dst = false := by simpa using hclosed
  refine ⟨pos_lt_of_inRange hr1, pos_lt_of_inRange hr2, ?_, fun p h1 h2 => hsame ?_, open_of_sideClosed hc1,
    open_of_sideClosed hc2, fun p hp d hd => of_pairCounts_le hnodup hd fun q hq hqd => ?_⟩
  · by_contra hn; exact hboth (by simpa using hn)
  · rw [h1, h2]; exact ⟨nofun, rfl⟩
  · have := checkPair_lacks (hpairs q hq)
    rw [hp, hqd] at this
    simpa [State.sideLacks] using this

end Sys2Proof.Machine
end

section
/-! A movement that fits moves its counts, keeps the custody totals, and keeps the custody law (R9, R14). -/

-- One theorem at a time: the whole text holds more theorems than the check has room for threads.
set_option Elab.async false

namespace Sys2Proof.Machine

variable {r s t : State} {m : Movement}

/-- Only the two sides of a movement have other position records. -/
theorem posRec_moveCounts (m : Movement) (s : State) (p : Nat) :
    (moveCounts m s).posRec p = (giveTo m.dst m.pairs (takeFrom m.src m.pairs s)).posRec p := by
  have hi : ∀ u : State, (issueFromEntry m u).posRec p = u.posRec p := fun u => by
    unfold issueFromEntry; split <;> rfl
  have ht : ∀ u : State, (moveTotals m u).posRec p = u.posRec p := fun u => by unfold moveTotals; split <;> rfl
  rw [moveCounts, hi, ht]

/-- A position that the movement does not touch keeps its record. -/
theorem posRec_moveCounts_other {p : Nat} (h1 : m.src ≠ .pos p) (h2 : m.dst ≠ .pos p) :
    (moveCounts m s).posRec p = s.posRec p := by
  rw [posRec_moveCounts, posRec_giveTo_ne h2, posRec_takeFrom_ne h1]

theorem posRec_takeFrom_withCounts (x : Side) (qs : List Pair) (s : State) (p : Nat) :
    ∃ c, (takeFrom x qs s).posRec p = (s.posRec p).withCounts c := by
  by_cases hx : x = .pos p ∧ p < 177
  · obtain ⟨rfl, hp⟩ := hx; exact ⟨_, posRec_takeFrom_self hp qs s⟩
  · refine ⟨(s.posRec p).counts, ?_⟩
    by_cases hp : p < 177
    · exact posRec_takeFrom_ne (fun h => hx ⟨h, hp⟩) qs s
    · simp only [State.posRec, Tab.get_out _ _ _ (Nat.le_of_not_lt hp)]; rfl

theorem posRec_giveTo_withCounts (x : Side) (qs : List Pair) (s : State) (p : Nat) :
    ∃ c, (giveTo x qs s).posRec p = (s.posRec p).withCounts c := by
  by_cases hx : x = .pos p ∧ p < 177
  · obtain ⟨rfl, hp⟩ := hx; exact ⟨_, posRec_giveTo_self hp qs s⟩
  · refine ⟨(s.posRec p).counts, ?_⟩
    by_cases hp : p < 177
    · exact posRec_giveTo_ne (fun h => hx ⟨h, hp⟩) qs s
    · simp only [State.posRec, Tab.get_out _ _ _ (Nat.le_of_not_lt hp)]; rfl

/-- A movement changes the counts of a position record only. -/
theorem posRec_moveCounts_withCounts (m : Movement) (s : State) (p : Nat) :
    ∃ c, (moveCounts m s).posRec p = (s.posRec p).withCounts c := by
  obtain ⟨c1, h1⟩ := posRec_takeFrom_withCounts m.src m.pairs s p
  obtain ⟨c2, h2⟩ := posRec_giveTo_withCounts m.dst m.pairs (takeFrom m.src m.pairs s) p
  exact ⟨c2, by rw [posRec_moveCounts, h2, h1]; rfl⟩

/-- What a movement that fits does to each count (R9). -/
theorem held_moveCounts (hf : m.Fits s) {p d : Nat} (hp : p < 177) (hd : d < 12) :
    ((moveCounts m s).held p d : Int) = s.held p d
      - (if m.src = .pos p then (Counts.of (pairCounts m.pairs) d : Int) else 0)
      + (if m.dst = .pos p then (Counts.of (pairCounts m.pairs) d : Int) else 0) := by
  have hm : (moveCounts m s).held p d = (giveTo m.dst m.pairs (takeFrom m.src m.pairs s)).held p d := by
    rw [State.held, posRec_moveCounts, State.held]
  rw [hm]
  by_cases h1 : m.src = .pos p
  · have hc := hf.covered p h1 d hd
    rw [if_pos h1, if_neg (hf.apart p h1), State.held, posRec_giveTo_ne (hf.apart p h1), h1, ← State.held,
      held_takeFrom hp hd]
    omega
  · have ht : (takeFrom m.src m.pairs s).held p d = s.held p d := by
      rw [State.held, posRec_takeFrom_ne h1, State.held]
    rw [if_neg h1]
    by_cases h2 : m.dst = .pos p
    · rw [if_pos h2, h2, held_giveTo hp hd, ht]; omega
    · rw [if_neg h2, State.held, posRec_giveTo_ne h2, ← State.held, ht]; omega

/-- The custody sums rise by what comes from a counterpart and fall by what goes to one. -/
theorem custodySum_moveCounts (hf : m.Fits s) {d : Nat} (hd : d < 12) :
    ((moveCounts m s).custodySum d : Int) = s.custodySum d
      + (if m.src.position = none then (Counts.of (pairCounts m.pairs) d : Int) else 0)
      - (if m.dst.position = none then (Counts.of (pairCounts m.pairs) d : Int) else 0) := by
  have hi : ∀ u : State, (issueFromEntry m u).custodySum d = u.custodySum d := fun u => by
    unfold issueFromEntry; split <;> rfl
  have ht : ∀ u : State, (moveTotals m u).custodySum d = u.custodySum d := fun u => by unfold moveTotals; split <;> rfl
  rw [moveCounts, hi, ht]
  have hgive : ∀ u : State, ((giveTo m.dst m.pairs u).custodySum d : Int) = u.custodySum d
      + (if m.dst.position = none then 0 else (Counts.of (pairCounts m.pairs) d : Int)) := fun u => by
    split
    · next h => rw [giveTo_none h]; omega
    · next h =>
      obtain ⟨p, hp⟩ := Option.ne_none_iff_exists'.mp h
      have hx : m.dst = .pos p := by cases hm : m.dst <;> simp_all [Side.position]
      rw [hx, custodySum_giveTo (hf.dst_lt p hx) hd]; omega
  have htake : ((takeFrom m.src m.pairs s).custodySum d : Int) = s.custodySum d
      - (if m.src.position = none then 0 else (Counts.of (pairCounts m.pairs) d : Int)) := by
    split
    · next h => rw [takeFrom_none h]; omega
    · next h =>
      obtain ⟨p, hp⟩ := Option.ne_none_iff_exists'.mp h
      have hx : m.src = .pos p := by cases hm : m.src <;> simp_all [Side.position]
      have := custodySum_takeFrom (hf.src_lt p hx) hd m.pairs s (hf.covered p hx d hd)
      rw [hx]; omega
  rw [hgive, htake]
  split <;> split <;> omega

/-- A fitting movement takes no more out of custody than the sum. -/
theorem pairs_le_custodySum (hf : m.Fits s) {d : Nat} (hd : d < 12) (h : m.dst.position = none) :
    Counts.of (pairCounts m.pairs) d ≤ s.custodySum d := by
  cases hs : m.src with
  | pos p => exact (hf.covered p hs d hd).trans (held_le_custodySum s (hf.src_lt p hs) d)
  | _ => exact absurd hf.custody (by rw [h, hs]; exact fun hx => hx.elim (· rfl) (· rfl))

/-- The totals change just as the sums do (R14). -/
theorem totals_moveCounts (hf : m.Fits s) (hl : s.totalsLaw) {d : Nat} (hd : d < 12) :
    (Counts.of (moveCounts m s).book.totals d : Int) = Counts.of s.book.totals d
      + (if m.src.position = none then (Counts.of (pairCounts m.pairs) d : Int) else 0)
      - (if m.dst.position = none then (Counts.of (pairCounts m.pairs) d : Int) else 0) := by
  have hi : ∀ u : State, (issueFromEntry m u).book.totals = u.book.totals := fun u => by
    unfold issueFromEntry; split <;> rfl
  have hu : (giveTo m.dst m.pairs (takeFrom m.src m.pairs s)).book.totals = s.book.totals := by
    cases m.dst <;> cases m.src <;> rfl
  have hle := pairs_le_custodySum hf hd
  have hc := hf.custody
  rw [hl d hd] at hle
  rw [moveCounts, hi, moveTotals]
  cases h1 : m.src.position <;> cases h2 : m.dst.position
  · simp [h1, h2] at hc
  · simp only [hu, of_foldl_plus _ _ hd]; simp
  · have := hle h2
    simp only [hu, of_foldl_minus _ _ hd]; simp; omega
  · simp [hu]

/-- A movement that fits keeps the custody law. -/
theorem bookLaw_moveCounts (hf : m.Fits s) (h : s.bookLaw) : (moveCounts m s).bookLaw := by
  obtain ⟨hsum, hempty⟩ := h
  refine ⟨fun d hd => ?_, fun p h1 h2 hp => ?_⟩
  · have h1 := custodySum_moveCounts hf hd
    have h2 := totals_moveCounts hf hsum hd
    have h3 := hsum d hd
    omega
  · obtain ⟨c, hc⟩ := posRec_moveCounts_withCounts m s p
    have hp' : (s.posRec p).inUse = false ∨ (s.posRec p).releasePending = true := by simpa [hc, PosRec.withCounts] using hp
    have hopen : ∀ x : Side, (∀ p, x = .pos p → (s.posRec p).inUse = true ∧ (s.posRec p).releasePending = false) →
        x ≠ .pos p := fun x hx he => by
      obtain ⟨hu, hr⟩ := hx p he
      simp [hu, hr] at hp'
    rw [posRec_moveCounts_other (hopen _ hf.src_open) (hopen _ hf.dst_open)]
    exact hempty p h1 h2 hp'

theorem settings_moveCounts (m : Movement) (s : State) : (moveCounts m s).settings = s.settings := by
  obtain ⟨b, hb⟩ := moveCounts_state s m
  have hd : (moveCounts m s).book.denoms = s.book.denoms := by
    have hi : ∀ u : State, (issueFromEntry m u).book.denoms = u.book.denoms := fun u => by
      unfold issueFromEntry; split <;> rfl
    have ht : ∀ u : State, (moveTotals m u).book.denoms = u.book.denoms := fun u => by unfold moveTotals; split <;> rfl
    rw [moveCounts, hi, ht]
    cases m.dst <;> cases m.src <;> rfl
  rw [hb] at hd ⊢
  dsimp only at hd
  simp only [State.settings, hd]

theorem Faithful.moveCounts (h : Faithful r s) (hf : m.Fits s) : Faithful r (moveCounts m s) :=
  h.trans ⟨settings_moveCounts m s, bookLaw_moveCounts hf⟩

/-- A movement that passes its checks may follow. -/
theorem Faithful.applyMovement {b : Bool} (h : Faithful r s) (hc : checkMovement m b s = none) :
    Faithful r (applyMovement m s) :=
  (h.moveCounts (fits_of_check hc)).kept (by simp [Machine.applyMovement])

end Sys2Proof.Machine
end

section
/-! Slots claimed, settled and released, and everything of the model that reaches them: each keeps the custody law and the
settings. -/

-- One theorem at a time: the whole text holds more theorems than the check has room for threads.
set_option Elab.async false

namespace Sys2Proof.Machine

variable {r s t : State}

/-! ### One position record -/

/-- A position record with the same counts, and none where the slot is given up, may follow. -/
theorem Faithful.setPosRec (h : Faithful r s) (p : Nat) (x : PosRec) (hc : s.bookLaw → x.counts = (s.posRec p).counts)
    (he : s.bookLaw → 14 ≤ p → p ≤ 173 → x.inUse = false ∨ x.releasePending = true → x.counts = Counts.zero) :
    Faithful r (s.setPosRec p x) := by
  refine h.trans ⟨rfl, fun hl => ?_⟩
  by_cases hp : p < 177
  · refine ⟨fun d hd => ?_, fun q h1 h2 hq => ?_⟩
    · have hsum := custodySum_setPosRec s x hp d
      rw [hc hl, State.held] at hsum
      have := hl.1 d hd
      simp only [State.setPosRec_book] at this ⊢
      omega
    · by_cases hpq : p = q
      · subst hpq
        rw [posRec_setPosRec_self s p x hp] at hq ⊢
        exact he hl h1 h2 hq
      · rw [posRec_setPosRec_ne s p q x hpq] at hq ⊢
        exact hl.2 q h1 h2 hq
  · have hset : s.setPosRec p x = s := by simp [State.setPosRec, Tab.set_out _ _ _ (Nat.le_of_not_lt hp)]
    rwa [hset]

/-- A FREE slot may be claimed (R10). -/
theorem Faithful.claimSlot {p : Nat} (h : Faithful r s) (h1 : 14 ≤ p) (h2 : p ≤ 173) (hp : (s.posRec p).inUse = false) :
    Faithful r (claimSlot p s) :=
  h.setPosRec p PosRec.fixed (fun hl => (hl.2 p h1 h2 (.inl hp)).symm) fun _ _ _ _ => rfl

/-- A pending release may complete (R12): the slot holds nothing. -/
theorem Faithful.completeRelease {p : Nat} (h : Faithful r s) (hp : (s.posRec p).releasePending = true) :
    Faithful r (completeRelease p s) := by
  have h1 := h.setPosRec p
    { s.posRec p with inUse := false, marks := Marks.clear, overdue := false, inRun := false, releasePending := false }
    (fun _ => rfl) fun hl ha hb _ => hl.2 p ha hb (.inr hp)
  unfold Machine.completeRelease
  dsimp only
  split
  · exact h1.kept
  · exact h1.kept
  · exact h1

/-- A change that leaves the release mark of a position record leaves it in the state. -/
theorem releasePending_setPosRec {p : Nat} {x : PosRec} (hp : (s.posRec p).releasePending = true)
    (hx : x.releasePending = true) : ((s.setPosRec p x).posRec p).releasePending = true := by
  by_cases h : p < 177
  · rw [posRec_setPosRec_self s p x h, hx]
  · rw [State.posRec, Tab.get_out _ _ _ (Nat.le_of_not_lt h)] at hp; cases hp

theorem Faithful.clearMarks {p : Nat} (h : Faithful r s) : Faithful r (clearMarks p s) := by
  unfold Machine.clearMarks
  dsimp only
  split
  · next hr => exact Faithful.completeRelease h.kept (releasePending_setPosRec hr hr)
  · exact h.kept

theorem Faithful.settlePosition {p : Nat} {x : SettleReason} (h : Faithful r s) : Faithful r (settlePosition p x s) := by
  unfold Machine.settlePosition
  split
  · exact Faithful.clearMarks h.kept
  · exact h.clearMarks

theorem Faithful.tryRelease {p : Nat} (h : Faithful r s) : Faithful r (tryRelease p s) := by
  unfold Machine.tryRelease
  dsimp only
  split
  · exact h
  split
  · exact h.kept
  · exact h.settlePosition

/-- A slot that holds nothing may be asked for (R11). -/
theorem Faithful.requestRelease {p : Nat} (h : Faithful r s) : Faithful r (requestRelease p s) := by
  unfold Machine.requestRelease
  dsimp only
  split
  · exact h
  · next hc =>
    have hz : (s.posRec p).counts.isZero = true := by simp only [Bool.or_eq_true, not_or] at hc; simpa using hc.1
    exact (h.setPosRec p { s.posRec p with releasePending := true } (fun _ => rfl)
      fun _ _ _ _ => eq_zero_of_isZero hz).tryRelease

theorem Faithful.clearInRun {p : Nat} (h : Faithful r s) : Faithful r (clearInRun p s) := by
  unfold Machine.clearInRun
  dsimp only
  split
  · exact Faithful.tryRelease h.kept
  · exact h

theorem Faithful.catchUpPositions {l : List Nat} (h : Faithful r s) : Faithful r (catchUpPositions l s).1 := by
  induction l generalizing s with
  | nil => exact h
  | cons p l ih =>
    unfold Machine.catchUpPositions
    dsimp only
    split
    · exact ih h
    split
    · exact h
    · exact ih h.settlePosition

theorem Faithful.catchUp (h : Faithful r s) : Faithful r (catchUp s) := by
  have h1 := h.catchUpPositions (l := List.range 177)
  unfold Machine.catchUp
  split
  · next heq => rw [heq] at h1; exact h1.kept
  · next heq => rw [heq] at h1; exact h1

/-! ### Notes of a run -/

/-- The positions 14 to 173 are the LOT and CONTAINER slots (Table 1-2). -/
theorem posKind_slot {p : Nat} (h1 : 14 ≤ p) (h2 : p ≤ 173) :
    (∃ n, posKind p = .lot n) ∨ ∃ n, posKind p = .container n := by
  unfold posKind
  rw [if_neg (by omega), if_neg (by omega), if_neg (by omega)]
  split
  · exact .inl ⟨_, rfl⟩
  · exact .inr ⟨_, rfl⟩

/-- Runs book their notes into positions that exist, and into no slot that may be given up. -/
theorem isRunDest_range {p : Nat} (h : isRunDest p = true) : p < 177 ∧ ¬(14 ≤ p ∧ p ≤ 173) := by
  refine ⟨?_, fun ⟨h1, h2⟩ => ?_⟩
  · by_contra hp
    have hk : posKind p = .purge (p - 175) := by
      unfold posKind
      rw [if_neg (by omega), if_neg (by omega), if_neg (by omega), if_neg (by omega), if_neg (by omega), if_neg (by omega)]
    simp only [isRunDest, hk, decide_eq_true_eq] at h
    omega
  · obtain ⟨n, hk⟩ | ⟨n, hk⟩ := posKind_slot h1 h2 <;> simp [isRunDest, hk] at h

/-- A note that its source holds may be booked where runs book notes (R13). -/
theorem Faithful.transfer {p q d : Nat} (h : Faithful r s) (hp : 0 < s.held p d) (hq : isRunDest q = true) :
    Faithful r (giveTo (.pos q) [⟨d, 1⟩] (takeFrom (.pos p) [⟨d, 1⟩] s)) := by
  refine h.trans ⟨rfl, fun ⟨hsum, hempty⟩ => ?_⟩
  obtain ⟨hq1, hq2⟩ := isRunDest_range hq
  have hp1 : p < 177 := by by_contra hn; rw [held_out s (Nat.le_of_not_lt hn)] at hp; omega
  refine ⟨fun e he => ?_, fun x h1 h2 hx => ?_⟩
  · have hc : Counts.of (pairCounts [⟨d, 1⟩]) e ≤ s.held p e :=
      of_pairCounts_le (by simp) he (by rintro y hy rfl; obtain rfl := List.mem_singleton.mp hy; exact hp)
    have ht := custodySum_takeFrom hp1 he [⟨d, 1⟩] s hc
    rw [custodySum_giveTo hq1 he, ht, hsum e he]
    rfl
  · obtain ⟨c1, hc1⟩ := posRec_takeFrom_withCounts (.pos p) [⟨d, 1⟩] s x
    obtain ⟨c2, hc2⟩ := posRec_giveTo_withCounts (.pos q) [⟨d, 1⟩] (takeFrom (.pos p) [⟨d, 1⟩] s) x
    rw [hc2, hc1] at hx
    have hz := hempty x h1 h2 hx
    have hpx : Side.pos p ≠ .pos x := by
      rintro ⟨⟩; rw [State.held, hz, of_zero] at hp; omega
    have hqx : Side.pos q ≠ .pos x := by rintro ⟨⟩; exact hq2 ⟨h1, h2⟩
    rw [posRec_giveTo_ne hqx, posRec_takeFrom_ne hpx, hz]

theorem Faithful.bookNote {n : PathNote} {q : Nat} (h : Faithful r s) (hb : s.canBook n q = true) :
    Faithful r (bookNote n q s) := by
  simp only [State.canBook, Bool.and_eq_true, decide_eq_true_eq] at hb
  obtain ⟨⟨⟨hheld, -⟩, hdest⟩, -⟩ := hb
  have hm : Faithful r (markInRun q (markInRun n.src s)) := h.kept
  have h1 := hm.transfer (p := n.src) (d := n.denom) (by rw [held_of_kept (s := s) (by simp)]; exact hheld) hdest
  unfold Machine.bookNote
  dsimp only
  (repeat' split) <;> exact h1.kept

theorem Faithful.arriveNote {n : PathNote} (h : Faithful r s) : Faithful r (arriveNote n s) := by
  have h1 : Faithful r (s.setRun { s.recycler.run with path := s.recycler.run.path.erase n }) := h.kept
  unfold Machine.arriveNote
  dsimp only
  split
  · exact h1.kept
  split
  · next hb => exact h1.bookNote hb
  · exact h1

/-! ### The closing of a run -/

theorem foldl_postRunEnd_kept (l : List Movement) (s : State) : (l.foldl postRunEnd s).kept = s.kept := by
  induction l generalizing s with
  | nil => rfl
  | cons m l ih => rw [List.foldl_cons, ih, postRunEnd, numberAndPost_kept]

theorem Faithful.closeMoves {l : List Movement} (h : Faithful r s) (ht : closeMoves l s = some t) : Faithful r t := by
  induction l generalizing s with
  | nil => cases ht; exact h
  | cons m l ih =>
    rw [closeMoves_cons] at ht
    split at ht
    · next hc =>
      refine ih ?_ ht
      unfold closeMove
      dsimp only
      split
      · exact (h.applyMovement hc).kept
      · exact h.applyMovement hc
    · cases ht

theorem Faithful.closingGroup {b : Option Nat} (h : Faithful r s) : Faithful r (closingGroup b s) := by
  unfold Machine.closingGroup
  dsimp only
  have h1 : Faithful r ((s.recycler.run.pairs.map (runEndMove s.recycler.run.kind)).foldl postRunEnd s) :=
    h.kept (foldl_postRunEnd_kept _ s)
  refine Faithful.each (fun _ _ h => h.clearInRun) _ ?_
  cases hm : Machine.closeMoves (s.recycler.run.addedMoves b)
      ((s.recycler.run.pairs.map (runEndMove s.recycler.run.kind)).foldl postRunEnd s) with
  | none => exact h
  | some t => exact h1.closeMoves hm

end Sys2Proof.Machine
end

section
/-! What the blocks do of themselves is faithful: the reactions, and so every settling. -/

-- One theorem at a time: the whole text holds more theorems than the check has room for threads.
set_option Elab.async false

namespace Sys2Proof.Machine

variable {r s t : State}

/-! ### Lots and the end of a run -/

theorem Faithful.voidRelease {n : Nat} (h : Faithful r s) : Faithful r (voidRelease n s) := by
  unfold Machine.voidRelease
  (repeat' split) <;> first | exact h | exact h.requestRelease

theorem Faithful.finishLot {n : Nat} (h : Faithful r s) : Faithful r (finishLot n s) := by
  unfold Machine.finishLot
  split
  · exact Faithful.requestRelease h.kept
  · exact h

theorem Faithful.depositEnd {i n : Nat} (h : Faithful r s) : Faithful r (depositEnd i n s) := by
  unfold Machine.depositEnd
  split
  · split
    · exact h
    split
    · exact Faithful.finishLot h.kept
    split
    · exact h.kept
    · exact h
  · exact h

theorem Faithful.reportEnd {x : Run} (h : Faithful r s) : Faithful r (reportEnd x s) := by
  unfold Machine.reportEnd
  split
  · refine Faithful.kept ?_ (entryToTail_kept _ _)
    split
    · exact h.depositEnd
    · exact h
  · exact h.kept
  · exact h.kept
  · exact h.kept
  · exact h

theorem Faithful.closeRun {b : Option Nat} (h : Faithful r s) : Faithful r (closeRun b s) := by
  have h1 : Faithful r ((Machine.closingGroup b s).setRun Run.idle) := (h.closingGroup (b := b)).kept
  unfold Machine.closeRun
  dsimp only
  refine Faithful.kept ?_ (evacExamine_kept _)
  split
  · exact h1.kept
  · exact h1.reportEnd

theorem Faithful.closeStep (h : Faithful r s) (ht : closeStep s = some t) : Faithful r t := by
  unfold Machine.closeStep at ht
  dsimp only at ht
  split at ht
  · rw [← Option.some.inj ht]; exact h.closeRun
  · cases ht

theorem Faithful.purgeClear {c : PurgeCycle} {n : Nat} (h : Faithful r s) : Faithful r (purgeClear c n s) := by
  unfold Machine.purgeClear
  dsimp only
  have h1 : Faithful r (if c.startUp = true then
      (if (s.setPurge none).faultPresent c.bin = true then enterModule c.bin .faulted .tags (s.setPurge none)
        else enterModule c.bin ((s.setPurge none).serviceState c.bin) .tags (s.setPurge none))
      else if c.closes s.recycler.run = true then faultStill (s.setPurge none) else s.setPurge none) := by
    (repeat' split) <;> exact h.kept
  revert h1
  generalize (if c.startUp = true then _ else _) = u
  intro h1
  have h2 : Faithful r (if c.closes s.recycler.run = true then Machine.closeRun (some c.bin) u else u) := by
    split
    · exact h1.closeRun
    · exact h1
  split
  · exact h2.kept (notify_kept _ _)
  · exact h2

/-! ### The reactions -/

/-- Each change that a block makes of itself is faithful. -/
theorem Faithful.reaction {f : State → Option State} (hf : f ∈ reactions) (h : Faithful r s) (ht : f s = some t) :
    Faithful r t := by
  simp only [reactions, firstReactions, lastReactions, List.cons_append, List.nil_append, List.mem_cons, List.not_mem_nil,
    or_false] at hf
  rcases hf with rfl | rfl | rfl | rfl | rfl | rfl | rfl | rfl | rfl | rfl | rfl | rfl | rfl | rfl | rfl
  · exact h.kept (causeStep_kept ht)
  · exact h.closeStep ht
  · exact h.kept (gradeStep_kept ht)
  · exact h.kept (cutStep_kept ht)
  · exact h.kept (trayFreed_kept ht)
  · exact h.kept (trayTaken_kept ht)
  · exact h.kept (buildsStep_kept ht)
  · exact h.kept (pauseStep_kept ht)
  · exact h.kept (autoEvac_kept ht)
  · exact h.kept (purgeStart_kept ht)
  · exact h.kept (preemptStep_kept ht)
  · exact h.kept (safeStep_kept ht)
  · exact h.kept (holdStep_kept ht)
  · exact h.kept (assignStep_kept ht)
  · exact h.kept (grantStep_kept ht)

theorem clearReactions_subset : clearReactions ⊆ reactions := by
  simp [clearReactions, reactions]

theorem Faithful.settle (h : Faithful r s) : Faithful r (settle s) :=
  settle_keeps (Faithful r) (fun _ hf _ _ h ht => h.reaction hf ht) (fun _ _ h => h.kept) s h

theorem Faithful.settleClear (h : Faithful r s) : Faithful r (settleClear s) :=
  settleClear_keeps (Faithful r) (fun _ hf _ _ h ht => h.reaction (clearReactions_subset hf) ht) (fun _ _ h => h.kept) s h

end Sys2Proof.Machine
end

section
/-! The events of the line, the bay, the safe and the mechanism are faithful, and so is a power loss. -/

-- One theorem at a time: the whole text holds more theorems than the check has room for threads.
set_option Elab.async false

namespace Sys2Proof.Machine

variable {r s t : State}

/-! ### FREE slots claimed, groups of movements -/

theorem mem_freeContainers {n : Nat} (h : n ∈ s.freeContainers) :
    14 ≤ containerPos n ∧ containerPos n ≤ 173 ∧ (s.posRec (containerPos n)).inUse = false := by
  obtain ⟨hn, hu⟩ := List.mem_filter.mp h
  simp only [containerSlots, List.mem_range] at hn
  simp only [containerPos] at hu ⊢
  exact ⟨by omega, by omega, by simpa using hu⟩

theorem mem_freeLots {n : Nat} (h : n ∈ s.freeLots) :
    14 ≤ lotPos n ∧ lotPos n ≤ 173 ∧ (s.posRec (lotPos n)).inUse = false := by
  obtain ⟨hn, hu⟩ := List.mem_filter.mp h
  simp only [List.mem_range] at hn
  simp only [lotPos] at hu ⊢
  exact ⟨by omega, by omega, by simpa using hu⟩

/-- The first FREE CONTAINER slot is claimed. -/
theorem Faithful.claimContainer {n : Nat} {l : List Nat} (h : Faithful r s) (hn : s.freeContainers = n :: l) :
    Faithful r (Machine.claimSlot (containerPos n) s) := by
  obtain ⟨h1, h2, hu⟩ := mem_freeContainers (hn ▸ List.mem_cons_self : n ∈ s.freeContainers)
  exact h.claimSlot h1 h2 hu

/-- The first FREE LOT slot is claimed for a new lot. -/
theorem Faithful.createLot {n : Nat} {l : List Nat} {src : LotSource} {sel : Option StationSel} {v : Option Nat}
    (h : Faithful r s) (hn : s.freeLots = n :: l) : Faithful r (createLot n src sel v s) := by
  obtain ⟨h1, h2, hu⟩ := mem_freeLots (hn ▸ List.mem_cons_self : n ∈ s.freeLots)
  exact (h.claimSlot h1 h2 hu).kept (by unfold Machine.createLot; rfl)

theorem Faithful.applyGroup {k : Nat} {l : List Movement} (h : Faithful r s) (ht : applyGroup k l s = .ok t) :
    Faithful r t := by
  induction l generalizing k s with
  | nil => cases ht; exact h
  | cons m l ih =>
    unfold Machine.applyGroup at ht
    split at ht
    · cases ht
    · next hc => exact ih (h.applyMovement hc) ht

/-! ### The frame of an event -/

theorem Faithful.event {f : State → State} (h : Faithful s (f s)) : Faithful s (event f s) := by
  cases hp : s.powered with
  | false => rw [event_off f s hp]; exact .refl s
  | true => rw [event_on f s hp]; exact h.kept

/-- Any condition may decide between two ways on. -/
theorem Faithful.ite {c : Prop} [Decidable c] {u v : State} (h1 : Faithful r u) (h2 : Faithful r v) :
    Faithful r (if c then u else v) := by
  split
  · exact h1
  · exact h2

/-! ### The station line -/

theorem Faithful.withStation {n : Nat} {f : State → State} (h : Faithful r (f s)) : Faithful r (withStation n f s) := by
  unfold Machine.withStation
  dsimp only
  split
  · exact h.kept
  · exact h

theorem Faithful.lotStackLeft {n k : Nat} {c : Option StackCommand} (h : Faithful r s) :
    Faithful r (lotStackLeft n k c s) := by
  unfold Machine.lotStackLeft
  split
  · exact h
  split
  · exact .ite h.kept h
  · exact .ite h.kept h
  · exact h.voidRelease
  · exact h

theorem Faithful.lotStackGone {n k : Nat} (h : Faithful r s) : Faithful r (lotStackGone n k s) := by
  unfold Machine.lotStackGone
  split
  · exact h
  split
  · exact .ite h.kept h
  · exact .ite h.kept h
  · exact h.voidRelease
  · exact h

theorem Faithful.attachState {n k : Nat} {m : MechState} (h : Faithful r s) : Faithful r (attachState n m k s) := by
  unfold Machine.attachState
  split
  · exact h.kept
  · exact Faithful.lotStackGone h.kept
  · exact h.kept
  · split <;> exact h.kept

theorem Faithful.stackedState {n k : Nat} {m : MechState} (h : Faithful r s) : Faithful r (stackedState n m k s) := by
  unfold Machine.stackedState
  dsimp only
  split
  · split
    · exact Faithful.lotStackLeft h.kept
    · exact h.kept
  · exact h

theorem Faithful.stateShown {n k : Nat} {m : MechState} (h : Faithful r s) : Faithful r (stateShown n m k s) := by
  have h1 : Faithful r (showState n m k s) := h.kept
  unfold Machine.stateShown
  split
  · exact h
  · exact h1.attachState
  · exact .ite h1.kept h1
  · exact h1.kept
  · exact h1.stackedState
  · exact h1
  · exact h1
  · exact h1

theorem Faithful.stateSeen {n k : Nat} {m : Option MechState} (h : Faithful r s) : Faithful r (stateSeen n m k s) := by
  unfold Machine.stateSeen
  split
  · exact h.stateShown
  · exact h

theorem Faithful.answeredBy {n k : Nat} {x : LineRecord} {m : Option MechState} (h : Faithful r s) :
    Faithful r (answeredBy n x m k s) := by
  unfold Machine.answeredBy
  split
  · exact .ite h.kept h
  · exact .withStation (Faithful.stateSeen h.kept)
  · exact .withStation h.kept
  · exact .withStation (Faithful.stateSeen h.kept)

theorem Faithful.goodState {k : Nat} {m : Option MechState} {x : Turn} (h : Faithful r s) :
    Faithful r (goodState m k x s) := by
  unfold Machine.goodState
  split
  · exact h.answeredBy.kept (nextTurn_kept _)
  · exact h.kept
  · exact h
  · exact h

theorem Faithful.fromStation {n : Fin 4} {l : List Nat} {f : Turn → State → State} {x : Turn} (h : Faithful r s)
    (hf : ∀ u, Faithful r u → Faithful r (f x u)) : Faithful r (fromStation n l f x s) := by
  unfold Machine.fromStation
  split
  · exact h
  · exact h
  · exact .ite (hf _ h.kept) h.kept
  · exact .ite (hf _ h.kept) h.kept

theorem Faithful.inTurn {f : Turn → State → State} (h : Faithful r s) (hf : ∀ x, Faithful r (f x s)) :
    Faithful r (inTurn f s) := by
  unfold Machine.inTurn
  split
  · exact (hf _).settle
  · exact h

/-! ### The bay and the safe -/

theorem Faithful.releaseContainer {n : Nat} (h : Faithful r s) : Faithful r (releaseContainer n s) := by
  unfold Machine.releaseContainer
  split
  · exact Faithful.requestRelease h.kept
  · exact h

theorem Faithful.unclaim {n : Nat} (h : Faithful r s) : Faithful r (unclaim n s) := h.requestRelease

theorem Faithful.handOut {k i n slot : Nat} {c : ConsRec} {x : Item} (h : Faithful r s) :
    Faithful r (handOut k i n c x slot s) := by
  unfold Machine.handOut
  dsimp only
  split
  · exact Faithful.releaseContainer h.kept
  split
  · exact h.kept
  · next hc => exact Faithful.releaseContainer ((h.applyMovement hc).kept (setItem_kept ..))

theorem Faithful.takeIn {k i n : Nat} {c : ConsRec} {x : Item} (h : Faithful r s) : Faithful r (takeIn k i n c x s) := by
  unfold Machine.takeIn
  split
  · exact h.kept
  · next hn =>
    have h1 := h.claimContainer hn
    dsimp only
    split
    · exact h1.unclaim.kept (reject_kept ..)
    · next hc => exact ((h1.applyMovement hc).kept (setContainer_kept ..)).kept (setItem_kept ..)

theorem Faithful.courierRead {n : Nat} (h : Faithful r s) : Faithful r (courierRead n s) := by
  unfold Machine.courierRead
  split
  · exact h.kept
  split
  · exact h
  split
  · exact h.kept
  split
  · exact h
  split
  · exact h.kept
  split
  · exact .ite h.handOut h.kept
  · exact h.kept
  · exact h.takeIn

theorem Faithful.courierCloses (h : Faithful r s) : Faithful r (courierCloses s) := by
  unfold Machine.courierCloses
  dsimp only
  split
  · split
    · exact Faithful.settle h.kept
    · exact h.kept
  · have h1 : Faithful r (sensorClosed .courier s) := h.kept
    exact (Faithful.ite (h1.kept (lockCourier_kept _)) h1).kept (bayAfter_kept _)

theorem Faithful.courierLate (h : Faithful r s) : Faithful r (courierLate s) := by
  unfold Machine.courierLate
  split
  · split
    · split
      · exact Faithful.settle h.kept
      · exact h
    · exact h
  · exact h

@[simp] theorem relockSafe_kept (s : State) : (relockSafe s).kept = s.kept := by
  unfold relockSafe; dsimp only; split <;> simp

@[simp] theorem safeForced_kept (s : State) : (safeForced s).kept = s.kept := by simp [safeForced]

@[simp] theorem forcedEnds_kept (s : State) : (forcedEnds s).kept = s.kept := by simp [forcedEnds]

theorem Faithful.relockDue (h : Faithful r s) : Faithful r (relockDue s) := .ite (Faithful.settle h.kept) h

theorem Faithful.safeReadsOpen (h : Faithful r s) : Faithful r (safeReadsOpen s) := by
  unfold Machine.safeReadsOpen
  dsimp only
  split
  · exact Faithful.settle h.kept
  · exact Faithful.settle h.kept
  · exact .ite h (Faithful.settle h.kept)
  · exact .ite h (Faithful.settle h.kept)
  · exact h

theorem Faithful.safeReadsClosed (h : Faithful r s) : Faithful r (safeReadsClosed s) := by
  unfold Machine.safeReadsClosed
  dsimp only
  split
  · exact .ite (Faithful.settle h.kept) h.kept
  · exact .ite (Faithful.settle h.kept) h.kept
  · exact .ite (Faithful.settle h.kept) h.kept
  · exact h
  · exact h

@[simp] theorem tickClock_kept (s : State) : (tickClock s).kept = s.kept := by simp [tickClock]
@[simp] theorem tickTimers_kept (s : State) : (tickTimers s).kept = s.kept := rfl
@[simp] theorem windowOver_kept (s : State) : (windowOver s).kept = s.kept := by unfold windowOver; split <;> simp
@[simp] theorem safeReading_kept (b : Bool) (s : State) : (safeReading b s).kept = s.kept := rfl
@[simp] theorem doorReading_kept (d : Door) (b : Bool) (s : State) : (doorReading d b s).kept = s.kept := by
  simp [doorReading]

/-! ### The mechanism -/

theorem Faithful.readNote {p : ReadPoint} {x : Reading} (h : Faithful r s) : Faithful r (readNote p x s) := by
  unfold Machine.readNote
  split
  · exact h
  split
  · split
    · split
      · exact Faithful.settle h.kept
      · exact h
    · exact h
  · exact .ite (Faithful.settle h.kept) h

theorem Faithful.noteArrives {a : Arrival} (h : Faithful r s) : Faithful r (noteArrives a s) := by
  unfold Machine.noteArrives
  split
  · split
    · next ha => exact (h.kept (arriving_kept ha)).arriveNote.settle
    · exact h
  · exact h

theorem Faithful.headEmpties {i : Fin 2} (h : Faithful r s) : Faithful r (headEmpties i s) := by
  unfold Machine.headEmpties
  dsimp only
  split
  · exact Faithful.settle h.kept
  · exact h.kept

theorem Faithful.tagsRead {m : Nat} {x : Tab 6 (Option Nat)} (h : Faithful r s) : Faithful r (tagsRead m x s) := by
  unfold Machine.tagsRead
  dsimp only
  split
  · have h1 : Faithful r (checkTags m x s) := h.kept
    exact Faithful.settle (h1.kept rfl)
  · exact h

theorem Faithful.purgeOver {b : Bool} {n : Nat} (h : Faithful r s) : Faithful r (purgeOver b n s) := by
  unfold Machine.purgeOver
  split
  · split
    · exact h.purgeClear.settle
    · exact Faithful.settle h.kept
  · exact h

/-- Without an event the controller idles, or a cassette run makes its pick. -/
theorem Faithful.idle (h : Faithful r s) : Faithful r (idle s) := by
  unfold Machine.idle
  split
  · exact h.kept
  · exact h

end Sys2Proof.Machine
end

section
/-! The requests: each is faithful, or changes of the settings what its rule names. -/

-- One theorem at a time: the whole text holds more theorems than the check has room for threads.
set_option Elab.async false

namespace Sys2Proof.Machine

variable {r s t : State}

/-! ### The gate of a request -/

/-- From `s` to `t` the settings change as `R` allows, and the custody law holds in `t` where it held in `s`. -/
def ChangesOnly (R : Settings → Settings → Prop) (s t : State) : Prop :=
  R s.settings t.settings ∧ (s.bookLaw → t.bookLaw)

theorem ChangesOnly.faithful {R : Settings → Settings → Prop} (h : ChangesOnly R r s) (k : Faithful s t) :
    ChangesOnly R r t := ⟨k.1 ▸ h.1, k.2 ∘ h.2⟩

theorem ChangesOnly.of_faithful {R : Settings → Settings → Prop} (hR : ∀ x, R x x) (h : Faithful s t) :
    ChangesOnly R s t := ⟨h.1 ▸ hR _, h.2⟩

/-- What a request's block may change, the request may change. -/
theorem ChangesOnly.request {α : Type} {c g : Nat} {b : Body α} {f : α → State → Reply × State}
    {R : Settings → Settings → Prop} (hR : ∀ x, R x x) (hf : ∀ a u, ChangesOnly R u (f a u).2) (s : State) :
    ChangesOnly R s (request c g b f s) := by
  have h0 : ChangesOnly R s s := .of_faithful hR (.refl s)
  have hh : Faithful s (heard s) := (Faithful.refl s).kept
  obtain ⟨-, e⟩ | ⟨-, -, e⟩ | ⟨-, -, -, e⟩ | ⟨-, -, -, -, e⟩ | ⟨-, -, -, a, -, e⟩ := request_cases c g b f s <;> rw [e]
  · exact h0
  · exact h0.faithful hh.kept
  · exact h0.faithful hh
  · exact h0.faithful hh.kept
  · have h1 : ChangesOnly R s (f a (heard s)).2 := hf a (heard s)
    exact h1.faithful ((Faithful.refl _).kept (respond_kept ..))

theorem Faithful.request {α : Type} {c g : Nat} {b : Body α} {f : α → State → Reply × State}
    (hf : ∀ a u, Faithful u (f a u).2) (s : State) : Faithful s (request c g b f s) :=
  ChangesOnly.request (R := fun x y => y = x) (fun _ => rfl) hf s

theorem Faithful.pair {x : Reply} (h : Faithful r s) : Faithful r (x, s).2 := h

/-! ### The book -/

theorem doQueryPosition_faithful (q : QueryPositionReq) (s : State) : Faithful s (doQueryPosition q s).2 := by
  unfold doQueryPosition
  dsimp only
  (repeat' split) <;> dsimp only [no, noBook] <;> first | with_reducible exact .refl s | exact (Faithful.refl s).clearMarks

theorem doPostPosition_faithful (p : Nat) (s : State) : Faithful s (doPostPosition p s).2 := by
  unfold doPostPosition
  dsimp only
  (repeat' split) <;> dsimp only [no, noBook] <;> first | with_reducible exact .refl s | exact (Faithful.refl s).settlePosition

@[simp] theorem setPostingMode_kept (p : Nat) (m : PostingMode) (s : State) : (Machine.setMode p m s).kept = s.kept := by
  simp [Machine.setMode]

theorem doSetPostingMode_faithful (q : SetPostingModeReq) (s : State) : Faithful s (doSetPostingMode q s).2 := by
  unfold doSetPostingMode
  dsimp only
  (repeat' split) <;> dsimp only [no, noBook] <;> first
    | with_reducible exact .refl s
    | exact (Faithful.refl s).kept (setPostingMode_kept ..)
    | exact (Faithful.refl s).settlePosition.kept (setPostingMode_kept ..)

@[simp] theorem markFetched_kept (n : Nat) (s : State) : (markFetched n s).kept = s.kept := rfl

theorem doFetchPostings_faithful (n : Nat) (s : State) : Faithful s (doFetchPostings n s).2 := by
  unfold doFetchPostings
  split <;> exact .refl s

@[simp] theorem resolveMismatch_kept (p : Nat) (s : State) : (resolveMismatch p s).kept = s.kept := by
  unfold resolveMismatch
  dsimp only
  (repeat' split) <;> simp

theorem doAdjustPosition_faithful (q : AdjustReq) (s : State) : Faithful s (doAdjustPosition q s).2 := by
  have h := Faithful.refl s
  unfold doAdjustPosition
  split
  · exact h
  split
  · exact h
  split
  · exact h
  split
  · exact .pair <| Faithful.settle h.kept
  dsimp only
  split
  · exact h
  · next hc => exact .pair <| Faithful.settle (((h.applyMovement hc).kept (resolveMismatch_kept ..)).kept (evacExamine_kept _))

/-! ### The till desk -/

theorem doBuildFloat_faithful (q : BuildFloatReq) (s : State) : Faithful s (doBuildFloat q s).2 := by
  have hs : ∀ k t plan total short, Faithful s (startBuildFloat k q t plan total short s) := fun k t plan total short => by
    unfold startBuildFloat noticeWithin
    dsimp only
    split <;> exact (Faithful.refl s).kept
  unfold doBuildFloat
  (repeat' split) <;> dsimp only [no, noBook] <;> first | with_reducible exact .refl s | exact (hs ..).settle

@[simp] theorem handedOver_kept (k t : Nat) (c : Counts) (s : State) : (handedOver k t c s).kept = s.kept := by
  simp [handedOver]

theorem doFloatHanded_faithful (q : TillOpReq) (s : State) : Faithful s (doFloatHanded q s).2 := by
  have h := Faithful.refl s
  unfold doFloatHanded
  split
  · exact h
  split
  · exact h
  split
  · exact h
  dsimp only
  split
  · exact h
  · next hg => exact .pair <| Faithful.settle ((h.applyGroup hg).kept (handedOver_kept ..))

theorem doAcceptShort_faithful (q : TillOpReq) (s : State) : Faithful s (doAcceptShort q s).2 := by
  have h := Faithful.refl s
  unfold doAcceptShort
  split
  · exact h
  split
  · exact h
  split
  · exact h
  dsimp only
  split
  · exact h
  · next hg => exact .pair <| Faithful.settle ((h.applyGroup hg).kept (handedOver_kept ..))

theorem doRebuild_faithful (n : Nat) (s : State) : Faithful s (doRebuild n s).2 := by
  have hs : ∀ k t plan b p v short, Faithful s (noticeWithin k t p v short ((reserve k t plan s).setBuild k b)) :=
    fun k t plan b p v short => by unfold noticeWithin; split <;> exact (Faithful.refl s).kept
  unfold doRebuild
  (repeat' split) <;> dsimp only [no, noBook] <;> first | with_reducible exact .refl s | exact (hs ..).settle

theorem doCancelBuild_faithful (n : Nat) (s : State) : Faithful s (doCancelBuild n s).2 := by
  unfold doCancelBuild
  dsimp only
  (repeat' split) <;> dsimp only [no, noBook] <;> first | with_reducible exact .refl s | exact Faithful.settle ((Faithful.refl s).kept)

@[simp] theorem adviseTill_kept (n : Nat) (s : State) : (adviseTill n s).kept = s.kept := by
  unfold adviseTill; dsimp only; (repeat' split) <;> simp
@[simp] theorem rebandTill_kept (n : Nat) (s : State) : (rebandTill n s).kept = s.kept := by
  unfold rebandTill; dsimp only; split <;> simp
@[simp] theorem salesFollow_kept (n : Nat) (s : State) : (salesFollow n s).kept = s.kept := by
  unfold salesFollow; split <;> simp

theorem doReportSales_faithful (q : ReportSalesReq) (s : State) : Faithful s (doReportSales q s).2 := by
  unfold doReportSales
  dsimp only
  (repeat' split) <;> dsimp only [no, noBook] <;> first | with_reducible exact .refl s | exact (Faithful.refl s).kept

theorem doAcceptVariance_faithful (q : AcceptVarianceReq) (s : State) : Faithful s (doAcceptVariance q s).2 := by
  unfold doAcceptVariance
  (repeat' split) <;> dsimp only [no, noBook] <;> first | with_reducible exact .refl s | exact (Faithful.refl s).kept

theorem doCloseTill_faithful (n : Nat) (s : State) : Faithful s (doCloseTill n s).2 := by
  unfold doCloseTill
  (repeat' split) <;> dsimp only [no, noBook] <;> first | with_reducible exact .refl s | exact (Faithful.refl s).kept

/-! ### The count unit -/

theorem doResetStation_faithful (n : Nat) (s : State) : Faithful s (doResetStation n s).2 := by
  unfold doResetStation
  dsimp only
  (repeat' split) <;> dsimp only [no, noBook] <;> first | with_reducible exact .refl s | exact Faithful.settle ((Faithful.refl s).kept)

theorem doStationQuery_faithful (n : Nat) (s : State) : Faithful s (doStationQuery n s).2 := by
  unfold doStationQuery
  dsimp only
  split <;> exact (Faithful.refl s).kept (by simp [no])

@[simp] theorem queueJob_kept (n : Nat) (x : StationSel) (s : State) : (queueJob n x s).kept = s.kept := by
  unfold queueJob; split <;> simp
@[simp] theorem sourceStarted_kept (n : Nat) (x : CountSource) (s : State) : (sourceStarted n x s).kept = s.kept := by
  unfold sourceStarted; (repeat' split) <;> simp

theorem doStartCount_faithful (q : StartCountReq) (s : State) : Faithful s (doStartCount q s).2 := by
  have h := Faithful.refl s
  unfold doStartCount
  split
  · exact h
  split
  · exact h
  split
  · exact h
  split
  · exact h
  split
  · exact h
  split
  · exact h
  dsimp only
  split
  · split <;> exact .pair <| Faithful.settle h.kept
  · next hn => exact .pair <| Faithful.settle (((h.createLot hn).kept (queueJob_kept ..)).kept (sourceStarted_kept ..))
  · exact h

theorem doDeclareCoin_faithful (q : DeclareCoinReq) (s : State) : Faithful s (doDeclareCoin q s).2 := by
  unfold doDeclareCoin
  dsimp only
  (repeat' split) <;> dsimp only [no, noBook] <;> first | with_reducible exact .refl s | exact (Faithful.refl s).kept

@[simp] theorem tillAccepts_kept (l : LotRec) (s : State) : (tillAccepts l s).kept = s.kept := by
  unfold tillAccepts; dsimp only; (repeat' split) <;> simp
@[simp] theorem releaseToHand_kept (k : Option Nat) (s : State) : (releaseToHand k s).kept = s.kept := by
  unfold releaseToHand; split <;> simp
@[simp] theorem returnStackOf_kept (n : Nat) (l : LotRec) (s : State) : (returnStackOf n l s).kept = s.kept := by
  unfold returnStackOf; (repeat' split) <;> simp
@[simp] theorem restoreSource_kept (l : LotRec) (s : State) : (restoreSource l s).kept = s.kept := by
  unfold restoreSource; (repeat' split) <;> simp

theorem Faithful.containerAccepts {l : LotRec} (h : Faithful r s) : Faithful r (containerAccepts l s) := by
  unfold Machine.containerAccepts
  split
  · exact h.releaseContainer.kept (bayAfter_kept _)
  · exact h

theorem Faithful.afterAccept {n : Nat} {d : Disposal} {l : LotRec} (h : Faithful r s) :
    Faithful r (afterAccept n d l s) := by
  unfold Machine.afterAccept
  split
  · dsimp only
    split <;> exact h.kept
  · exact Faithful.finishLot h.kept

theorem Faithful.acceptLot {n op : Nat} {d : Disposal} {l : LotRec} (h : Faithful r s) :
    Faithful r (acceptLot n op d l s) :=
  Faithful.afterAccept (Faithful.containerAccepts h.kept)

theorem doAcceptCount_faithful (q : AcceptCountReq) (s : State) : Faithful s (doAcceptCount q s).2 := by
  have h := Faithful.refl s
  unfold doAcceptCount
  split
  · exact h
  split
  · split
    · exact h
    split
    · exact h
    split
    · exact h
    split
    · exact h
    dsimp only
    split
    · exact h
    · next hg => exact .pair <| (h.applyGroup hg).acceptLot.settle
  · exact h

theorem doRejectCount_faithful (n : Nat) (s : State) : Faithful s (doRejectCount n s).2 := by
  unfold doRejectCount
  (repeat' split) <;> dsimp only [no, noBook] <;> first | with_reducible exact .refl s | exact Faithful.settle ((Faithful.refl s).kept)

theorem Faithful.voidLot {n : Nat} {l : LotRec} (h : Faithful r s) : Faithful r (voidLot n l s) := by
  unfold Machine.voidLot
  dsimp only
  refine Faithful.voidRelease (h.kept ?_)
  split <;> simp

theorem doVoidLot_faithful (n : Nat) (s : State) : Faithful s (doVoidLot n s).2 := by
  unfold doVoidLot
  (repeat' split) <;> dsimp only [no, noBook] <;> first | with_reducible exact .refl s | exact (Faithful.refl s).voidLot.settle

theorem doResumeDisposal_faithful (n : Nat) (s : State) : Faithful s (doResumeDisposal n s).2 := by
  unfold doResumeDisposal
  dsimp only
  (repeat' split) <;> dsimp only [no, noBook] <;> first | with_reducible exact .refl s | exact Faithful.settle ((Faithful.refl s).kept)

theorem doDisposeLotReserve_faithful (q : DisposeLotReserveReq) (s : State) : Faithful s (doDisposeLotReserve q s).2 := by
  have h := Faithful.refl s
  unfold doDisposeLotReserve
  split
  · exact h
  split
  · exact h
  split
  · exact h
  split
  · exact h
  dsimp only
  split
  · exact h
  · next hc => exact .pair <| Faithful.settle (Faithful.finishLot ((h.applyMovement hc).kept (releaseToHand_kept ..)))

/-! ### The recycler controller -/

theorem doSetCassette_faithful (q : SetCassetteReq) (s : State) : Faithful s (doSetCassette q s).2 := by
  unfold doSetCassette
  dsimp only
  (repeat' split) <;> dsimp only [no, noBook] <;> first | with_reducible exact .refl s | exact Faithful.settle ((Faithful.refl s).kept)

theorem doInsertCassette_faithful (q : InsertCassetteReq) (s : State) : Faithful s (doInsertCassette q s).2 := by
  unfold doInsertCassette
  (repeat' split) <;> dsimp only [no, noBook] <;> first | with_reducible exact .refl s | exact (Faithful.refl s).kept

@[simp] theorem vacate_kept (c : Nat) (s : State) : (vacate c s).kept = s.kept := by simp [vacate]
@[simp] theorem strandedRemoved_kept (c : Nat) (s : State) : (strandedRemoved c s).kept = s.kept := by
  unfold strandedRemoved; split <;> simp

theorem removeForCollection_faithful (c a b : Nat) (s : State) : Faithful s (removeForCollection c a b s).2 := by
  have h := Faithful.refl s
  unfold removeForCollection
  dsimp only
  split
  · exact h
  split
  · exact h
  · next n _ hn =>
    have h1 := (h.claimContainer hn).kept (setContainer_kept n (some (collectedCassette ((s.cassette c).tag.getD 0))) _)
    split
    · exact .pair h1.unclaim
    · next hg => exact .pair <| Faithful.settle ((h1.applyGroup hg).kept (vacate_kept ..))

theorem removeStranded_faithful (c a b : Nat) (s : State) : Faithful s (removeStranded c a b s).2 := by
  have h := Faithful.refl s
  unfold removeStranded
  split
  · exact h
  · next hn =>
    dsimp only
    split
    · exact h
    · next hg =>
      exact .pair <| Faithful.settle ((((h.createLot hn).applyGroup hg).kept (vacate_kept ..)).kept (strandedRemoved_kept ..))

theorem doRemoveCassette_faithful (q : RemoveCassetteReq) (s : State) : Faithful s (doRemoveCassette q s).2 := by
  have h := Faithful.refl s
  unfold doRemoveCassette
  split
  · exact h
  split
  · split
    · exact h
    split
    · exact h
    dsimp only
    split
    · exact h
    split
    · exact h
    split
    · exact h
    split
    · exact .pair <| Faithful.settle h.kept
    · exact removeForCollection_faithful ..
    · exact removeStranded_faithful ..
  · exact h

theorem doSetRoute_faithful (q : SetRouteReq) (s : State) : Faithful s (doSetRoute q s).2 := by
  unfold doSetRoute
  dsimp only
  (repeat' split) <;> dsimp only [no, noBook] <;> first | with_reducible exact .refl s | exact (Faithful.refl s).kept

@[simp] theorem setWindow_kept (w : Option Nat) (s : State) : (setWindow w s).kept = s.kept := by simp [setWindow]

theorem doOpenFloatWindow_faithful (n : Nat) (s : State) : Faithful s (doOpenFloatWindow n s).2 := by
  unfold doOpenFloatWindow
  (repeat' split) <;> dsimp only [no, noBook] <;> first | with_reducible exact .refl s | exact Faithful.settle ((Faithful.refl s).kept)

theorem doCloseFloatWindow_faithful (x : Unit) (s : State) : Faithful s (doCloseFloatWindow x s).2 :=
  (Faithful.refl s).kept (setWindow_kept ..)

theorem doClearBucket_faithful (q : SlotOpsReq) (s : State) : Faithful s (doClearBucket q s).2 := by
  unfold doClearBucket
  (repeat' split) <;> dsimp only [no, noBook] <;> first | with_reducible exact .refl s | exact Faithful.settleClear ((Faithful.refl s).kept)

theorem doStartEvacuation_faithful (q : SlotOpsReq) (s : State) : Faithful s (doStartEvacuation q s).2 := by
  unfold doStartEvacuation
  (repeat' split) <;> dsimp only [no, noBook] <;> first | with_reducible exact .refl s | exact Faithful.settle ((Faithful.refl s).kept)

/-! ### The bay controller -/

theorem doOpenBag_faithful (n : Nat) (s : State) : Faithful s (doOpenBag n s).2 := by
  unfold doOpenBag
  split
  · exact .refl s
  split
  · exact .refl s
  split
  · exact .refl s
  split
  · next hn => exact ((Faithful.refl s).claimContainer hn).kept (setContainer_kept ..)
  · exact .refl s

theorem doFillBag_faithful (q : FillBagReq) (s : State) : Faithful s (doFillBag q s).2 := by
  unfold doFillBag
  dsimp only
  (repeat' split) <;> dsimp only [no, noBook] <;> first | with_reducible exact .refl s | exact (Faithful.refl s).applyMovement ‹_›

theorem doCloseBag_faithful (n : Nat) (s : State) : Faithful s (doCloseBag n s).2 := by
  unfold doCloseBag
  (repeat' split) <;> dsimp only [no, noBook] <;> first | with_reducible exact .refl s | exact (Faithful.refl s).kept

theorem doDiscardContainer_faithful (n : Nat) (s : State) : Faithful s (doDiscardContainer n s).2 := by
  unfold doDiscardContainer
  (repeat' split) <;> dsimp only [no, noBook] <;> first | with_reducible exact .refl s | exact (Faithful.refl s).releaseContainer.kept (bayAfter_kept _)

theorem doCreateConsignment_faithful (q : CreateConsignmentReq) (s : State) : Faithful s (doCreateConsignment q s).2 := by
  unfold doCreateConsignment
  (repeat' split) <;> dsimp only [no, noBook] <;> first | with_reducible exact .refl s | exact (Faithful.refl s).kept

theorem doAddItem_faithful (q : AddItemReq) (s : State) : Faithful s (doAddItem q s).2 := by
  unfold doAddItem
  dsimp only
  (repeat' split) <;> dsimp only [no, noBook] <;> first | with_reducible exact .refl s | exact (Faithful.refl s).kept

theorem doStage_faithful (k : Nat) (s : State) : Faithful s (doStage k s).2 := by
  unfold doStage
  (repeat' split) <;> dsimp only [no, noBook] <;> first | with_reducible exact .refl s | exact (Faithful.refl s).kept

@[simp] theorem engageCons_kept (k a b : Nat) (c : ConsRec) (s : State) : (engageCons k a b c s).kept = s.kept := by
  simp [engageCons]

theorem doEngage_faithful (q : EngageReq) (s : State) : Faithful s (doEngage q s).2 := by
  unfold doEngage
  (repeat' split) <;> dsimp only [no, noBook] <;> first | with_reducible exact .refl s | exact (Faithful.refl s).kept

theorem doRetrieve_faithful (x : Unit) (s : State) : Faithful s (doRetrieve x s).2 := by
  unfold doRetrieve
  (repeat' split) <;> dsimp only [no, noBook] <;> first | with_reducible exact .refl s | exact (Faithful.refl s).kept

theorem doLockBay_faithful (x : Unit) (s : State) : Faithful s (doLockBay x s).2 := by
  unfold doLockBay
  (repeat' split) <;> dsimp only [no, noBook] <;> first | with_reducible exact .refl s | exact (Faithful.refl s).kept

theorem doAbort_faithful (k : Nat) (s : State) : Faithful s (doAbort k s).2 := by
  unfold doAbort
  (repeat' split) <;> dsimp only [no, noBook] <;> first | with_reducible exact .refl s | exact Faithful.settle ((Faithful.refl s).kept)

/-! ### Office control and the link -/

theorem doEnterHold_faithful (x : Unit) (s : State) : Faithful s (doEnterHold x s).2 := by
  unfold doEnterHold
  dsimp only
  split
  · exact .refl s
  · exact .refl s
  · exact .pair <| Faithful.settle ((Faithful.refl s).kept)

@[simp] theorem clearOpening_kept (s : State) : (clearOpening s).kept = s.kept := rfl

theorem doLeaveHold_faithful (x : Unit) (s : State) : Faithful s (doLeaveHold x s).2 := by
  unfold doLeaveHold
  split
  · exact .refl s
  · exact .pair <| Faithful.settle ((Faithful.refl s).kept)

theorem doOpenSafe_faithful (q : OpenSafeReq) (s : State) : Faithful s (doOpenSafe q s).2 := by
  unfold doOpenSafe
  (repeat' split) <;> dsimp only [no, noBook] <;> first | with_reducible exact .refl s | exact Faithful.settle ((Faithful.refl s).kept)

theorem doCloseSafe_faithful (x : Unit) (s : State) : Faithful s (doCloseSafe x s).2 := by
  unfold doCloseSafe
  split
  · exact .refl s
  · exact .pair <| Faithful.settle ((Faithful.refl s).kept)
  · exact .pair <| Faithful.settle ((Faithful.refl s).kept)
  · exact .pair <| Faithful.settle ((Faithful.refl s).kept)
  · exact (Faithful.refl s).kept (setSafe_kept ..)

theorem doSetClock_faithful (v : Nat) (s : State) : Faithful s (doSetClock v s).2 := by
  unfold doSetClock
  (repeat' split) <;> dsimp only [no, noBook] <;> first | with_reducible exact .refl s | exact (Faithful.refl s).kept

theorem doClearFaultRecord_faithful (x : Unit) (s : State) : Faithful s (doClearFaultRecord x s).2 :=
  (Faithful.refl s).kept rfl

theorem doGetStatus_faithful (x : Unit) (s : State) : Faithful s (doGetStatus x s).2 := (Faithful.refl s).kept rfl

theorem doRestart_faithful (x : Unit) (s : State) : Faithful s (doRestart x s).2 := by
  unfold doRestart
  split <;> exact .refl s

end Sys2Proof.Machine
end

section
/-! A start keeps the settings and the custody law; a start with a lost store leaves a book that keeps the law. -/

-- One theorem at a time: the whole text holds more theorems than the check has room for threads.
set_option Elab.async false

namespace Sys2Proof.Machine

variable {r s t : State}

theorem collect_kept {f : State → State} (hf : ∀ u, (f u).kept = u.kept) (s : State) : (collect f s).1.kept = s.kept :=
  hf _

theorem collectEach_kept {f : Nat → State → State} (hf : ∀ n u, (f n u).kept = u.kept) (l : List Nat) (s : State) :
    (collectEach f l s).1.kept = s.kept := by
  induction l generalizing s with
  | nil => rfl
  | cons n l ih => exact (ih _).trans (collect_kept (hf n) s)

@[simp] theorem startBook_kept (s : State) : (startBook s).kept = s.kept := rfl

@[simp] theorem startLot_kept (n : Nat) (s : State) : (startLot n s).kept = s.kept := by
  unfold startLot; (repeat' split) <;> simp

theorem startCountUnit_kept_lots (s : State) : (collectEach startLot (List.range 64) s).1.kept = s.kept :=
  collectEach_kept startLot_kept _ s

theorem Faithful.startCountUnit (h : Faithful r s) : Faithful r (startCountUnit s).1 := by
  have h1 := h.kept (startCountUnit_kept_lots s)
  unfold Machine.startCountUnit
  dsimp only
  generalize (collectEach startLot (List.range 64) s).1 = u at h1 ⊢
  exact Faithful.each (fun _ _ hu => hu.voidRelease) _ (h1.kept rfl)

@[simp] theorem startRecycler_kept (s : State) : (startRecycler s).kept = s.kept := rfl

@[simp] theorem startEvacuation_kept (s : State) : (startEvacuation s).kept = s.kept := by
  unfold startEvacuation; split <;> simp

theorem startCuts_kept (l : List Nat) (s : State) : (startCuts l s).1.kept = s.kept := by
  induction l generalizing s with
  | nil => rfl
  | cons d l ih => exact (ih _).trans (cutEntries_kept d s)

@[simp] theorem startBuild_kept (k : Nat) (l : List Nat) (s : State) : (startBuild k l s).kept = s.kept := by
  unfold startBuild
  split
  · rfl
  · dsimp only
    split <;> simp

@[simp] theorem startCancelling_kept (k : Nat) (s : State) : (startCancelling k s).kept = s.kept := by
  unfold startCancelling; (repeat' split) <;> simp

theorem startDesk_kept (s : State) : (startDesk s).1.kept = s.kept := by
  unfold startDesk
  dsimp only
  rw [each_kept startCancelling_kept, setTrayOwner_kept, collectEach_kept fun k u => startBuild_kept k _ u, startCuts_kept]

@[simp] theorem startCons_kept (k : Nat) (s : State) : (startCons k s).kept = s.kept := by
  unfold startCons
  split
  · rfl
  · split
    · split <;> simp
    · split <;> simp
    · split <;> simp
    · simp

@[simp] theorem startDoor_kept (d : Door) (s : State) : (startDoor d s).kept = s.kept := by
  unfold startDoor; split <;> simp

@[simp] theorem startSafe_kept (s : State) : (startSafe s).kept = s.kept := by
  unfold startSafe; dsimp only; split <;> simp

@[simp] theorem startMode_kept (s : State) : (startMode s).kept = s.kept := by unfold startMode; split <;> simp

/-- The state of a start just before its notices arise. -/
def started (s : State) : State :=
  let s1 := (startDesk (startEvacuation (startRecycler (startCountUnit (startBook s)).1))).1
  let s2 := s1.setDoors ⟨s1.doors.office.start, s1.doors.courier.start, false, false, none⟩
  let s3 := startMode (collectEach startCons consignmentSlots s2).1
  let s4 := (collect (fun s => startSafe (startDoor .courier (startDoor .office s))) s3).1
  { s4 with powered := true, link := { Link.initial with lastSent := s4.link.lastSent } }

theorem startFrom_eq (a b : Bool) (f : Nat → ModState) (s : State) :
    ∃ l, startFrom a b f s = transmit (settle (notifyAll l (started s))) := by
  unfold startFrom started
  dsimp only
  exact ⟨_, rfl⟩

theorem Faithful.started (h : Faithful r s) : Faithful r (started s) := by
  have h1 : Faithful r (Machine.startCountUnit (startBook s)).1 := (h.kept (startBook_kept s)).startCountUnit
  unfold Machine.started
  generalize (Machine.startCountUnit (startBook s)).1 = u at h1 ⊢
  have h2 : Faithful r (startDesk (Machine.startEvacuation (startRecycler u))).1 :=
    h1.kept (by rw [startDesk_kept, startEvacuation_kept, startRecycler_kept])
  generalize (startDesk (Machine.startEvacuation (startRecycler u))).1 = u2 at h2 ⊢
  have h3 : Faithful r (collectEach startCons consignmentSlots
      (u2.setDoors ⟨u2.doors.office.start, u2.doors.courier.start, false, false, none⟩)).1 :=
    h2.kept (by rw [collectEach_kept startCons_kept, setDoors_kept])
  dsimp only
  generalize (collectEach startCons consignmentSlots _).1 = u3 at h3 ⊢
  have h4 : Faithful r (collect (fun s => startSafe (startDoor .courier (startDoor .office s))) (startMode u3)).1 :=
    h3.kept (by rw [collect_kept (by simp), startMode_kept])
  generalize (collect _ (startMode u3)).1 = u4 at h4 ⊢
  exact h4.kept rfl

/-- Steps 4 to 6 of R209. -/
theorem Faithful.startFrom {a b : Bool} {f : Nat → ModState} (h : Faithful r s) : Faithful r (startFrom a b f s) := by
  obtain ⟨l, e⟩ := startFrom_eq a b f s
  rw [e]
  exact (Faithful.settle (h.started.kept (notifyAll_kept ..))).kept (transmit_kept _)

theorem Faithful.stopLink (h : Faithful r s) : Faithful r (stopLink s) := by
  obtain ⟨-, -, e⟩ | ⟨-, e⟩ := stopLink_cases s <;> rw [e]
  · exact h.startFrom
  · exact h

@[simp] theorem restartSent_kept (c : Nat) (x : Status) (s : State) : (restartSent c x s).kept = s.kept := by
  unfold restartSent; split <;> rfl

theorem Faithful.replySent (h : Faithful r s) : Faithful r (replySent s) := by
  unfold Machine.replySent
  dsimp only
  split
  · split
    · exact Faithful.catchUp (h.kept (by rw [dropEntries_kept]; rfl))
    · exact h.kept rfl
  · exact h.kept rfl

theorem Faithful.frameDone {f : Frame} (h : Faithful r s) : Faithful r (frameDone f s) := by
  have h1 : Faithful r { s with link := { s.link with onLine := none, lastSent := [f] } } := h.kept rfl
  unfold Machine.frameDone
  revert h1
  generalize ({ s with link := { s.link with onLine := none, lastSent := [f] } } : State) = u
  intro h1
  dsimp only
  split
  · have h2 : ∀ c x, Faithful r (restartSent c x (Machine.replySent u)) := fun c x =>
      h1.replySent.kept (restartSent_kept ..)
    exact (h2 _ _).stopLink
  · have h2 : Faithful r (busySent u) := h1.kept rfl
    exact h2.stopLink
  · exact h1.kept rfl

/-! ### A lost store, R24 -/

/-- Every position of the store-loss book holds nothing. -/
theorem counts_storeLoss {x : PosRec} (h : x ∈ Book.initial.positions.list) : x.counts = Counts.zero := by
  obtain ⟨p, -, rfl⟩ := List.mem_map.mp h
  split <;> rfl

theorem bookLaw_storeLoss (s : State) : (storeLoss s).bookLaw := by
  have hsum : ∀ (l : List PosRec) (d : Nat), (∀ x ∈ l, x.counts = Counts.zero) →
      (l.map fun x => Counts.of x.counts d).foldr (· + ·) 0 = 0 := fun l d hl => by
    induction l with
    | nil => rfl
    | cons x l ih =>
      rw [List.map_cons, List.foldr_cons, ih fun y hy => hl y (List.mem_cons_of_mem _ hy), hl x List.mem_cons_self, of_zero]
  refine ⟨fun d _ => ?_, fun p _ _ _ => ?_⟩
  · have h : (storeLoss s).custodySum d = 0 := hsum Book.initial.positions.list d fun x => counts_storeLoss
    rw [h]; exact (of_zero d).symm
  by_cases hp : p < Book.initial.positions.list.length
  · have e : (storeLoss s).posRec p = Book.initial.positions.list[p] := List.getD_eq_getElem _ _ hp
    rw [e]; exact counts_storeLoss (List.getElem_mem hp)
  · have e : (storeLoss s).posRec p = PosRec.fixed := Tab.get_out _ _ _ (by rw [Book.initial.positions.size] at hp; omega)
    rw [e]; rfl

/-- A start keeps the custody law, and where the store is good the settings. -/
theorem powerUp_faithful (s : State) : Faithful s (powerUp true s) := (Faithful.refl s).startFrom

theorem bookLaw_powerUp_storeLoss (s : State) : (powerUp false s).bookLaw :=
  (Faithful.refl (storeLoss s)).startFrom.2 (bookLaw_storeLoss s)

end Sys2Proof.Machine
end

section
/-! What each command may change of the settings, and that every command keeps the custody law. -/

-- One theorem at a time: the whole text holds more theorems than the check has room for threads.
set_option Elab.async false

namespace Sys2Proof.Machine

variable {r s t : State}

/-! ### The requests that set -/

theorem bookLaw_of_tables (hp : t.book.positions = s.book.positions) (ht : t.book.totals = s.book.totals)
    (h : s.bookLaw) : t.bookLaw := by
  unfold State.bookLaw State.totalsLaw State.emptySlots State.custodySum State.posRec at h ⊢
  rwa [hp, ht]

/-- What a command may do to the settings: its own request sets them, and every other command leaves them. A start with a
lost store sets them all, and is not spoken of. -/
def maySet : Instr → Settings → Settings → Prop
  | .setDenomination _ _, x, y => ∃ d l, y = { x with denoms := d, templates := l }
  | .clearDenomination _ _, x, y => ∃ d l, y = { x with denoms := d, templates := l }
  | .setTemplate _ _, x, y => ∃ l, y = { x with templates := l }
  | .setRosterEntry _ _, x, y => ∃ l, y = { x with roster := l }
  | .opening _ _, x, y => ∃ l, y = { x with roster := l }
  | .setCoinLimit _ _, x, y => ∃ v, y = { x with coinLimit := v }
  | .setLine _ _, x, y => ∃ l, y = { x with line := l }
  | .setArbiter _ _, x, y => ∃ a, y = { x with arbiter := a }
  | .setEvacuation _ _, x, y => ∃ e, y = { x with enables := e }
  | .setFaultPolicy _ _, x, y => ∃ a b, y = { x with threshold := a, leakNotes := b }
  | .setDoorLimit _ _, x, y => ∃ v, y = { x with doorLimit := v }
  | .setSafeRelock _ _, x, y => ∃ v, y = { x with relockTime := v }
  | _, x, y => y = x

theorem ChangesOnly.pair {R : Settings → Settings → Prop} {x : Reply} (h : ChangesOnly R r s) : ChangesOnly R r (x, s).2 :=
  h

variable {g : Nat}

/-- A new denomination table, with or without its templates, leaves the counts. -/
theorem setDenom_changesOnly (i : Nat) (x : DenomRec) (b : Body SetDenominationReq) (s : State) :
    ChangesOnly (maySet (.setDenomination g b)) s (s.setDenom i x) :=
  ⟨⟨_, _, rfl⟩, bookLaw_of_tables rfl rfl⟩

theorem dropTemplateEntries_changesOnly {i : Nat} {b : Body SetDenominationReq}
    (h : ChangesOnly (maySet (.setDenomination g b)) r s) :
    ChangesOnly (maySet (.setDenomination g b)) r (dropTemplateEntries i s) := by
  obtain ⟨⟨d, l, hs⟩, hb⟩ := h
  refine ⟨⟨d, (dropTemplateEntries i s).desk.templates, ?_⟩, hb⟩
  have : (dropTemplateEntries i s).settings = { s.settings with templates := (dropTemplateEntries i s).desk.templates } := rfl
  rw [this, hs]

theorem doSetDenomination_changesOnly (b : Body SetDenominationReq) (q : SetDenominationReq) (s : State) :
    ChangesOnly (maySet (.setDenomination g b)) s (doSetDenomination q s).2 := by
  have h : ChangesOnly (maySet (.setDenomination g b)) s s := ⟨⟨_, _, rfl⟩, id⟩
  have hdef : ∀ i x, ChangesOnly (maySet (.setDenomination g b)) s (defineDenom i x s) := fun i x => by
    have h1 := setDenom_changesOnly (g := g) i x b s
    have h2 : ChangesOnly (maySet (.setDenomination g b)) s
        (if x.kind = some .coin then dropTemplateEntries i (s.setDenom i x) else s.setDenom i x) := by
      split
      · exact dropTemplateEntries_changesOnly h1
      · exact h1
    unfold defineDenom
    dsimp only
    split
    · exact h2.faithful ((Faithful.refl _).kept (setRanges_kept ..))
    · exact h2
  unfold doSetDenomination
  dsimp only
  (repeat' split) <;> first | exact .pair (hdef ..) | exact h

theorem doClearDenomination_changesOnly (b : Body Nat) (i : Nat) (s : State) :
    ChangesOnly (maySet (.clearDenomination g b)) s (doClearDenomination i s).2 := by
  have h : ChangesOnly (maySet (.clearDenomination g b)) s s := ⟨⟨_, _, rfl⟩, id⟩
  have h1 : ChangesOnly (maySet (.setDenomination 0 .bad)) s (dropTemplateEntries i (s.setDenom i .empty)) :=
    dropTemplateEntries_changesOnly (setDenom_changesOnly ..)
  have h2 := h1.faithful ((Faithful.refl _).kept (setRanges_kept i [] _))
  unfold doClearDenomination
  (repeat' split) <;> first | exact h2 | exact h

theorem doSetTemplate_changesOnly (b : Body SetTemplateReq) (q : SetTemplateReq) (s : State) :
    ChangesOnly (maySet (.setTemplate g b)) s (doSetTemplate q s).2 := by
  unfold doSetTemplate
  (repeat' split) <;> exact ⟨⟨_, rfl⟩, bookLaw_of_tables rfl rfl⟩

theorem doSetRosterEntry_changesOnly (b : Body SetRosterReq) (q : SetRosterReq) (s : State) :
    ChangesOnly (maySet (.setRosterEntry g b)) s (doSetRosterEntry q s).2 := by
  unfold doSetRosterEntry
  (repeat' split) <;> exact ⟨⟨_, rfl⟩, bookLaw_of_tables rfl rfl⟩

/-- The operator check of OPENING writes nothing but the roster. -/
theorem openingCheck_changesOnly {b : Body OpeningReq} {x y : Nat} (h : openingCheck x y s = .ok t) :
    ChangesOnly (maySet (.opening g b)) s t := by
  unfold openingCheck at h
  (repeat' split at h) <;> cases h <;> exact ⟨⟨_, rfl⟩, bookLaw_of_tables rfl rfl⟩

theorem doOpening_changesOnly (b : Body OpeningReq) (q : OpeningReq) (s : State) :
    ChangesOnly (maySet (.opening g b)) s (doOpening q s).2 := by
  unfold doOpening
  split
  · exact ⟨⟨_, rfl⟩, id⟩
  · next ho =>
    have h := openingCheck_changesOnly (g := g) (b := b) ho
    dsimp only
    split
    · exact h
    · next hc => exact .pair (h.faithful ((Faithful.refl _).applyMovement hc).settle)

theorem doSetCoinLimit_changesOnly (b : Body Nat) (v : Nat) (s : State) :
    ChangesOnly (maySet (.setCoinLimit g b)) s (doSetCoinLimit v s).2 := by
  unfold doSetCoinLimit
  (repeat' split) <;> exact ⟨⟨_, rfl⟩, bookLaw_of_tables rfl rfl⟩

theorem doSetLine_changesOnly (b : Body SetLineReq) (q : SetLineReq) (s : State) :
    ChangesOnly (maySet (.setLine g b)) s (doSetLine q s).2 := by
  have h : ChangesOnly (maySet (.setLine g b)) s s := ⟨⟨_, rfl⟩, id⟩
  have hset : ∀ l, ChangesOnly (maySet (.setLine g b)) s { s with count := { s.count with settings := l } } :=
    fun l => ⟨⟨l, rfl⟩, bookLaw_of_tables rfl rfl⟩
  unfold doSetLine
  split
  · exact h
  split
  · exact h
  split
  · exact h
  dsimp only
  split
  · exact (hset _).faithful ((Faithful.refl _).kept (each_kept dropStation_kept _ _))
  · exact hset _

theorem doSetArbiter_changesOnly (b : Body SetArbiterReq) (q : SetArbiterReq) (s : State) :
    ChangesOnly (maySet (.setArbiter g b)) s (doSetArbiter q s).2 := by
  unfold doSetArbiter
  dsimp only
  (repeat' split) <;> exact ⟨⟨_, rfl⟩, bookLaw_of_tables rfl rfl⟩

@[simp] theorem dueThreshold_kept (c : Nat) (s : State) : (dueThreshold c s).kept = s.kept := by
  unfold dueThreshold; split <;> simp

theorem doSetFaultPolicy_changesOnly (b : Body SetFaultPolicyReq) (q : SetFaultPolicyReq) (s : State) :
    ChangesOnly (maySet (.setFaultPolicy g b)) s (doSetFaultPolicy q s).2 := by
  have h : ChangesOnly (maySet (.setFaultPolicy g b)) s s := ⟨⟨_, _, rfl⟩, id⟩
  have hset : ∀ x y, ChangesOnly (maySet (.setFaultPolicy g b)) s
      (s.setEvac { s.evac with threshold := x, leakNotes := y }) :=
    fun x y => ⟨⟨x, y, rfl⟩, bookLaw_of_tables rfl rfl⟩
  unfold doSetFaultPolicy
  split
  · exact h
  split
  · exact h
  · exact .pair ((hset _ _).faithful (Faithful.settle ((Faithful.refl _).kept (each_kept dueThreshold_kept _ _))))

theorem doSetEvacuation_changesOnly (b : Body SetEvacuationReq) (q : SetEvacuationReq) (s : State) :
    ChangesOnly (maySet (.setEvacuation g b)) s (doSetEvacuation q s).2 := by
  have h : ChangesOnly (maySet (.setEvacuation g b)) s s := ⟨⟨_, rfl⟩, id⟩
  have hset : ∀ e, ChangesOnly (maySet (.setEvacuation g b)) s (s.setEvac { s.evac with enables := e }) :=
    fun e => ⟨⟨e, rfl⟩, bookLaw_of_tables rfl rfl⟩
  unfold doSetEvacuation
  split
  · exact h
  split
  · exact h
  · exact .pair ((hset _).faithful (Faithful.refl _).settle)

theorem doSetDoorLimit_changesOnly (b : Body Nat) (v : Nat) (s : State) :
    ChangesOnly (maySet (.setDoorLimit g b)) s (doSetDoorLimit v s).2 := by
  have hset : ∀ n, ChangesOnly (maySet (.setDoorLimit g b)) s { s with bay := { s.bay with doorLimit := n } } :=
    fun n => ⟨⟨n, rfl⟩, bookLaw_of_tables rfl rfl⟩
  exact (hset _).faithful ((Faithful.refl _).kept ((checkHeld_kept ..).trans (checkHeld_kept ..)))

theorem doSetSafeRelock_changesOnly (b : Body Nat) (v : Nat) (s : State) :
    ChangesOnly (maySet (.setSafeRelock g b)) s (doSetSafeRelock v s).2 :=
  ⟨⟨_, rfl⟩, bookLaw_of_tables rfl rfl⟩

/-! ### Commands that are not plain requests -/

theorem execFetchPostings_faithful (b : Body Nat) (s : State) : ∃ t, execFetchPostings g b s = .next t ∧ Faithful s t := by
  have h := Faithful.request (c := 22) (g := g) (b := b) doFetchPostings_faithful s
  unfold execFetchPostings
  dsimp only
  (repeat' split) <;> exact ⟨_, rfl, h.kept⟩

theorem unknownRequest_faithful (c : Nat) (s : State) : ∃ t, execUnknownRequest c g s = .next t ∧ Faithful s t := by
  refine ⟨_, rfl, ?_⟩
  split
  · exact .refl s
  · exact Faithful.request (fun _ u => .refl u) s

theorem linkBusy_faithful (c : Nat) (s : State) : ∃ t, execLinkBusy c g s = .next t ∧ Faithful s t := by
  refine ⟨_, rfl, ?_⟩
  split
  · exact (Faithful.refl s).kept
  · exact .refl s

theorem clockTick_faithful (s : State) : ∃ t, execClockTick s = .next t ∧ Faithful s t := by
  refine ⟨_, rfl, ?_⟩
  split <;> exact (Faithful.refl s).kept

/-- A reading of a sensor, kept without power and acted on with it. -/
theorem reading_faithful {f g : State → State} (hf : Faithful s (f s)) (hg : Faithful s (g s)) :
    Faithful s (match s.powered with | false => f s | true => transmit (g s)) := by
  cases s.powered
  · exact hf
  · exact hg.kept

end Sys2Proof.Machine
end

section
/-! The whole command set: every step keeps the custody law (O12), and the settings change by their own requests (O21). -/

-- One theorem at a time: the whole text holds more theorems than the check has room for threads.
set_option Elab.async false

namespace Sys2Proof.Machine

variable {r s t : State}

theorem maySet_refl (c : Instr) (x : Settings) : maySet c x x := by
  unfold maySet
  split <;> first | exact ⟨_, rfl⟩ | exact ⟨_, _, rfl⟩ | exact rfl

/-! ### Queries whose reply depends on a check -/

theorem doQueryTill_state (n : Nat) (s : State) : (doQueryTill n s).2 = s := by
  unfold doQueryTill; split <;> rfl

theorem doQueryLot_state (n : Nat) (s : State) : (doQueryLot n s).2 = s := by
  unfold doQueryLot; (repeat' split) <;> rfl

theorem doQueryContainer_state (n : Nat) (s : State) : (doQueryContainer n s).2 = s := by
  unfold doQueryContainer; (repeat' split) <;> rfl

theorem doQueryConsignment_state (n : Nat) (s : State) : (doQueryConsignment n s).2 = s := by
  unfold doQueryConsignment; (repeat' split) <;> rfl

theorem Faithful.of_state (h : t = s) : Faithful s t := h ▸ .refl s

/-! ### Every command -/

theorem frameSent_faithful (s : State) : ∃ t, execFrameSent s = .next t ∧ Faithful s t := by
  refine ⟨_, rfl, Faithful.event ?_⟩
  split
  · exact (Faithful.refl s).frameDone
  · exact .refl s

theorem powerOn_faithful (b : Bool) (s : State) (hc : Instr.powerOn b ≠ .powerOn false) :
    ∃ t, execPowerOn b s = .next t ∧ Faithful s t := by
  obtain rfl : b = true := by cases b <;> simp at hc ⊢
  refine ⟨_, rfl, ?_⟩
  cases s.powered
  · exact powerUp_faithful s
  · exact .refl s

/-- Every command but a start with a lost store may change of the settings what its rule names, and keeps the custody law. -/
theorem exec_changesOnly (c : Instr) (s : State) (hc : c ≠ .powerOn false) :
    ∃ t, exec c s = .next t ∧ ChangesOnly (maySet c) s t := by
  have h := Faithful.refl s
  cases c with
  -- Book unit
  | setDenomination tag body => exact ⟨_, rfl, .request (maySet_refl _) (doSetDenomination_changesOnly body) s⟩
  | clearDenomination tag body => exact ⟨_, rfl, .request (maySet_refl _) (doClearDenomination_changesOnly body) s⟩
  | queryStock tag body => exact ⟨_, rfl, Faithful.request (fun _ u => .refl u) s⟩
  | queryPosition tag body => exact ⟨_, rfl, Faithful.request doQueryPosition_faithful s⟩
  | postPosition tag body => exact ⟨_, rfl, Faithful.request doPostPosition_faithful s⟩
  | setPostingMode tag body => exact ⟨_, rfl, Faithful.request doSetPostingMode_faithful s⟩
  | fetchPostings tag body => exact execFetchPostings_faithful body s
  | adjustPosition tag body => exact ⟨_, rfl, Faithful.request doAdjustPosition_faithful s⟩
  | opening tag body => exact ⟨_, rfl, .request (maySet_refl _) (doOpening_changesOnly body) s⟩
  -- Till desk
  | setTemplate tag body => exact ⟨_, rfl, .request (maySet_refl _) (doSetTemplate_changesOnly body) s⟩
  | buildFloat tag body => exact ⟨_, rfl, Faithful.request doBuildFloat_faithful s⟩
  | floatHanded tag body => exact ⟨_, rfl, Faithful.request doFloatHanded_faithful s⟩
  | acceptShort tag body => exact ⟨_, rfl, Faithful.request doAcceptShort_faithful s⟩
  | rebuild tag body => exact ⟨_, rfl, Faithful.request doRebuild_faithful s⟩
  | cancelBuild tag body => exact ⟨_, rfl, Faithful.request doCancelBuild_faithful s⟩
  | queryBuilds tag body => exact ⟨_, rfl, Faithful.request (fun _ u => .refl u) s⟩
  | reportSales tag body => exact ⟨_, rfl, Faithful.request doReportSales_faithful s⟩
  | acceptVariance tag body => exact ⟨_, rfl, Faithful.request doAcceptVariance_faithful s⟩
  | closeTill tag body => exact ⟨_, rfl, Faithful.request doCloseTill_faithful s⟩
  | queryTill tag body => exact ⟨_, rfl, Faithful.request (fun q u => .of_state (doQueryTill_state q u)) s⟩
  -- Count unit
  | setLine tag body => exact ⟨_, rfl, .request (maySet_refl _) (doSetLine_changesOnly body) s⟩
  | resetStation tag body => exact ⟨_, rfl, Faithful.request doResetStation_faithful s⟩
  | stationQuery tag body => exact ⟨_, rfl, Faithful.request doStationQuery_faithful s⟩
  | startCount tag body => exact ⟨_, rfl, Faithful.request doStartCount_faithful s⟩
  | declareCoin tag body => exact ⟨_, rfl, Faithful.request doDeclareCoin_faithful s⟩
  | setCoinLimit tag body => exact ⟨_, rfl, .request (maySet_refl _) (doSetCoinLimit_changesOnly body) s⟩
  | acceptCount tag body => exact ⟨_, rfl, Faithful.request doAcceptCount_faithful s⟩
  | rejectCount tag body => exact ⟨_, rfl, Faithful.request doRejectCount_faithful s⟩
  | voidLot tag body => exact ⟨_, rfl, Faithful.request doVoidLot_faithful s⟩
  | resumeDisposal tag body => exact ⟨_, rfl, Faithful.request doResumeDisposal_faithful s⟩
  | disposeLotReserve tag body => exact ⟨_, rfl, Faithful.request doDisposeLotReserve_faithful s⟩
  | queryLot tag body => exact ⟨_, rfl, Faithful.request (fun q u => .of_state (doQueryLot_state q u)) s⟩
  | queryJobs tag body => exact ⟨_, rfl, Faithful.request (fun _ u => .refl u) s⟩
  -- Recycler controller
  | setCassette tag body => exact ⟨_, rfl, Faithful.request doSetCassette_faithful s⟩
  | insertCassette tag body => exact ⟨_, rfl, Faithful.request doInsertCassette_faithful s⟩
  | removeCassette tag body => exact ⟨_, rfl, Faithful.request doRemoveCassette_faithful s⟩
  | setRoute tag body => exact ⟨_, rfl, Faithful.request doSetRoute_faithful s⟩
  | queryRecycler tag body => exact ⟨_, rfl, Faithful.request (fun _ u => .refl u) s⟩
  | setArbiter tag body => exact ⟨_, rfl, .request (maySet_refl _) (doSetArbiter_changesOnly body) s⟩
  | openFloatWindow tag body => exact ⟨_, rfl, Faithful.request doOpenFloatWindow_faithful s⟩
  | closeFloatWindow tag body => exact ⟨_, rfl, Faithful.request doCloseFloatWindow_faithful s⟩
  | queryArbiter tag body => exact ⟨_, rfl, Faithful.request (fun _ u => .refl u) s⟩
  | setFaultPolicy tag body => exact ⟨_, rfl, .request (maySet_refl _) (doSetFaultPolicy_changesOnly body) s⟩
  | clearBucket tag body => exact ⟨_, rfl, Faithful.request doClearBucket_faithful s⟩
  | setEvacuation tag body => exact ⟨_, rfl, .request (maySet_refl _) (doSetEvacuation_changesOnly body) s⟩
  | startEvacuation tag body => exact ⟨_, rfl, Faithful.request doStartEvacuation_faithful s⟩
  | queryEvacuation tag body => exact ⟨_, rfl, Faithful.request (fun _ u => .refl u) s⟩
  -- Bay controller
  | openBag tag body => exact ⟨_, rfl, Faithful.request doOpenBag_faithful s⟩
  | fillBag tag body => exact ⟨_, rfl, Faithful.request doFillBag_faithful s⟩
  | closeBag tag body => exact ⟨_, rfl, Faithful.request doCloseBag_faithful s⟩
  | discardContainer tag body => exact ⟨_, rfl, Faithful.request doDiscardContainer_faithful s⟩
  | createConsignment tag body => exact ⟨_, rfl, Faithful.request doCreateConsignment_faithful s⟩
  | addItem tag body => exact ⟨_, rfl, Faithful.request doAddItem_faithful s⟩
  | stage tag body => exact ⟨_, rfl, Faithful.request doStage_faithful s⟩
  | engage tag body => exact ⟨_, rfl, Faithful.request doEngage_faithful s⟩
  | retrieve tag body => exact ⟨_, rfl, Faithful.request doRetrieve_faithful s⟩
  | lockBay tag body => exact ⟨_, rfl, Faithful.request doLockBay_faithful s⟩
  | abort tag body => exact ⟨_, rfl, Faithful.request doAbort_faithful s⟩
  | setDoorLimit tag body => exact ⟨_, rfl, .request (maySet_refl _) (doSetDoorLimit_changesOnly body) s⟩
  | queryContainer tag body => exact ⟨_, rfl, Faithful.request (fun q u => .of_state (doQueryContainer_state q u)) s⟩
  | queryConsignment tag body => exact ⟨_, rfl, Faithful.request (fun q u => .of_state (doQueryConsignment_state q u)) s⟩
  | queryBay tag body => exact ⟨_, rfl, Faithful.request (fun _ u => .refl u) s⟩
  -- Office control
  | enterHold tag body => exact ⟨_, rfl, Faithful.request doEnterHold_faithful s⟩
  | leaveHold tag body => exact ⟨_, rfl, Faithful.request doLeaveHold_faithful s⟩
  | setRosterEntry tag body => exact ⟨_, rfl, .request (maySet_refl _) (doSetRosterEntry_changesOnly body) s⟩
  | openSafe tag body => exact ⟨_, rfl, Faithful.request doOpenSafe_faithful s⟩
  | closeSafe tag body => exact ⟨_, rfl, Faithful.request doCloseSafe_faithful s⟩
  | setSafeRelock tag body => exact ⟨_, rfl, .request (maySet_refl _) (doSetSafeRelock_changesOnly body) s⟩
  | setClock tag body => exact ⟨_, rfl, Faithful.request doSetClock_faithful s⟩
  | clearFaultRecord tag body => exact ⟨_, rfl, Faithful.request doClearFaultRecord_faithful s⟩
  -- Link unit
  | getStatus tag body => exact ⟨_, rfl, Faithful.request doGetStatus_faithful s⟩
  | restart tag body => exact ⟨_, rfl, Faithful.request doRestart_faithful s⟩
  | unknownRequest code tag => exact unknownRequest_faithful code s
  | linkBusy code tag => exact linkBusy_faithful code s
  | droppedFrame reason => exact ⟨_, rfl, Faithful.event h.kept⟩
  | byteGapTimeout => exact ⟨_, rfl, Faithful.event h.kept⟩
  | lineBreak => exact ⟨_, rfl, Faithful.event h.kept⟩
  | frameSent => exact frameSent_faithful s
  -- Power and time
  | powerOn storeGood => exact powerOn_faithful storeGood s hc
  | powerLoss => exact ⟨_, rfl, h.kept rfl⟩
  | clockTick => exact clockTick_faithful s
  | windowOpen consignment => exact ⟨_, rfl, Faithful.event h.kept⟩
  | windowClose consignment => exact ⟨_, rfl, Faithful.event h.kept⟩
  | floatWindowExpiry => exact ⟨_, rfl, Faithful.event h.kept⟩
  | heldOpen door => exact ⟨_, rfl, Faithful.event h.kept⟩
  | courierDoorTimeout => exact ⟨_, rfl, Faithful.event h.courierLate⟩
  | relockTime => exact ⟨_, rfl, Faithful.event h.relockDue⟩
  -- Safe and bay sensors and readers
  | safeSensorOpen => exact ⟨_, rfl, reading_faithful h.kept h.safeReadsOpen⟩
  | safeSensorClosed => exact ⟨_, rfl, reading_faithful h.kept h.safeReadsClosed⟩
  | officeDoorOpened => exact ⟨_, rfl, reading_faithful h.kept h.kept⟩
  | officeDoorClosed =>
    exact ⟨_, rfl, reading_faithful (g := fun u => bayAfter (sensorClosed .office u)) (h.kept (doorReading_kept ..)) h.kept⟩
  | courierDoorOpened => exact ⟨_, rfl, reading_faithful h.kept h.kept⟩
  | courierDoorClosed => exact ⟨_, rfl, reading_faithful h.kept h.courierCloses⟩
  | officeSideRead number => exact ⟨_, rfl, Faithful.event h.kept⟩
  | courierSideRead number => exact ⟨_, rfl, Faithful.event h.courierRead⟩
  -- Station line
  | pollCycle => exact ⟨_, rfl, Faithful.event h.kept⟩
  | attachMark => exact ⟨_, rfl, Faithful.event h.kept⟩
  | recordSent signals => exact ⟨_, rfl, Faithful.event (h.inTurn fun _ => h.kept)⟩
  | replyTimeout => exact ⟨_, rfl, Faithful.event (h.inTurn fun _ => h.kept)⟩
  | recordGapTimeout signals => exact ⟨_, rfl, Faithful.event (h.inTurn fun _ => h.kept)⟩
  | failedRecord signals => exact ⟨_, rfl, Faithful.event (h.inTurn fun _ => h.kept)⟩
  | stationState station signals mech stack => exact ⟨_, rfl, Faithful.event (h.inTurn fun _ => h.fromStation fun _ k => k.goodState)⟩
  | reportHead station signals head => exact ⟨_, rfl, Faithful.event (h.inTurn fun _ => h.fromStation fun _ k => k.kept)⟩
  | reportItem station signals item => exact ⟨_, rfl, Faithful.event (h.inTurn fun _ => h.fromStation fun _ k => k.kept)⟩
  | reportEnd station signals last => exact ⟨_, rfl, Faithful.event (h.inTurn fun _ => h.fromStation fun _ k => k.kept)⟩
  | reportQuietTimeout => exact ⟨_, rfl, Faithful.event (h.inTurn fun _ => h.kept)⟩
  | reportRecordTimeout => exact ⟨_, rfl, Faithful.event (h.inTurn fun _ => h.kept)⟩
  -- Recycler mechanism
  | noteRead point reading => exact ⟨_, rfl, Faithful.event h.readNote⟩
  | noteArrived dest => exact ⟨_, rfl, Faithful.event h.noteArrives⟩
  | misfeed point => exact ⟨_, rfl, Faithful.event (.ite (Faithful.settle h.kept) h)⟩
  | doublePick point => exact ⟨_, rfl, Faithful.event (.ite (Faithful.settle h.kept) h)⟩
  | jam point => exact ⟨_, rfl, Faithful.event (Faithful.settle h.kept)⟩
  | moduleFault module => exact ⟨_, rfl, Faithful.event (Faithful.settle h.kept)⟩
  | moduleFaultCleared module => exact ⟨_, rfl, Faithful.event h.kept⟩
  | headEmpty i => exact ⟨_, rfl, Faithful.event h.headEmpties⟩
  | headLoaded i => exact ⟨_, rfl, Faithful.event h.kept⟩
  | tagCheckDone module tags => exact ⟨_, rfl, Faithful.event h.tagsRead⟩
  | purgeEnded clear notes => exact ⟨_, rfl, Faithful.event h.purgeOver⟩

/-- Every command keeps the custody law. -/
theorem bookLaw_exec {c : Instr} (h : exec c s = .next t) (hs : s.bookLaw) : t.bookLaw := by
  by_cases hc : c = .powerOn false
  · subst hc
    rw [← Host.Outcome.next.inj h]
    cases s.powered
    · exact bookLaw_powerUp_storeLoss s
    · exact hs
  · obtain ⟨u, hu, hk⟩ := exec_changesOnly c s hc
    rw [hu] at h
    exact Host.Outcome.next.inj h ▸ hk.2 hs

theorem maySet_exec {c : Instr} (h : exec c s = .next t) (hc : c ≠ .powerOn false) :
    maySet c s.settings t.settings := by
  obtain ⟨u, hu, hk⟩ := exec_changesOnly c s hc
  rw [hu] at h
  exact Host.Outcome.next.inj h ▸ hk.1

/-! ### What each setting may change by -/

section
variable {c : Instr} {x y : Settings}

theorem maySet_denoms (h : maySet c x y) (h1 : ∀ g b, c ≠ .setDenomination g b) (h2 : ∀ g b, c ≠ .clearDenomination g b) :
    y.denoms = x.denoms ∧ ((∀ g b, c ≠ .setTemplate g b) → y.templates = x.templates) := by
  unfold maySet at h
  split at h
  · exact absurd rfl (h1 _ _)
  · exact absurd rfl (h2 _ _)
  · obtain ⟨l, rfl⟩ := h; exact ⟨rfl, fun h3 => absurd rfl (h3 _ _)⟩
  all_goals first
    | (obtain ⟨_, rfl⟩ := h; exact ⟨rfl, fun _ => rfl⟩)
    | (obtain ⟨_, _, rfl⟩ := h; exact ⟨rfl, fun _ => rfl⟩)

theorem maySet_roster (h : maySet c x y) (h1 : ∀ g b, c ≠ .setRosterEntry g b) (h2 : ∀ g b, c ≠ .opening g b) :
    y.roster = x.roster := by
  unfold maySet at h
  split at h <;> first
    | exact absurd rfl (h1 _ _) | exact absurd rfl (h2 _ _)
    | (obtain ⟨_, rfl⟩ := h; rfl) | (obtain ⟨_, _, rfl⟩ := h; rfl)

theorem maySet_coinLimit (h : maySet c x y) (h1 : ∀ g b, c ≠ .setCoinLimit g b) : y.coinLimit = x.coinLimit := by
  unfold maySet at h
  split at h <;> first
    | exact absurd rfl (h1 _ _) | (obtain ⟨_, rfl⟩ := h; rfl) | (obtain ⟨_, _, rfl⟩ := h; rfl)

theorem maySet_line (h : maySet c x y) (h1 : ∀ g b, c ≠ .setLine g b) : y.line = x.line := by
  unfold maySet at h
  split at h <;> first
    | exact absurd rfl (h1 _ _) | (obtain ⟨_, rfl⟩ := h; rfl) | (obtain ⟨_, _, rfl⟩ := h; rfl)

theorem maySet_arbiter (h : maySet c x y) (h1 : ∀ g b, c ≠ .setArbiter g b) : y.arbiter = x.arbiter := by
  unfold maySet at h
  split at h <;> first
    | exact absurd rfl (h1 _ _) | (obtain ⟨_, rfl⟩ := h; rfl) | (obtain ⟨_, _, rfl⟩ := h; rfl)

theorem maySet_enables (h : maySet c x y) (h1 : ∀ g b, c ≠ .setEvacuation g b) : y.enables = x.enables := by
  unfold maySet at h
  split at h <;> first
    | exact absurd rfl (h1 _ _) | (obtain ⟨_, rfl⟩ := h; rfl) | (obtain ⟨_, _, rfl⟩ := h; rfl)

theorem maySet_doorLimit (h : maySet c x y) (h1 : ∀ g b, c ≠ .setDoorLimit g b) : y.doorLimit = x.doorLimit := by
  unfold maySet at h
  split at h <;> first
    | exact absurd rfl (h1 _ _) | (obtain ⟨_, rfl⟩ := h; rfl) | (obtain ⟨_, _, rfl⟩ := h; rfl)

theorem maySet_relockTime (h : maySet c x y) (h1 : ∀ g b, c ≠ .setSafeRelock g b) : y.relockTime = x.relockTime := by
  unfold maySet at h
  split at h <;> first
    | exact absurd rfl (h1 _ _) | (obtain ⟨_, rfl⟩ := h; rfl) | (obtain ⟨_, _, rfl⟩ := h; rfl)

theorem maySet_policy (h : maySet c x y) (h1 : ∀ g b, c ≠ .setFaultPolicy g b) :
    y.threshold = x.threshold ∧ y.leakNotes = x.leakNotes := by
  unfold maySet at h
  split at h <;> first
    | exact absurd rfl (h1 _ _)
    | (obtain ⟨_, rfl⟩ := h; exact ⟨rfl, rfl⟩)
    | (obtain ⟨_, _, rfl⟩ := h; exact ⟨rfl, rfl⟩)

end

end Sys2Proof.Machine

open Sys2Proof Sys2Proof.Machine

/-- Settles O12: every operation of the model moves counts by movements and notes that fit, or leaves the custody part of the
book as it is. -/
theorem stepKeepsCustodyTotals : Obligations.StepKeepsCustodyTotals := by
  intro s t hs ht
  unfold step at ht
  split at ht
  · rw [← Host.Outcome.next.inj ht]
    exact (Faithful.refl s).idle.2 hs
  · exact bookLaw_exec ht hs

/-- Settles O21: the settings that each command may change are those that `maySet` names for it. -/
theorem settingsChangeOnlyByTheirRequests : Obligations.SettingsChangeOnlyByTheirRequests := by
  intro c s t ht hc
  have h := maySet_exec ht hc
  exact ⟨maySet_denoms h, maySet_roster h, maySet_coinLimit h, maySet_line h, maySet_arbiter h, maySet_enables h,
    maySet_policy h, maySet_doorLimit h, maySet_relockTime h⟩
end

section
/-! The queries (O25), the denomination table (O24) and BUILD FLOAT (O32). -/

-- One theorem at a time: the whole text holds more theorems than the check has room for threads.
set_option Elab.async false

namespace Sys2Proof.Machine

variable {s : State}

/-- A request at a controller that is ready is answered with its block's outcome. -/
theorem request_ready {α : Type} {c g : Nat} {a : α} {f : α → State → Reply × State} {r : Reply} {t : State}
    (hs : s.ready) (hf : f a (heard s) = (r, t)) : request c g (.good a) f s = respond c g r t := by
  obtain ⟨hp, hi, hst⟩ := hs
  rw [request_good c g a f s hp hi hst, hf]

theorem exec_ready {α : Type} {c g : Nat} {a : α} {f : α → State → Reply × State} {i : Instr} {r : Reply} {t : State}
    (hs : s.ready) (hx : exec i s = .next (request c g (.good a) f s)) (hf : f a (heard s) = (r, t)) :
    exec i s = .next (respond c g r t) := hx.trans (congrArg _ (request_ready hs hf))

/-! ### Queries -/

/-- A query whose block answers OK and changes nothing. -/
theorem query_answered {α : Type} {c g : Nat} {a : α} {f : α → State → Reply × State} {i : Instr} (hs : s.ready)
    (hx : exec i s = .next (request c g (.good a) f s)) (hr : (f a (heard s)).1.status = .ok)
    (hf : (f a (heard s)).2 = heard s) : ∃ r : Reply, r.status = .ok ∧ exec i s = .next (respond c g r (heard s)) :=
  ⟨_, hr, exec_ready hs hx (Prod.ext rfl hf)⟩

theorem doQueryPosition_peek {p : Nat} (hp : p ≤ 176) (s : State) :
    doQueryPosition ⟨p, some .peek⟩ s = (okReply (positionFields (s.posRec p)), s) := by
  simp [doQueryPosition, Nat.not_lt.mpr hp]

theorem doQueryTill_ok {n : Nat} (hn : n ≤ 255) (s : State) : (doQueryTill n s).1.status = .ok := by
  rw [doQueryTill, if_neg (Nat.not_lt.mpr hn)]; rfl

theorem doQueryLot_ok {n : Nat} (hn : n ≤ 63) (s : State) : (doQueryLot n s).1.status = .ok := by
  rw [doQueryLot, if_neg (Nat.not_lt.mpr hn)]
  split <;> rfl

theorem doQueryContainer_ok {n : Nat} (hn : n ≤ 95) (s : State) : (doQueryContainer n s).1.status = .ok := by
  rw [doQueryContainer, if_neg (Nat.not_lt.mpr hn)]
  split <;> rfl

theorem doQueryConsignment_ok {n : Nat} (hn : n ≤ 7) (s : State) : (doQueryConsignment n s).1.status = .ok := by
  rw [doQueryConsignment, if_neg (Nat.not_lt.mpr hn)]
  split <;> rfl

/-! ### The denomination table -/

/-- A record that no check of R3 holds back takes the fields asked for. -/
theorem doSetDenomination_defines {q : SetDenominationReq} (hm : s.office.mode = .hold) (hi : q.index ≤ 11)
    (hr : specInRange q.spec = true) (hc : s.specCoin q.index q.spec = true)
    (hf : (s.specRecord q.spec).face ≤ 1000000) (hne : s.denom q.index ≠ s.specRecord q.spec)
    (hfree : s.isDefined q.index = true → s.denomInUse q.index = false ∧
      (s.isCoin q.index = true → s.coinNamed q.index = false)) :
    doSetDenomination q s = (okReply [], defineDenom q.index (s.specRecord q.spec) s) := by
  have huse : ¬(s.isDefined q.index = true ∧
      (s.denomInUse q.index = true ∨ s.coinChanged q.index (s.specRecord q.spec) = true)) := fun ⟨hd, hu⟩ => by
    obtain ⟨h1, h2⟩ := hfree hd
    rw [h1, State.coinChanged] at hu
    simp only [Bool.false_eq_true, false_or, Bool.and_eq_true] at hu
    obtain ⟨⟨h3, h4⟩, -⟩ := hu
    rw [h2 h3] at h4; cases h4
  have hmax : ¬Config.maxFace < (s.specRecord q.spec).face := Nat.not_lt.mpr hf
  unfold doSetDenomination
  rw [if_neg (by simp [hm]), if_neg (by simp [hr]; omega), if_neg (by simp [hc])]
  dsimp only
  rw [if_neg hmax, if_neg (Ne.symm hne), if_neg huse]

theorem doSetDenomination_repeats {i f : Nat} (hm : s.office.mode = .hold) (hi : i ≤ 11) (h1 : 1 ≤ f) (h2 : f ≤ 1000000)
    (h : s.denom i = .note f) : doSetDenomination ⟨i, .note f⟩ s = (okReply [], s) := by
  have hmax : ¬Config.maxFace < (DenomRec.note f).face := Nat.not_lt.mpr h2
  have hr : specInRange (.note f) = true := by simp [specInRange, h1, h2, Config.maxFace]
  unfold doSetDenomination
  rw [if_neg (by simp [hm]), if_neg (by simp [hr]; omega), if_neg (by simp [State.specCoin])]
  dsimp only [State.specRecord]
  rw [if_neg hmax, if_pos h.symm]

theorem doClearDenomination_clears {i : Nat} (hm : s.office.mode = .hold) (hi : i ≤ 11)
    (hfree : s.isDefined i = true → s.denomInUse i = false ∧ (s.isCoin i = true → s.coinNamed i = false)) :
    doClearDenomination i s = (okReply [],
      if s.isDefined i = true then dropRanges i (dropTemplateEntries i (s.setDenom i .empty)) else s) := by
  have huse : ¬(s.isDefined i = true ∧ (s.denomInUse i = true ∨ s.isCoin i = true ∧ s.coinNamed i = true)) :=
    fun ⟨hd, hu⟩ => by
      obtain ⟨h1, h2⟩ := hfree hd
      rw [h1] at hu
      obtain ⟨h3, h4⟩ := hu.resolve_left (by simp)
      rw [h2 h3] at h4; cases h4
  unfold doClearDenomination
  rw [if_neg (by simp [hm]), if_neg (Nat.not_lt.mpr hi), if_neg huse]
  cases s.isDefined i <;> rfl

/-! ### BUILD FLOAT -/

/-- BUILD FLOAT passes its checks: the plan takes the lowest free slot. -/
theorem doBuildFloat_accepts {n c k total short : Nat} {t : Template} {plan : Counts} (hm : s.office.mode = .trading)
    (hn : n ≤ 255) (hc : c ≤ 7) (hcl : (s.till n).state = .closed) (ht : s.template c = some t) (hk : freeSlot s = some k)
    (hu : s.makeUpFor t = .accepted plan total short) (ho : s.overReserved k plan = none) :
    doBuildFloat ⟨n, c⟩ s = (acceptedReply ([u1 k, outcomeField short] ++ countFields plan ++ [u5 total]),
      settle (startBuildFloat k ⟨n, c⟩ t plan total short s)) := by
  unfold doBuildFloat
  rw [if_neg (by simp [hm]), if_neg (by simp only [not_or]; omega), if_neg (by simp [hcl])]
  simp only [ht, hk, hu, ho]

/-- Where the slot has no entry, a reservation joins the list's end (R17). -/
theorem reserve_new {k n : Nat} {c : Counts} (h : s.resEntry k = none) : reserve k n c s =
    { s with book := { s.book with reservations := s.book.reservations ++ [⟨k, n, c, Marks.clear⟩] } } := by
  unfold reserve; rw [h]

/-- Where it has one, the entry takes the new counts in its place (R19). -/
theorem reserve_again {k n : Nat} {c : Counts} {e : ResEntry} (h : s.resEntry k = some e) :
    reserve k n c s = changeEntry k (fun e => { e with counts := c, cut := Marks.clear }) s := by
  unfold reserve; rw [h]

/-- An accepted plan in a free slot without an entry (R17, R50, R56). -/
theorem startBuildFloat_new {n c k total short : Nat} {t : Template} {plan : Counts} (h : s.resEntry k = none) :
    startBuildFloat k ⟨n, c⟩ t plan total short s =
      let u := (({ s with
          book := { s.book with reservations := s.book.reservations ++ [⟨k, n, plan, Marks.clear⟩] } } : State).setBuild k
        (some ⟨.planned, n, s.nextAge, t.target, t.short, t.entries, plan, Counts.zero, s.notesOf plan, total, none,
          Marks.clear, none, none, none⟩)).setTill n { s.till n with state := .building, cls := c }
      if short = 0 then u else notify (.buildShort k n .withinTolerance none total 0 short) u := by
  rw [startBuildFloat, reserve_new h]; rfl

end Sys2Proof.Machine

open Sys2Proof Sys2Proof.Machine

/-- Settles O25: each query's block answers OK with the state it got. -/
theorem queriesChangeNothing : Obligations.QueriesChangeNothing := by
  intro tag s c code hs hcode hq
  rcases hq with rfl | rfl | rfl | rfl | rfl | rfl | rfl | ⟨p, hp, rfl⟩ | ⟨n, hn, rfl⟩ | ⟨n, hn, rfl⟩ | ⟨n, hn, rfl⟩ |
    ⟨n, hn, rfl⟩ <;> cases hcode
  · exact query_answered (f := doQueryStock) hs rfl rfl rfl
  · exact query_answered (f := doQueryBuilds) hs rfl rfl rfl
  · exact query_answered (f := doQueryJobs) hs rfl rfl rfl
  · exact query_answered (f := doQueryRecycler) hs rfl rfl rfl
  · exact query_answered (f := doQueryArbiter) hs rfl rfl rfl
  · exact query_answered (f := doQueryEvacuation) hs rfl rfl rfl
  · exact query_answered (f := doQueryBay) hs rfl rfl rfl
  · exact query_answered hs rfl (by rw [doQueryPosition_peek hp]; rfl) (by rw [doQueryPosition_peek hp])
  · exact query_answered hs rfl (doQueryTill_ok hn _) (doQueryTill_state ..)
  · exact query_answered hs rfl (doQueryLot_ok hn _) (doQueryLot_state ..)
  · exact query_answered hs rfl (doQueryContainer_ok hn _) (doQueryContainer_state ..)
  · exact query_answered hs rfl (doQueryConsignment_ok hn _) (doQueryConsignment_state ..)

/-- Settles O24: no check of R3 or R4 holds the request back, and the record's kind decides what else it loses. -/
theorem denominationRequestsSetTheTable : Obligations.DenominationRequestsSetTheTable := by
  intro tag i s hs hm hi
  refine ⟨fun f h1 h2 hd => ?_, fun hfree => ⟨fun f h1 h2 hne => ?_, fun f h1 h2 hne => ?_,
    fun c n f hc hci hc11 hn1 hn2 hnf hne => ?_, ?_⟩⟩
  · exact exec_ready hs rfl (doSetDenomination_repeats (s := heard s) hm hi h1 h2 hd)
  · exact exec_ready hs rfl (doSetDenomination_defines (s := heard s) (q := ⟨i, .note f⟩) hm hi
      (by simp [specInRange, h1, h2, Config.maxFace]) rfl h2 hne hfree)
  · exact exec_ready hs rfl (doSetDenomination_defines (s := heard s) (q := ⟨i, .coin f⟩) hm hi
      (by simp [specInRange, h1, h2, Config.maxFace]) rfl h2 hne hfree)
  · have hrec : (heard s).specRecord (.roll c n) = .roll c n (n * f) := by
      simp [State.specRecord, State.face, hc, DenomRec.face]
    have hcoin : (heard s).specCoin i (.roll c n) = true := by
      simp [State.specCoin, State.isCoin, hc, DenomRec.kind, hci]; omega
    have hdo := doSetDenomination_defines (s := heard s) (q := ⟨i, .roll c n⟩) hm hi (by simp [specInRange, hn1, hn2]) hcoin
      (by rw [hrec]; exact hnf) (by rw [hrec]; exact hne) hfree
    rw [hrec] at hdo
    exact exec_ready hs rfl hdo
  · exact exec_ready hs rfl (doClearDenomination_clears (s := heard s) hm hi hfree)

/-- Settles O32: every check passes, the slot has no entry yet, and the notice depends on the shortfall. -/
theorem buildFloatPlansAndReserves : Obligations.BuildFloatPlansAndReserves := by
  intro tag n c k t plan total short s hs hm hn hc hcl ht hk he hu ho
  have hdo := doBuildFloat_accepts (s := heard s) hm hn hc hcl ht hk hu ho
  rw [startBuildFloat_new (s := heard s) he, heard_nextAge, heard_notesOf, heard_till] at hdo
  intro u
  rw [exec_ready hs rfl hdo]
  rfl
end

section
/-! A state that keeps the law of reservations as it is written, and a step that breaks it (O19). -/

-- One theorem at a time: the whole text holds more theorems than the check has room for threads.
set_option Elab.async false

namespace Sys2Proof.Machine

/-- Five notes of denomination 0. -/
def fiveNotes : Counts := Counts.put Counts.zero 0 5

/-- A book with five notes of denomination 0 recorded in a FREE container slot, and five of them reserved. -/
def bookWithSlotNotes : Book :=
  { Book.initial with
    denoms := Book.initial.denoms.set 0 (.note 100)
    positions := Book.initial.positions.set (containerPos 0) { PosRec.free with counts := fiveNotes }
    reservations := [⟨0, 0, fiveNotes, Marks.clear⟩] }

/-- A recycler in service whose cassette 0 recycles denomination 0. -/
def recyclerInService : Recycler :=
  { Recycler.initial with
    modules := Tab.fill 2 ⟨.inService, .tags, false⟩
    cassettes := Recycler.initial.cassettes.set 0
      { CasRec.vacant with present := true, role := .recycle, denom := some 0, capacity := 100 } }

/-- An evacuation whose record names as its spare no cassette but the number 77: the position that goes with it is that of
container slot 0, so that the FREE slot's notes are eligible stock. An OPEN BAG waits. The law of reservations holds: it says
neither that a spare is a cassette nor that a FREE slot is empty. -/
def spareBeyondCassettes : State :=
  { State.reset with
    pending := [.openBag 1 (.good 1)]
    book := bookWithSlotNotes
    recycler := recyclerInService
    evac := { Evacuation.initial with state := .active, source := some 0, spare := some 77 } }

/-- The state after the OPEN BAG: it claims container slot 0, and no cut follows. -/
def bagOpenedOverSpare : State := request 80 1 (.good 1) doOpenBag { spareBeyondCassettes with pending := [] }

theorem spareBeyondCassettes_reservationLaw : spareBeyondCassettes.reservationLaw := by
  unfold State.reservationLaw
  decide +kernel

theorem step_spareBeyondCassettes : step spareBeyondCassettes = .next bagOpenedOverSpare := rfl

theorem bagOpenedOverSpare_reserved :
    bagOpenedOverSpare.reserved 0 = 5 ∧ bagOpenedOverSpare.eligible 0 = 0 := by decide +kernel

end Sys2Proof.Machine

open Sys2Proof Sys2Proof.Machine

/-- Refutes O19: the law of reservations alone is not kept by every step. In `spareBeyondCassettes` the reserved notes are
those of a FREE container slot that the evacuation's record takes for its spare; OPEN BAG claims the slot, which empties it,
and makes no cut. -/
theorem not_stepKeepsReservationsAndOpenLots : ¬ Obligations.StepKeepsReservationsAndOpenLots := by
  rintro ⟨hres, -⟩
  have h := hres _ _ spareBeyondCassettes_reservationLaw step_spareBeyondCassettes 0 (by decide)
  obtain ⟨hr, he⟩ := bagOpenedOverSpare_reserved
  rw [hr, he] at h
  exact absurd h (by decide)
end

section
/-! A checked movement applied whole: its number, the records it touches, and the rest of the state (O22). -/

-- One theorem at a time: the whole text holds more theorems than the check has room for threads.
set_option Elab.async false

namespace Sys2Proof.Machine

variable {s t u : State} {m : Movement}

/-! ### The book's other fields -/

/-- The fields of the book that posting a movement leaves as they are. -/
structure Ledger where
  denoms : Tab 12 DenomRec
  opening : Bool
  moveCounter : Nat
  reservations : List ResEntry

def State.ledger (s : State) : Ledger := ⟨s.book.denoms, s.book.opening, s.book.moveCounter, s.book.reservations⟩

theorem ledger_of_book (h : t.book = s.book) : t.ledger = s.ledger := by simp only [State.ledger, h]

theorem posRec_of_book (h : t.book = s.book) (p : Nat) : t.posRec p = s.posRec p := by simp only [State.posRec, h]

@[simp] theorem ledger_setPosRec (p : Nat) (x : PosRec) (s : State) : (s.setPosRec p x).ledger = s.ledger := rfl

@[simp] theorem ledger_queueEntry (b : EntryBody) (s : State) : (queueEntry b s).ledger = s.ledger := by
  unfold queueEntry
  split
  · rfl
  · dsimp only
    split
    · exact (ledger_of_book (notify_book ..)).trans rfl
    · rfl

theorem posRec_queueEntry (b : EntryBody) (s : State) (p : Nat) : (queueEntry b s).posRec p = s.posRec p := by
  unfold queueEntry
  split
  · rfl
  · dsimp only
    split
    · exact (posRec_of_book (notify_book ..) p).trans rfl
    · rfl

/-! ### Numbering and posting -/

@[simp] theorem ledger_stampSide (x : Side) (n : Nat) (s : State) : (stampSide x n s).ledger = s.ledger := by
  cases x <;> rfl

@[simp] theorem ledger_postSide (x : Side) (m : Movement) (n : Nat) (s : State) :
    (postSide x m n s).ledger = s.ledger := by
  cases x with
  | pos p => simp only [postSide]; (repeat' split) <;> simp
  | _ => rfl

theorem posRec_stampSide_ne {x : Side} {p : Nat} (h : x ≠ .pos p) (n : Nat) (s : State) :
    (stampSide x n s).posRec p = s.posRec p := by
  cases x with
  | pos i => exact posRec_setPosRec_ne s i p _ fun hi => h (congrArg Side.pos hi)
  | _ => rfl

theorem posRec_postSide_ne {x : Side} {p : Nat} (h : x ≠ .pos p) (m : Movement) (n : Nat) (s : State) :
    (postSide x m n s).posRec p = s.posRec p := by
  cases x with
  | pos i =>
    have hi : i ≠ p := fun hi => h (congrArg Side.pos hi)
    simp only [postSide]
    (repeat' split) <;> first | exact posRec_setPosRec_ne _ i p _ hi | exact posRec_queueEntry ..
  | _ => rfl

/-- The last movement number of a position's record. -/
def State.stamp (s : State) (p : Nat) : Nat := (s.posRec p).lastMove

theorem stamp_stampSide_self {p : Nat} (hp : p < 177) (n : Nat) (s : State) : (stampSide (.pos p) n s).stamp p = n :=
  congrArg PosRec.lastMove (posRec_setPosRec_self s p _ hp)

theorem stamp_stampSide_ne {x : Side} {p : Nat} (h : x ≠ .pos p) (n : Nat) (s : State) :
    (stampSide x n s).stamp p = s.stamp p := congrArg PosRec.lastMove (posRec_stampSide_ne h n s)

/-- A position's record with its own number again has its own number everywhere. -/
theorem stamp_setPosRec {x : PosRec} {i : Nat} (h : x.lastMove = (s.posRec i).lastMove) (p : Nat) :
    (s.setPosRec i x).stamp p = s.stamp p := by
  by_cases hip : i = p
  · subst hip
    by_cases hi : i < 177
    · exact (congrArg PosRec.lastMove (posRec_setPosRec_self s i x hi)).trans h
    · have : s.setPosRec i x = s := by simp [State.setPosRec, Tab.set_out _ _ _ (Nat.le_of_not_lt hi)]
      rw [this]
  · exact congrArg PosRec.lastMove (posRec_setPosRec_ne s i p x hip)

theorem stamp_postSide (x : Side) (m : Movement) (n : Nat) (s : State) (p : Nat) :
    (postSide x m n s).stamp p = s.stamp p := by
  cases x with
  | pos i =>
    simp only [postSide]
    (repeat' split) <;> first
      | exact congrArg PosRec.lastMove (posRec_queueEntry ..) | exact stamp_setPosRec (by rfl) p
  | _ => rfl

theorem ledger_numberAndPost (m : Movement) (s : State) :
    (numberAndPost m s).ledger = { s.ledger with moveCounter := s.nextMove } := by
  simp only [numberAndPost, ledger_postSide, ledger_stampSide]; rfl

theorem posRec_numberAndPost_ne {p : Nat} (h1 : m.src ≠ .pos p) (h2 : m.dst ≠ .pos p) :
    (numberAndPost m s).posRec p = s.posRec p := by
  simp only [numberAndPost, posRec_postSide_ne h2, posRec_postSide_ne h1, posRec_stampSide_ne h2, posRec_stampSide_ne h1]
  rfl

/-- The positions that the movement touches carry its number (R26, R28). -/
theorem stamp_numberAndPost (m : Movement) (s : State) {p : Nat} (hp : p < 177) :
    (numberAndPost m s).stamp p = if m.src = .pos p ∨ m.dst = .pos p then s.nextMove else s.stamp p := by
  simp only [numberAndPost, stamp_postSide]
  by_cases h2 : m.dst = .pos p
  · rw [if_pos (.inr h2), h2, stamp_stampSide_self hp]
  · rw [stamp_stampSide_ne h2]
    by_cases h1 : m.src = .pos p
    · rw [if_pos (.inl h1), h1, stamp_stampSide_self hp]
    · rw [if_neg (by simp [h1, h2]), stamp_stampSide_ne h1]; rfl

/-! ### The counts, before the cut -/

/-- What a movement does to the entries of the reservation list (R18). -/
theorem ledger_moveCounts (m : Movement) (s : State) : (moveCounts m s).ledger = { s.ledger with
    reservations := s.book.reservations.map fun e =>
      if m.kind = .issue ∧ m.src = .pos reservePos ∧ m.slot = some e.slot
      then { e with counts := Counts.sub e.counts (pairCounts m.pairs) } else e } := by
  have hu : (moveTotals m (giveTo m.dst m.pairs (takeFrom m.src m.pairs s))).ledger = s.ledger := by
    have ht : ∀ v : State, (moveTotals m v).ledger = v.ledger := fun v => by unfold moveTotals; split <;> rfl
    rw [ht]
    cases m.dst <;> cases m.src <;> rfl
  have hres : (moveTotals m (giveTo m.dst m.pairs (takeFrom m.src m.pairs s))).book.reservations = s.book.reservations :=
    congrArg Ledger.reservations hu
  rw [moveCounts]
  generalize moveTotals m (giveTo m.dst m.pairs (takeFrom m.src m.pairs s)) = v at hu hres
  unfold issueFromEntry
  split
  · next k hk hr hs =>
    have hsrc : m.src = .pos reservePos := by
      cases hx : m.src <;> simp_all [Side.isReserve]
    have hchange : (changeEntry k (fun e => { e with counts := Counts.sub e.counts (pairCounts m.pairs) }) v).ledger =
      { v.ledger with reservations := v.book.reservations.map fun e =>
          if e.slot = k then { e with counts := Counts.sub e.counts (pairCounts m.pairs) } else e } := rfl
    have hsame : (fun e : ResEntry => if e.slot = k
          then { e with counts := Counts.sub e.counts (pairCounts m.pairs) } else e) =
        fun e => if m.kind = .issue ∧ m.src = .pos reservePos ∧ m.slot = some e.slot
          then { e with counts := Counts.sub e.counts (pairCounts m.pairs) } else e := by
      funext e
      simp only [hk, hsrc, hs, true_and, Option.some.injEq, eq_comm]
    rw [hchange, hu, hres, hsame]
  · next hn =>
    have hid : (fun e : ResEntry => if m.kind = .issue ∧ m.src = .pos reservePos ∧ m.slot = some e.slot
        then { e with counts := Counts.sub e.counts (pairCounts m.pairs) } else e) = id := by
      funext e
      refine if_neg fun ⟨h1, h2, h3⟩ => hn e.slot h1 ?_ h3
      rw [h2]; rfl
    rw [hu, hid, List.map_id]
    rfl

/-! ### The whole movement -/

/-- Numbering, posting and notices change the book and the notice queue alone. -/
def PostChangesOnly (s t : State) : Prop :=
  ∃ (b : Book) (notices : List Notice) (number : Nat) (lost : Bool), t = { s with
    book := b, link := { s.link with notices := notices, noticeNumber := number, noticeLost := lost } }

theorem PostChangesOnly.refl (s : State) : PostChangesOnly s s := ⟨_, _, _, _, rfl⟩

theorem PostChangesOnly.trans (h : PostChangesOnly s t) (k : PostChangesOnly t u) : PostChangesOnly s u := by
  obtain ⟨_, _, _, _, rfl⟩ := h
  obtain ⟨_, _, _, _, rfl⟩ := k
  exact ⟨_, _, _, _, rfl⟩

theorem PostChangesOnly.notify (b : NoticeBody) (s : State) : PostChangesOnly s (notify b s) := by
  unfold Machine.notify
  split <;> exact ⟨_, _, _, _, rfl⟩

theorem PostChangesOnly.setPosRec (p : Nat) (x : PosRec) (s : State) : PostChangesOnly s (s.setPosRec p x) :=
  ⟨_, _, _, _, rfl⟩

theorem PostChangesOnly.queueEntry (b : EntryBody) (s : State) : PostChangesOnly s (queueEntry b s) := by
  have h : ∀ c : Book, PostChangesOnly s { s with book := c } := fun c => ⟨c, _, _, _, rfl⟩
  unfold Machine.queueEntry
  split
  · exact .refl s
  · dsimp only
    split
    · exact (h _).trans (.notify ..)
    · exact h _

theorem PostChangesOnly.stampSide (x : Side) (n : Nat) (s : State) : PostChangesOnly s (stampSide x n s) := by
  cases x with
  | pos p => exact .setPosRec ..
  | _ => exact .refl s

theorem PostChangesOnly.postSide (x : Side) (m : Movement) (n : Nat) (s : State) :
    PostChangesOnly s (postSide x m n s) := by
  cases x with
  | pos p =>
    simp only [Machine.postSide]
    (repeat' split) <;> first | exact .setPosRec .. | exact .queueEntry ..
  | _ => exact .refl s

theorem PostChangesOnly.numberAndPost (m : Movement) (s : State) : PostChangesOnly s (numberAndPost m s) := by
  have h : PostChangesOnly s { s with book := { s.book with moveCounter := s.nextMove } } := ⟨_, _, _, _, rfl⟩
  exact (((h.trans (.stampSide ..)).trans (.stampSide ..)).trans (.postSide ..)).trans (.postSide ..)

theorem PostChangesOnly.notifyAll (l : List NoticeBody) (s : State) : PostChangesOnly s (notifyAll l s) :=
  notifyAll_keeps (PostChangesOnly s) (fun b _ h => h.trans (.notify b _)) l s (.refl s)

theorem PostChangesOnly.noticeInto (x : Side) (n : Nat) (s : State) : PostChangesOnly s (noticeInto x n s) := by
  unfold Machine.noticeInto
  split
  · exact .notifyAll ..
  · exact .refl s

/-- All of a movement after its counts and its cut. -/
theorem applyMovement_posts (m : Movement) (s : State) :
    PostChangesOnly (cutDue (moveCounts m s)) (applyMovement m s) :=
  (PostChangesOnly.numberAndPost ..).trans (.noticeInto ..)

/-- A cut changes of the book the reservation entries alone. -/
theorem cutDue_book (s : State) : ∃ l, (cutDue s).book = { s.book with reservations := l } := by
  obtain ⟨l, _, _, _, _, _, _, _, h⟩ := cutDue_only s
  exact ⟨l, by rw [h]⟩

theorem posRec_cutDue (s : State) (p : Nat) : (cutDue s).posRec p = s.posRec p := by
  obtain ⟨l, h⟩ := cutDue_book s
  simp only [State.posRec, h]

theorem nextMove_cutDue_moveCounts (m : Movement) (s : State) : (cutDue (moveCounts m s)).nextMove = s.nextMove := by
  obtain ⟨l, h⟩ := cutDue_book (moveCounts m s)
  have hm : (moveCounts m s).book.moveCounter = s.book.moveCounter := congrArg Ledger.moveCounter (ledger_moveCounts m s)
  simp only [State.nextMove, h, hm]

theorem applyMovement_kept (m : Movement) (s : State) : (applyMovement m s).kept = (moveCounts m s).kept := by
  simp [applyMovement]

theorem ledger_applyMovement (m : Movement) (s : State) :
    (applyMovement m s).ledger = { (cutDue (moveCounts m s)).ledger with moveCounter := s.nextMove } := by
  rw [applyMovement, ledger_of_book (noticeInto_book ..), ledger_numberAndPost, nextMove_cutDue_moveCounts]

/-- A movement leaves the denomination table and the opening condition. -/
theorem applyMovement_denoms_opening (m : Movement) (s : State) :
    (applyMovement m s).book.denoms = s.book.denoms ∧ (applyMovement m s).book.opening = s.book.opening := by
  obtain ⟨l, hcut⟩ := cutDue_book (moveCounts m s)
  have hcd : (cutDue (moveCounts m s)).ledger = { (moveCounts m s).ledger with reservations := l } := by
    simp only [State.ledger, hcut]
  have h := ledger_applyMovement m s
  rw [hcd, ledger_moveCounts] at h
  exact ⟨congrArg Ledger.denoms h, congrArg Ledger.opening h⟩

/-- With no cut due the reservation list changes as the counts' move changes it (R18). -/
theorem applyMovement_reservations (he : ∀ d < 12, (moveCounts m s).excess d = 0) :
    (applyMovement m s).book.reservations = s.book.reservations.map fun e =>
      if m.kind = .issue ∧ m.src = .pos reservePos ∧ m.slot = some e.slot
      then { e with counts := Counts.sub e.counts (pairCounts m.pairs) } else e := by
  have h := ledger_applyMovement m s
  rw [cutDue_none _ he, ledger_moveCounts] at h
  exact congrArg Ledger.reservations h

theorem posRec_applyMovement_other {p : Nat} (h1 : m.src ≠ .pos p) (h2 : m.dst ≠ .pos p) :
    (applyMovement m s).posRec p = s.posRec p := by
  rw [applyMovement, posRec_of_book (noticeInto_book ..), posRec_numberAndPost_ne h1 h2, posRec_cutDue,
    posRec_moveCounts_other h1 h2]

theorem stamp_moveCounts (m : Movement) (s : State) (p : Nat) : (moveCounts m s).stamp p = s.stamp p := by
  obtain ⟨c, h⟩ := posRec_moveCounts_withCounts m s p
  simp only [State.stamp, h, PosRec.withCounts]

theorem stamp_applyMovement (m : Movement) (s : State) {p : Nat} (hp : p < 177) :
    (applyMovement m s).stamp p = if m.src = .pos p ∨ m.dst = .pos p then s.nextMove else s.stamp p := by
  have hn : (applyMovement m s).stamp p = (numberAndPost m (cutDue (moveCounts m s))).stamp p :=
    congrArg PosRec.lastMove (posRec_of_book (noticeInto_book ..) p)
  have hc : (cutDue (moveCounts m s)).stamp p = s.stamp p :=
    (congrArg PosRec.lastMove (posRec_cutDue ..)).trans (stamp_moveCounts m s p)
  rw [hn, stamp_numberAndPost m _ hp, nextMove_cutDue_moveCounts, hc]

/-- The frame of a movement: what the cut, the numbering and the notices may change. -/
theorem applyMovement_frame (m : Movement) (s : State) :
    ∃ (b : Book) (builds : Tab 4 (Option Build)) (req : Option DispenseReq) (withdrawn : Bool) (cause : Option EndCause)
      (notices : List Notice) (number : Nat) (lost : Bool), applyMovement m s = { s with
        book := b
        desk := { s.desk with builds := builds }
        arbiter := { s.arbiter with dispense := req, dispenseWithdrawn := withdrawn }
        recycler := { s.recycler with run := { s.recycler.run with cause := cause } }
        link := { s.link with notices := notices, noticeNumber := number, noticeLost := lost } } := by
  obtain ⟨b, nt, nn, nl, h⟩ := applyMovement_posts m s
  obtain ⟨_, builds, req, wd, cause, _, _, _, hc⟩ := cutDue_only (moveCounts m s)
  obtain ⟨_, hm⟩ := moveCounts_state s m
  refine ⟨b, builds, req, wd, cause, nt, nn, nl, ?_⟩
  rw [h, hc, hm]

/-- With no cut due the desk, the recycler and the arbiter stay. -/
theorem applyMovement_uncut_blocks (h : ∀ d < 12, (moveCounts m s).excess d = 0) :
    (applyMovement m s).desk = s.desk ∧ (applyMovement m s).recycler = s.recycler ∧
      (applyMovement m s).arbiter = s.arbiter := by
  obtain ⟨_, _, _, _, hp⟩ := applyMovement_posts m s
  obtain ⟨_, hm⟩ := moveCounts_state s m
  rw [cutDue_none _ h] at hp
  rw [hp, hm]
  exact ⟨rfl, rfl, rfl⟩

end Sys2Proof.Machine

open Sys2Proof Sys2Proof.Machine

/-- Settles O22: the checks make the movement fit, and the counts, the cut, the number and the notices are taken apart. -/
theorem movementMovesItsCounts : Obligations.MovementMovesItsCounts := by
  intro m ofRun s hl hc
  have hf := fits_of_check hc
  have hk := applyMovement_kept m s
  obtain ⟨hdenoms, hopening⟩ := applyMovement_denoms_opening m s
  refine ⟨fun p hp d hd => ?_, fun d hd => ?_, congrArg Ledger.moveCounter (ledger_applyMovement m s),
    fun p hp => stamp_applyMovement m s hp, fun p _ h1 h2 => posRec_applyMovement_other h1 h2, hdenoms, hopening,
    applyMovement_frame m s, fun he => ?_⟩
  · rw [held_of_kept hk]; exact held_moveCounts hf hp hd
  · rw [show (applyMovement m s).book.totals = (moveCounts m s).book.totals from congrArg Kept.totals hk]
    exact totals_moveCounts hf hl.1 hd
  · obtain ⟨h1, h2, h3⟩ := applyMovement_uncut_blocks he
    exact ⟨h1, h2, h3, applyMovement_reservations he⟩
end

section
/-! How builds are rebuilt and cancelled, and how they move of themselves (O34). -/

-- One theorem at a time: the whole text holds more theorems than the check has room for threads.
set_option Elab.async false

namespace Sys2Proof.Machine

variable {s u v : State} {k n : Nat} {b : Build}

/-! ### The requests -/

theorem lt_of_build (h : s.build k = some b) : k < 4 := by
  refine Nat.lt_of_not_le fun hk => ?_
  have : s.build k = none := Tab.get_out none _ k hk
  rw [this] at h
  cases h

theorem buildIn_eq {ok : BuildState → Bool} (ht : (s.till n).state = .building) (ho : s.buildOf n = some k)
    (hb : s.build k = some b) (hok : ok b.state = true) : s.buildIn n ok = some (k, b) := by
  unfold State.buildIn
  rw [if_pos ht]
  simp only [ho, hb, if_pos hok]

theorem doRebuild_accepts {new : Counts} {total short : Nat} (hn : n ≤ 255)
    (hb : s.buildIn n (· = .short) = some (k, b)) (hu : s.makeUpAgain k b = .accepted new total short)
    (ho : s.overReserved k new = none) :
    doRebuild n s = (acceptedReply (outcomeField short :: countFields new), settle (noticeWithin k n
      (s.trayValue b + total) (s.trayValue b) short
      ((reserve k n new s).setBuild k (some (rebuilt s b new total))))) := by
  unfold doRebuild
  rw [if_neg (Nat.not_lt.mpr hn)]
  simp only [hb, hu, ho]
  rfl

theorem doCancelBuild_empty (hn : n ≤ 255) (hb : s.buildIn n cancellable = some (k, b)) (hz : b.dispensed.isZero = true) :
    doCancelBuild n s = (okReply [],
      settle (((releaseEntry k s).setBuild k none).setTill n { s.till n with state := .closed })) := by
  unfold doCancelBuild
  rw [if_neg (Nat.not_lt.mpr hn)]
  simp only [hb, hz]
  rfl

theorem doCancelBuild_returns (hn : n ≤ 255) (hb : s.buildIn n cancellable = some (k, b))
    (hz : b.dispensed.isZero = false) : doCancelBuild n s = (acceptedReply [],
      settle (giveTrayReturn k ((releaseEntry k s).setBuild k (some (cancelling b))))) := by
  unfold doCancelBuild
  rw [if_neg (Nat.not_lt.mpr hn)]
  simp only [hb, hz]
  rfl

/-! ### The tray's owner -/

theorem mem_occupied {q : Nat × Build} : q ∈ s.occupied ↔ q.1 < 4 ∧ s.build q.1 = some q.2 := by
  obtain ⟨k, b⟩ := q
  simp only [State.occupied, buildSlots, List.mem_filterMap, List.mem_range, Option.map_eq_some_iff, Prod.mk.injEq]
  constructor
  · rintro ⟨j, hj, c, hc, rfl, rfl⟩
    exact ⟨hj, hc⟩
  · rintro ⟨hk, hb⟩
    exact ⟨k, hk, b, hb, rfl, rfl⟩

theorem oldest_mem {l : List (Nat × Build)} {q : Nat × Build} (h : oldest l = some q) : q ∈ l := by
  induction l with
  | nil => cases h
  | cons p l ih =>
    obtain ⟨j, c⟩ := p
    simp only [oldest] at h
    split at h
    · cases h; exact List.mem_cons_self
    · next i d ho =>
      split at h
      · cases h; exact List.mem_cons_self
      · cases h; exact List.mem_cons_of_mem _ (ih ho)

/-- The one build older than every other is the oldest. -/
theorem oldest_eq {l : List (Nat × Build)} {q : Nat × Build} (hq : q ∈ l) (hmin : ∀ p ∈ l, p ≠ q → q.2.age < p.2.age) :
    oldest l = some q := by
  induction l with
  | nil => cases hq
  | cons p l ih =>
    have hrest : ∀ x ∈ l, x ≠ q → q.2.age < x.2.age := fun x hx => hmin x (List.mem_cons_of_mem _ hx)
    simp only [oldest]
    by_cases hl : q ∈ l
    · rw [ih hl hrest]
      by_cases hp : p = q
      · simp [hp]
      · exact if_neg (Nat.not_lt.mpr (Nat.le_of_lt (hmin p List.mem_cons_self hp)))
    · have hp : p = q := ((List.mem_cons.mp hq).resolve_right hl).symm
      split
      · rw [← hp]
      · next j c ho =>
        have hmem := oldest_mem ho
        rw [if_pos (hp ▸ hrest _ hmem fun hjc => hl (hjc ▸ hmem)), ← hp]

/-- The builds of R51 that want the tray. -/
def State.wantsTray (s : State) (k : Nat) (b : Build) : Prop := k < 4 ∧ s.build k = some b ∧ s.isTrayBuild b = true

theorem mem_trayBuilds {q : Nat × Build} :
    q ∈ s.occupied.filter (fun q => s.isTrayBuild q.2) ↔ s.wantsTray q.1 q.2 := by
  rw [List.mem_filter, mem_occupied, and_assoc]; rfl

theorem oldestTrayBuild_none (h : ∀ k b, ¬s.wantsTray k b) : s.oldestTrayBuild = none := by
  unfold State.oldestTrayBuild
  rw [List.eq_nil_iff_forall_not_mem.mpr fun q hq => h _ _ (mem_trayBuilds.mp hq)]
  rfl

theorem oldestTrayBuild_eq (h : s.wantsTray k b) (hmin : ∀ j c, s.wantsTray j c → j ≠ k → b.age < c.age) :
    s.oldestTrayBuild = some k := by
  unfold State.oldestTrayBuild
  rw [oldest_eq (q := (k, b)) (mem_trayBuilds.mpr h)]
  · rfl
  · intro p hp hne
    have hp := mem_trayBuilds.mp hp
    refine hmin _ _ hp fun hk => hne ?_
    obtain ⟨j, c⟩ := p
    obtain ⟨_, hb, _⟩ := h
    obtain ⟨_, hc, _⟩ := hp
    cases hk
    cases hb.symm.trans hc
    rfl

theorem trayTaken_owned (h : s.desk.trayOwner = some k) : trayTaken s = none := by
  unfold trayTaken; rw [h]

theorem trayTaken_free (h : s.desk.trayOwner = none) :
    trayTaken s = s.oldestTrayBuild.map fun k => s.setTrayOwner (some k) := by
  unfold trayTaken
  rw [h]
  cases s.oldestTrayBuild <;> rfl

theorem trayFreed_none (h : s.desk.trayOwner = none) : trayFreed s = none := by
  unfold trayFreed; rw [h]

theorem trayFreed_held (h : s.desk.trayOwner = some k) (hb : s.build k = some b) (ht : s.isTrayBuild b = true) :
    trayFreed s = none := by
  unfold trayFreed
  simp only [h, hb, if_pos ht]

theorem trayFreed_lost (h : s.desk.trayOwner = some k) (hb : ¬∃ b, s.build k = some b ∧ s.isTrayBuild b = true) :
    trayFreed s = some (s.setTrayOwner none) := by
  unfold trayFreed
  rw [h]
  dsimp only
  split
  · rfl
  · next b hk => exact if_neg fun ht => hb ⟨b, hk, ht⟩

/-! ### A build that becomes short -/

/-- A run that picks stops with cause CUT where it has no cause yet (R139). -/
theorem cutRun_live (h : v.recycler.run.live = true) : cutRun v =
    { v with recycler := { v.recycler with run := { v.recycler.run with cause := v.recycler.run.cause.or (some .cut) } } } := by
  unfold cutRun
  cases hc : v.recycler.run.cause with
  | none => simp [h, hc, State.setRun]
  | some c =>
    rw [Option.some_or, ← hc]
    refine if_neg fun hl => ?_
    rw [hl.2] at hc
    cases hc

theorem runningKind_iff (k : RunKind) : v.runningKind k = true ↔
    v.recycler.run.state = .running ∧ v.recycler.run.interrupted = false ∧ v.recycler.run.kind = k := by
  simp [State.runningKind, Run.live, and_assoc]

/-- The request of the build, where it is the one given, is withdrawn: by a CUT of its run or at once (R146). -/
theorem withdrawFor_eq (k : Nat) (v : State) : withdrawFor k v =
    if v.arbiter.dispense.map DispenseReq.slot = some k then
      (if v.recycler.run.state = .running ∧ v.recycler.run.interrupted = false ∧ v.recycler.run.kind = .dispense then { v with
        arbiter := { v.arbiter with dispenseWithdrawn := true }
        recycler := { v.recycler with run := { v.recycler.run with cause := v.recycler.run.cause.or (some .cut) } } }
      else { v with arbiter := { v.arbiter with dispense := none, dispenseWithdrawn := false } })
    else v := by
  unfold withdrawFor
  cases hq : v.arbiter.dispense with
  | none => rfl
  | some q =>
    simp only [Option.map_some, Option.some.injEq, withdrawDispense, hq, runningKind_iff]
    refine if_ctx_congr Iff.rfl (fun _ => if_ctx_congr Iff.rfl (fun hrun => ?_) fun _ => rfl) fun _ => rfl
    exact cutRun_live (Bool.and_eq_true_iff.mp ((runningKind_iff .dispense).mpr hrun)).1

@[simp] theorem build_withdrawFor (j k : Nat) (v : State) : (withdrawFor k v).build j = v.build j := by
  rw [withdrawFor_eq]
  (repeat' split) <;> rfl

/-- BUILD_SHORT and the withdrawal speak of the state before it, whatever the build's cut set (R62). -/
theorem becomeShort_eq {c : Marks} (hb : u.build k = some { b with cut := c }) (hd : u.book = s.book)
    (ha : u.arbiter = s.arbiter) (hr : u.recycler = s.recycler) (x : ShortCause) (d : Nat) : becomeShort k x d u =
      let v := u.setBuild k (some { b with
        state := .short, cut := c, current := none, shortCause := some x, shortDenom := some d, shortDue := none })
      notify (.buildShort k b.till x (some d) b.planned (s.valueOf b.dispensed)
          (b.planned - (s.valueOf b.dispensed + s.reservedRolls k)))
        (if s.arbiter.dispense.map DispenseReq.slot = some k then
          (if s.recycler.run.state = .running ∧ s.recycler.run.interrupted = false ∧ s.recycler.run.kind = .dispense then
            { v with
              arbiter := { s.arbiter with dispenseWithdrawn := true },
              recycler := { s.recycler with
                run := { s.recycler.run with cause := s.recycler.run.cause.or (some .cut) } } }
          else { v with arbiter := { s.arbiter with dispense := none, dispenseWithdrawn := false } })
        else v) := by
  have hval : ∀ c : Counts, u.valueOf c = s.valueOf c := fun c => by
    simp only [State.valueOf, State.face, State.denom, hd]
  have hrolls : u.reservedRolls k = s.reservedRolls k := by
    have hden : u.denom = s.denom := funext fun d => by simp only [State.denom, hd]
    have hroll : u.isRoll = s.isRoll := funext fun d => by simp only [State.isRoll, hden]
    simp only [State.reservedRolls, State.resEntry, State.rollsOf, hroll, hval, hd]
  unfold becomeShort
  rw [hb]
  dsimp only
  rw [withdrawFor_eq, State.trayValue, hval, hrolls, State.setBuild_arbiter, State.setBuild_recycler, ha, hr]

/-! ### A build's own step -/

theorem notesDone_cut {d : Nat} (h : s.cutRoll b = some d) : notesDone k b s = becomeShort k .cut d s := by
  unfold notesDone; rw [h]

theorem notesDone_ready (h : s.cutRoll b = none) : notesDone k b s =
    notify (.buildReady k b.till b.planned (s.valueOf b.dispensed))
      (s.setBuild k (some { b with state := .awaitingHandover, current := none, shortDue := none })) := by
  unfold notesDone; rw [h]; rfl

theorem nextDispense_done (h : s.nextDenom b = none) : nextDispense k b s = notesDone k b s := by
  unfold nextDispense; rw [h]

theorem nextDispense_cut {d : Nat} (h : s.nextDenom b = some d) (hc : Marks.has b.cut d = true) :
    nextDispense k b s = becomeShort k .cut d s := by
  unfold nextDispense; rw [h]; exact if_pos hc

theorem nextDispense_asks {d : Nat} (h : s.nextDenom b = some d) (hc : Marks.has b.cut d = false) : nextDispense k b s =
    giveDispense k d (Counts.of b.remaining d) (s.setBuild k (some { b with state := .dispensing, current := some d })) := by
  unfold nextDispense; rw [h]; exact if_neg (by simp [hc])

theorem buildStep_rolls (hb : s.build k = some b) (hp : b.state = .planned) (ht : s.isTrayBuild b = false) :
    buildStep k s = some (notesDone k b s) := by
  simp only [buildStep, hb, hp, ht]; rfl

theorem buildStep_owner (hb : s.build k = some b) (hp : b.state = .planned) (ht : s.isTrayBuild b = true)
    (ho : s.desk.trayOwner = some k) : buildStep k s = some (nextDispense k b s) := by
  simp only [buildStep, hb, hp, ht, ho]; rfl

theorem buildStep_waits (hb : s.build k = some b) (hp : b.state = .planned) (ht : s.isTrayBuild b = true)
    (ho : s.desk.trayOwner ≠ some k) : buildStep k s = none := by
  simp only [buildStep, hb, hp, ht, if_neg ho]; rfl

theorem buildStep_inRun (hb : s.build k = some b) (hp : b.state = .dispensing) (hr : s.dispenseInProgress k = true) :
    buildStep k s = none := by
  simp only [buildStep, hb, hp, hr]; rfl

theorem buildStep_due {c : ShortCause} {d : Nat} (hb : s.build k = some b) (hp : b.state = .dispensing)
    (hr : s.dispenseInProgress k = false) (hd : b.shortDue = some (c, d)) :
    buildStep k s = some (becomeShort k c d s) := by
  simp only [buildStep, hb, hp, hr, hd]; rfl

theorem buildStep_current {d : Nat} (hb : s.build k = some b) (hp : b.state = .dispensing)
    (hr : s.dispenseInProgress k = false) (hd : b.shortDue = none) (hc : b.current = some d) :
    buildStep k s = if Counts.of b.remaining d = 0 then some (nextDispense k b s) else none := by
  simp only [buildStep, hb, hp, hr, hd, hc]; rfl

theorem buildStep_rests (hb : s.build k = some b) (hp : b.state ≠ .planned) (hd : b.state ≠ .dispensing) :
    buildStep k s = none := by
  simp only [buildStep, hb]

/-! ### Reports of cuts and of unservable denominations -/

theorem cutReport_atOnce {d : Nat} (hb : s.build k = some b) (h : b.state = .planned ∨ b.state = .awaitingHandover) :
    cutReport d k s = becomeShort k .cut d (s.setBuild k (some { b with cut := Marks.mark b.cut d })) := by
  rcases h with h | h <;> simp only [cutReport, hb, h]

theorem cutReport_marks {d : Nat} (hb : s.build k = some b) (h : b.state = .short ∨ b.state = .cancelling) :
    cutReport d k s = s.setBuild k (some { b with cut := Marks.mark b.cut d }) := by
  rcases h with h | h <;> simp only [cutReport, hb, h]

theorem build_cutReport_dispensing {d : Nat} (hb : s.build k = some b) (h : b.state = .dispensing) :
    (cutReport d k s).build k = some { b with
      cut := Marks.mark b.cut d
      shortDue := if b.current = some d ∧ b.shortDue = none then some (.cut, d) else b.shortDue } := by
  simp only [cutReport, hb, h]
  split
  · next hc => rw [build_withdrawFor, build_setBuild_self _ _ _ (lt_of_build hb)]
  · next hc => rw [build_setBuild_self _ _ _ (lt_of_build hb)]

theorem build_unservable {d : Nat} (hb : s.build k = some b) :
    (unservable k d s).build k = some { b with
      shortDue := if b.state = .dispensing ∧ b.current = some d ∧ b.shortDue = none ∧ Counts.of b.remaining d ≠ 0
        then some (.unservable, d) else b.shortDue } := by
  simp only [unservable, hb]
  split
  · rw [build_withdrawFor, build_setBuild_self _ _ _ (lt_of_build hb)]
  · exact hb

end Sys2Proof.Machine

open Sys2Proof Sys2Proof.Machine

/-- Settles O34: each request passes its checks, and each of a build's states has one step and one answer to a report. -/
theorem shortBuildsAreRebuiltOrCancelled : Obligations.ShortBuildsAreRebuiltOrCancelled := by
  refine ⟨?rebuild, ?cancel, ?tray, ?own⟩
  case rebuild =>
    intro tag n k b e new total short s hs hn ht ho hb hst hu hover he
    have hdo := doRebuild_accepts (s := heard s) hn (buildIn_eq ht ho hb (by simp [hst])) hu hover
    rw [reserve_again (s := heard s) he] at hdo
    rw [exec_ready hs rfl hdo]
    rfl
  case cancel =>
    intro tag n k b s hs hn ht ho hb hst
    have hin : (heard s).buildIn n cancellable = some (k, b) :=
      buildIn_eq ht ho hb (by rcases hst with h | h | h <;> rw [h] <;> rfl)
    exact ⟨fun hz => exec_ready hs rfl (doCancelBuild_empty hn hin hz),
      fun hz => exec_ready hs rfl (doCancelBuild_returns hn hin hz)⟩
  case tray =>
    intro s
    refine ⟨fun k ho => ⟨trayTaken_owned ho, fun ⟨b, hb, ht⟩ => trayFreed_held ho hb ht, trayFreed_lost ho⟩,
      fun ho => ⟨trayFreed_none ho, fun hn => ?_, fun k b ht hmin => ?_⟩⟩
    · rw [trayTaken_free ho, oldestTrayBuild_none hn]; rfl
    · rw [trayTaken_free ho, oldestTrayBuild_eq ht hmin]; rfl
  case own =>
    intro s k b hb order value run short move cutRoll left finish go
    have hshort : ∀ x d, becomeShort k x d s = short x d s := fun x d => by
      rw [becomeShort_eq (c := b.cut) hb rfl rfl rfl]
      simp only [short, hb]; rfl
    have hshortMarked : ∀ d, becomeShort k .cut d (s.setBuild k (some { b with cut := Marks.mark b.cut d })) =
        short .cut d (s.setBuild k (some { b with cut := Marks.mark b.cut d })) := fun d => by
      have hk := build_setBuild_self s k (some { b with cut := Marks.mark b.cut d }) (lt_of_build hb)
      rw [becomeShort_eq (s := s) hk rfl rfl rfl]
      simp only [short, hk]; rfl
    have hfinish : buildStep k s = some (notesDone k b s) → finish := fun h =>
      ⟨fun d hd => by rw [← hshort, ← notesDone_cut hd]; exact h, fun hd => h.trans (congrArg some (notesDone_ready hd))⟩
    have hgo : buildStep k s = some (nextDispense k b s) → go := fun h =>
      ⟨fun hl => hfinish (h.trans (congrArg some (nextDispense_done hl))), fun d hl =>
        ⟨fun hc => by rw [← hshort, ← nextDispense_cut hl hc]; exact h,
          fun hc => h.trans (congrArg some (nextDispense_asks hl hc))⟩⟩
    refine ⟨fun hp => ⟨fun ht => hfinish (buildStep_rolls hb hp ht), fun ht =>
        ⟨fun ho => hgo (buildStep_owner hb hp ht ho), fun ho => buildStep_waits hb hp ht ho⟩⟩,
      fun hp => ⟨fun hr => buildStep_inRun hb hp hr, fun hr => ⟨fun c d hd => ?_, fun hd d hc => ?_⟩⟩,
      fun hp hd => buildStep_rests hb hp hd, fun d => ⟨fun h => ?_, fun h => cutReport_marks hb h,
        fun h => build_cutReport_dispensing hb h, build_unservable hb⟩⟩
    · rw [← hshort]; exact buildStep_due hb hp hr hd
    · have hstep := buildStep_current hb hp hr hd hc
      exact ⟨fun hz => hgo (by rw [hstep, if_pos hz]), fun hz => hstep.trans (if_neg hz)⟩
    · rw [← hshortMarked]; exact cutReport_atOnce hb h
end

section
/-! A start with a lost store: what it leaves, for every reading of the sensors (O4, O5), and the laws that then hold (O11). -/

-- One theorem at a time: the whole text holds more theorems than the check has room for threads.
set_option Elab.async false

namespace Sys2Proof.Machine

variable {s t : State}

/-! ### A state in which nothing is due -/

/-- No run, no build, no reservation, no evacuation and no opening wait, and the office is in HOLD. -/
structure Resting (s : State) : Prop where
  run : s.recycler.run.state = .idle
  modules : ∀ m ∈ allModules, s.inService m = false ∧ (s.module m).step ≠ .purgeWait
  entries : s.book.reservations = []
  builds : ∀ k, s.build k = none
  owner : s.desk.trayOwner = none
  evac : s.evac.state = .idle
  mode : s.office.mode = .hold
  safe : s.office.safe.state ≠ .pending

theorem live_of_idle (h : s.recycler.run.state = .idle) : s.recycler.run.live = false := by simp [Run.live, h]

theorem excess_of_no_entries (h : s.book.reservations = []) (d : Nat) : s.excess d = 0 := by
  simp [State.excess, State.reserved, h]

theorem buildsStep_none (h : ∀ k, s.build k = none) (l : List Nat) : buildsStep l s = none := by
  induction l with
  | nil => rfl
  | cons k l ih => simp [buildsStep, buildStep, h, ih]

theorem trayTaken_no_builds (h : ∀ k, s.build k = none) : trayTaken s = none := by
  have hn : s.oldestTrayBuild = none := oldestTrayBuild_none fun k b hw => by
    obtain ⟨-, hb, -⟩ := hw
    rw [h] at hb
    cases hb
  unfold trayTaken
  rw [hn]
  split
  · next hk => cases hk
  · rfl

theorem Resting.firstReactions (h : Resting s) : ∀ f ∈ firstReactions, f s = none := by
  have hlive := live_of_idle h.run
  have hgrade : gradeStep s = none := by
    rw [gradeStep, List.find?_eq_none.mpr fun m hm => by simp [(h.modules m hm).1]]; rfl
  have hpause : pauseStep s = none := by simp [pauseStep, h.evac]
  simp only [Machine.firstReactions, List.forall_mem_cons]
  exact ⟨by simp [causeStep, hlive], by simp [closeStep, hlive], hgrade,
    by simp [cutStep, excess_of_no_entries h.entries], trayFreed_none h.owner, trayTaken_no_builds h.builds,
    buildsStep_none h.builds _, hpause, by simp⟩

theorem Resting.lastReactions (h : Resting s) : ∀ f ∈ lastReactions, f s = none := by
  have hlive := live_of_idle h.run
  have hpurge : purgeStart s = none := by
    have hn : (allModules.find? fun m => (s.module m).state = .starting && (s.module m).step = .purgeWait) = none :=
      List.find?_eq_none.mpr fun m hm => by simp [(h.modules m hm).2]
    unfold purgeStart
    simp [hn]
  simp only [Machine.lastReactions, List.forall_mem_cons]
  exact ⟨hpurge, by simp [preemptStep, State.runningKind, hlive], by simp [safeStep, h.safe], by simp [holdStep, h.mode],
    by simp [assignStep, h.mode], by simp [grantStep, State.grantsOpen, h.mode], by simp⟩

theorem firstDue_eq_none {l : List (State → Option State)} (h : ∀ f ∈ l, f s = none) : firstDue l s = none := by
  induction l with
  | nil => rfl
  | cons f l ih =>
    rw [firstDue, h f List.mem_cons_self]
    exact ih fun g hg => h g (List.mem_cons_of_mem _ hg)

/-- Nothing is due, so the event ends where it stands. -/
theorem Resting.settle (h : Resting s) : settle s = s := by
  refine settle_quiet s ?_
  have hauto : autoEvac s = none := by simp [autoEvac, h.mode]
  have hall : ∀ f ∈ reactions, f s = none := by
    intro f hf
    rcases List.mem_append.mp hf with hf | hf
    · exact h.firstReactions f hf
    · rcases List.mem_cons.mp hf with rfl | hf
      · exact hauto
      · exact h.lastReactions f hf
  rw [quiet, firstDue_eq_none hall]
  rfl

/-! ### The stages of a start that find nothing -/

theorem collect_idle {f : State → State} (h : ∀ l : Link, f { s with link := l } = { s with link := l }) :
    collect f s = (s, []) := by
  unfold collect
  dsimp only
  rw [h]
  rfl

theorem collectEach_idle {f : Nat → State → State} (h : ∀ (n : Nat) (l : Link), f n { s with link := l } = { s with link := l })
    (ns : List Nat) : collectEach f ns s = (s, []) := by
  induction ns with
  | nil => rfl
  | cons n ns ih => rw [collectEach, collect_idle (h n)]; dsimp only; rw [ih]; rfl

theorem each_idle {f : Nat → State → State} (h : ∀ n, f n s = s) (ns : List Nat) : State.each f ns s = s := by
  induction ns with
  | nil => rfl
  | cons n ns ih => rw [State.each, h, ih]

theorem startLot_free {n : Nat} (h : s.lot n = none) : startLot n s = s := by unfold startLot; rw [h]

theorem voidRelease_free {n : Nat} (h : s.lot n = none) : voidRelease n s = s := by unfold voidRelease; rw [h]

theorem startBuild_free {k : Nat} (h : s.build k = none) (l : List Nat) : startBuild k l s = s := by
  unfold startBuild; rw [h]

theorem startCancelling_free {k : Nat} (h : s.build k = none) : startCancelling k s = s := by
  unfold startCancelling; rw [h]

theorem startCons_free {k : Nat} (h : s.consignment k = none) : startCons k s = s := by unfold startCons; rw [h]

theorem startConsignments_free (h : ∀ k, s.consignment k = none) (l : List Nat) : collectEach startCons l s = (s, []) :=
  collectEach_idle (fun k _ => startCons_free (h k)) l

theorem startCuts_no_entries (h : s.book.reservations = []) (l : List Nat) : startCuts l s = (s, []) := by
  induction l with
  | nil => rfl
  | cons d l ih =>
    have hd : cutEntries d s = (s, []) := by
      have hs : ({ s with book := { s.book with reservations := [] } } : State) = s := by rw [← h]
      rw [cutEntries, h]
      exact Prod.ext hs rfl
    rw [startCuts, hd]
    dsimp only
    rw [ih]
    rfl

/-- The till desk without builds and reservations at a start (R22, R68). -/
theorem startDesk_empty (he : s.book.reservations = []) (hb : ∀ k, s.build k = none) (ho : s.desk.trayOwner = none) :
    startDesk s = (s, []) := by
  have hocc : s.occupied = [] := List.eq_nil_iff_forall_not_mem.mpr fun q hq => by
    have := (mem_occupied.mp hq).2
    rw [hb] at this
    cases this
  have howner : s.startOwner = none := by
    unfold State.startOwner State.oldestTrayBuild
    rw [hocc]
    rfl
  have hset : s.setTrayOwner none = s := by rw [State.setTrayOwner, ← ho]
  unfold startDesk
  rw [startCuts_no_entries he]
  dsimp only
  rw [collectEach_idle fun k l => startBuild_free (s := { s with link := l }) (hb k) _]
  dsimp only
  rw [howner, hset, each_idle fun k => startCancelling_free (hb k)]

theorem startMode_hold (h : s.office.mode = .hold) : startMode s = s := by
  unfold startMode; rw [h]; rfl

theorem startEvacuation_idle (h : s.evac.state = .idle) : startEvacuation s = s := by
  unfold startEvacuation; rw [h]

/-- Power and the link anew, with the frames of the time before as the last sent (log entry 6). -/
def linkStarted (s : State) : State :=
  { s with powered := true, link := { Link.initial with lastSent := s.link.lastSent } }

/-- The stages of a start, each with what it raises (R209). -/
theorem startFrom_of_stages {good : Bool} {left : Nat → ModState} {s1 s3 s5 u : State}
    {lots builds cons alarms : List NoticeBody} (h1 : startCountUnit (startBook s) = (s1, lots))
    (h3 : startDesk (startEvacuation (startRecycler s1)) = (s3, builds))
    (h5 : collectEach startCons consignmentSlots
      (s3.setDoors ⟨s3.doors.office.start, s3.doors.courier.start, false, false, none⟩) = (s5, cons))
    (h7 : collect (fun s => startSafe (startDoor .courier (startDoor .office s))) (startMode s5) = (u, alarms)) :
    startFrom false good left s = transmit (settle (notifyAll ([.started false good u.office.mode u.clock]
        ++ (if u.office.mode = .hold then [NoticeBody.holdReached u.clock] else [])
        ++ (if u.book.armed then [] else [NoticeBody.postingsWaiting u.book.queue.length])
        ++ (allModules.map fun m => NoticeBody.moduleState m (u.module m).state (left m)) ++ [] ++ builds ++ lots ++ cons
        ++ alarms) (linkStarted u))) := by
  unfold startFrom
  simp only [h1, h3, h5, h7]
  rfl

/-! ### The lost store -/

theorem get_fill_same {α : Type} {n : Nat} (a : α) (i : Nat) : (Tab.fill n a).get a i = a := by
  by_cases h : i < n
  · exact Tab.get_fill a a i h
  · exact Tab.get_out a _ i (Nat.le_of_not_lt h)

theorem map_fill {α β : Type} (f : α → β) (n : Nat) (a : α) : (Tab.fill n a).map f = Tab.fill n (f a) := by
  simp [Tab.map, Tab.fill]

/-- The controller with its store lost and its line started anew. -/
def lostStore (s : State) : State := { storeLoss s with line := Line.initial }

theorem lostStore_build (s : State) (k : Nat) : (lostStore s).build k = none := get_fill_same ..

theorem startJobs_empty (h : s.count.jobs = []) : s.startJobs = [] := by
  have hback : s.lotsSentBack.filter ([] : List Nat).contains = [] := List.filter_eq_nil_iff.mpr (by simp)
  rw [State.startJobs, h, hback]
  rfl

theorem startCountUnit_storeLoss (s : State) : startCountUnit (startBook (storeLoss s)) = (lostStore s, []) := by
  have hlot : ∀ n, (storeLoss s).lot n = none := fun n => get_fill_same ..
  have hbook : startBook (storeLoss s) = storeLoss s := rfl
  have hst : (storeLoss s).count.stations.map (startStation (storeLoss s).lotInterrupted) = Tab.fill 4 StationRec.initial :=
    map_fill ..
  rw [hbook, startCountUnit, collectEach_idle fun n l => startLot_free (hlot n)]
  dsimp only
  rw [startJobs_empty rfl, hst]
  have hrec : ({ storeLoss s with
      count := { CountUnit.initial with jobs := [], jobCounter := 0, stations := Tab.fill 4 StationRec.initial }
      line := Line.initial } : State) = lostStore s := rfl
  have heach := each_idle (s := lostStore s) (fun n => voidRelease_free (hlot n)) (List.range 64)
  rw [← hrec] at heach
  exact congrArg (·, []) heach

/-- What the modules start as, by what the safe's sensor reads (R123). -/
def freshModule (s : State) : ModRec :=
  if s.office.safe.sensorOpen then ⟨.safeOpen, .tags, false⟩ else ⟨.starting, .tags, false⟩

/-- The lost store after the start of the count unit, the recycler, the arbiter and the evacuation. -/
def lostModules (s : State) : State :=
  { lostStore s with recycler := { Recycler.initial with modules := Tab.fill 2 (freshModule s) } }

/-- The lost store after the start of every block but the doors' sensors and the safe. -/
def lostBlocks (s : State) : State :=
  (lostModules s).setDoors ⟨s.doors.office.start, s.doors.courier.start, false, false, none⟩

/-- The open sensors' alarms at a start (R182, R198). -/
def startAlarms (s : State) : State := startSafe (startDoor .courier (startDoor .office s))

/-- The alarms touch the doors, the safe and the fault record alone. -/
def AlarmsOnly (s t : State) : Prop :=
  ∃ (d : Doors) (f : Safe) (x : Option FaultRec) (l : Link), t = { s with
    doors := d, office := { s.office with safe := f, firstFault := x }, link := l }

theorem AlarmsOnly.refl (s : State) : AlarmsOnly s s := ⟨_, _, _, _, rfl⟩

theorem AlarmsOnly.trans {u : State} (h : AlarmsOnly s t) (k : AlarmsOnly t u) : AlarmsOnly s u := by
  obtain ⟨_, _, _, _, rfl⟩ := h
  obtain ⟨_, _, _, _, rfl⟩ := k
  exact ⟨_, _, _, _, rfl⟩

theorem AlarmsOnly.notify (b : NoticeBody) (s : State) : AlarmsOnly s (notify b s) := by
  unfold Machine.notify
  split <;> exact ⟨_, _, _, _, rfl⟩

theorem AlarmsOnly.handFault (x : FaultSource) (k : FaultKind) (s : State) : AlarmsOnly s (handFault x k s) :=
  ⟨_, _, _, _, rfl⟩

theorem AlarmsOnly.startDoor (d : Door) (s : State) : AlarmsOnly s (startDoor d s) := by
  have hdoor : AlarmsOnly s (s.setDoor d { s.door d with forced := true }) := by cases d <;> exact ⟨_, _, _, _, rfl⟩
  unfold Machine.startDoor raiseForced
  split
  · split
    · exact .refl s
    · exact (hdoor.trans (.notify ..)).trans (.handFault ..)
  · exact .refl s

theorem AlarmsOnly.startSafe (s : State) : AlarmsOnly s (startSafe s) := by
  have hsafe : ∀ f, AlarmsOnly s (s.setSafe f) := fun f => ⟨_, f, _, _, rfl⟩
  unfold Machine.startSafe
  dsimp only
  split
  · exact ((hsafe _).trans (.notify ..)).trans (.handFault ..)
  · exact hsafe _

theorem AlarmsOnly.startAlarms (s : State) : AlarmsOnly s (startAlarms s) :=
  ((AlarmsOnly.startDoor ..).trans (.startDoor ..)).trans (.startSafe _)

theorem AlarmsOnly.collect (s : State) : AlarmsOnly s (collect Machine.startAlarms s).1 := by
  obtain ⟨d, f, x, l, h⟩ :=
    AlarmsOnly.startAlarms { s with link := { s.link with notices := [], noticeNumber := 0, noticeLost := false } }
  unfold Machine.collect
  dsimp only
  rw [h]
  exact ⟨d, f, x, s.link, rfl⟩

/-- Whatever the sensor reads, the safe starts LOCKED (R198). -/
theorem safe_startAlarms (s : State) : (startAlarms s).office.safe.state = .locked := by
  unfold startAlarms startSafe
  dsimp only
  split
  · rw [show ∀ x k u, (handFault x k u).office.safe = u.office.safe from fun _ _ _ => rfl, notify_office]; rfl
  · rfl

/-- The notices of the start that no sensor raises, in the order of R209. -/
def lostNotices (s : State) : List NoticeBody :=
  [.started false false .hold 0, .holdReached 0, .moduleState 0 (freshModule s).state .offline,
    .moduleState 1 (freshModule s).state .offline]

theorem startRecycler_lostStore (s : State) : startEvacuation (startRecycler (lostStore s)) = lostModules s := by
  have hrun : (lostStore s).recycler.run.state = .idle := rfl
  rw [startEvacuation_idle rfl, startRecycler]
  dsimp only
  rw [if_pos hrun]
  rfl

/-- What the notices of the start say of the state whose alarms are raised. -/
theorem collect_lostBlocks (s : State) :
    let u := (collect startAlarms (lostBlocks s)).1
    u.office.mode = .hold ∧ u.clock = 0 ∧ u.book.armed = true ∧ ∀ m ∈ allModules, u.module m = freshModule s := by
  obtain ⟨d, f, x, l, hal⟩ := AlarmsOnly.collect (lostBlocks s)
  refine ⟨by rw [hal]; rfl, by rw [hal]; rfl, by rw [hal]; rfl, fun m hm => ?_⟩
  rw [hal]
  exact Tab.get_fill _ _ m (by simp [allModules] at hm; omega)

/-- A failed store's start, stage by stage: only the sensors raise anything of their own (R24, R209). -/
theorem powerUp_lost {u : State} {alarms : List NoticeBody} (hp : collect startAlarms (lostBlocks s) = (u, alarms)) :
    powerUp false s = transmit (settle (notifyAll (lostNotices s ++ alarms) (linkStarted u))) := by
  have hentries : (lostModules s).book.reservations = [] := rfl
  have howner : (lostModules s).desk.trayOwner = none := rfl
  have hdesk : startDesk (startEvacuation (startRecycler (lostStore s))) = (lostModules s, []) := by
    rw [startRecycler_lostStore, startDesk_empty hentries (lostStore_build s) howner]
  have hcons : ∀ k, (lostBlocks s).consignment k = none := fun k => get_fill_same ..
  have hbay : collectEach startCons consignmentSlots (lostBlocks s) = (lostBlocks s, []) :=
    startConsignments_free hcons _
  have halarms : collect startAlarms (startMode (lostBlocks s)) = (u, alarms) := by
    rw [startMode_hold rfl, hp]
  have h := startFrom_of_stages (good := false) (left := fun _ => .offline) (startCountUnit_storeLoss s) hdesk hbay halarms
  have hu := collect_lostBlocks s
  rw [hp] at hu
  obtain ⟨hm, hclock, harmed, hmod⟩ := hu
  have hmodules : (allModules.map fun m => NoticeBody.moduleState m (u.module m).state .offline) =
      allModules.map fun m => NoticeBody.moduleState m (freshModule s).state .offline :=
    List.map_congr_left fun m hm => by rw [hmod m hm]
  dsimp only at hm hclock harmed
  unfold powerUp
  rw [if_neg Bool.false_ne_true, h, hmodules, if_pos hm, if_pos harmed, hm, hclock]
  simp only [List.append_nil]
  rfl

/-! ### The event ends where the start leaves it -/

/-- Whether anything is due says nothing of the doors, the count unit and the link. -/
theorem Resting.congr (h : Resting s) (hb : t.book = s.book) (hd : t.desk = s.desk) (hr : t.recycler = s.recycler)
    (he : t.evac = s.evac) (ho : t.office = s.office) : Resting t where
  run := by rw [hr]; exact h.run
  modules := by
    have hmod : ∀ m, t.module m = s.module m := fun m => by simp only [State.module, hr]
    simpa only [State.inService, hmod] using h.modules
  entries := by rw [hb]; exact h.entries
  builds := by simpa only [State.build, hd] using h.builds
  owner := by rw [hd]; exact h.owner
  evac := by rw [he]; exact h.evac
  mode := by rw [ho]; exact h.mode
  safe := by rw [ho]; exact h.safe

theorem inService_freshModule {m : Nat} (h : s.module m = freshModule t) :
    s.inService m = false ∧ (s.module m).step ≠ .purgeWait := by
  rw [State.inService, h, freshModule]
  split <;> decide

theorem resting_lost (s : State) : Resting (collect startAlarms (lostBlocks s)).1 := by
  have hsafe : (collect startAlarms (lostBlocks s)).1.office.safe.state = .locked := safe_startAlarms _
  obtain ⟨-, -, -, hmod⟩ := collect_lostBlocks s
  obtain ⟨d, f, x, l, hal⟩ := AlarmsOnly.collect (lostBlocks s)
  generalize (collect startAlarms (lostBlocks s)).1 = u at hsafe hmod hal
  have hbuilds : ∀ k, u.build k = none := fun k => by rw [hal]; exact lostStore_build s k
  refine ⟨?_, fun m hm => inService_freshModule (hmod m hm), ?_, hbuilds, ?_, ?_, ?_, by rw [hsafe]; decide⟩ <;> rw [hal] <;>
    rfl

/-- After its notices a failed store's start has nothing more to do. -/
theorem powerUp_lost_settled {u : State} {alarms : List NoticeBody} (hp : collect startAlarms (lostBlocks s) = (u, alarms)) :
    powerUp false s = transmit (notifyAll (lostNotices s ++ alarms) (linkStarted u)) := by
  have hu : Resting u := by
    have h := resting_lost s
    rwa [hp] at h
  have hrest : Resting (notifyAll (lostNotices s ++ alarms) (linkStarted u)) :=
    hu.congr (notifyAll_book ..) (notifyAll_desk ..) (notifyAll_recycler ..) (notifyAll_evac ..) (notifyAll_office ..)
  rw [powerUp_lost hp, hrest.settle]

/-- Every failed-store start leaves the book of store loss, and HOLD (R24). -/
theorem book_mode_powerUp_lost (s : State) :
    (powerUp false s).book = Book.initial ∧ (powerUp false s).office.mode = .hold := by
  obtain ⟨d, f, x, l, hal⟩ := AlarmsOnly.collect (lostBlocks s)
  obtain ⟨u, alarms, hp⟩ : ∃ u alarms, collect startAlarms (lostBlocks s) = (u, alarms) := ⟨_, _, rfl⟩
  rw [hp] at hal
  rw [powerUp_lost_settled hp, transmit_book, transmit_office, notifyAll_book, notifyAll_office]
  dsimp only at hal
  subst hal
  exact ⟨rfl, rfl⟩

/-! ### Closed sensors -/

theorem startDoor_closed {d : Door} (h : (s.door d).sensorOpen = false) : startDoor d s = s := by
  unfold startDoor; rw [h]; rfl

theorem startSafe_closed (h : s.office.safe.sensorOpen = false) : startSafe s = s.setSafe Safe.initial := by
  unfold startSafe
  rw [h]
  rfl

theorem startAlarms_closed (ho : s.doors.office.sensorOpen = false) (hc : s.doors.courier.sensorOpen = false)
    (hs : s.office.safe.sensorOpen = false) : startAlarms s = s.setSafe Safe.initial := by
  rw [startAlarms, startDoor_closed (d := .office) ho, startDoor_closed (d := .courier) hc, startSafe_closed hs]

theorem collect_startAlarms_closed (ho : s.doors.office.sensorOpen = false) (hc : s.doors.courier.sensorOpen = false)
    (hs : s.office.safe.sensorOpen = false) : collect startAlarms s = (s.setSafe Safe.initial, []) := by
  have h := fun l : Link => startAlarms_closed (s := { s with link := l }) ho hc hs
  unfold collect
  dsimp only
  rw [h]
  rfl

/-- The notices of the start are the first on a link that has started, and the first of them is being sent. -/
theorem transmit_notifyAll_start (a b c d : NoticeBody) (s : State) (hc : s.clock = 0) :
    transmit (notifyAll [a, b, c, d] (linkStarted s)) = { s with
      powered := true
      link := { Link.initial with
        lastSent := s.link.lastSent, noticeNumber := 4, onLine := some (.notice ⟨1, 0, a⟩)
        notices := [⟨1, 0, a⟩, ⟨2, 0, b⟩, ⟨3, 0, c⟩, ⟨4, 0, d⟩] } } := by
  rw [State.clock] at hc
  simp [notifyAll, notify, linkStarted, Link.initial, transmit, nextFrame, nextNumber, State.clock, hc, Config.noticeCap,
    Config.maxNoticeNumber]

theorem start_closed {d : DoorRec} (h : d.sensorOpen = false) : d.start = DoorRec.initial := by
  unfold DoorRec.start; rw [h]; rfl

theorem exec_powerOn_off {good : Bool} (h : s.powered = false) : exec (.powerOn good) s = .next (powerUp good s) := by
  have hx : exec (.powerOn good) s = execPowerOn good s := rfl
  rw [hx, execPowerOn, h]

/-- With every sensor CLOSED a failed store's start is the reset state (R24, R209; log entries 1 and 6). -/
theorem powerUp_lost_closed (ho : s.doors.office.sensorOpen = false) (hc : s.doors.courier.sensorOpen = false)
    (hs : s.office.safe.sensorOpen = false) : powerUp false s = { State.reset with
      pending := s.pending, link := { State.reset.link with lastSent := s.link.lastSent } } := by
  have hp : collect startAlarms (lostBlocks s) = ((lostBlocks s).setSafe Safe.initial, []) :=
    collect_startAlarms_closed ho hc hs
  have hfresh : freshModule s = ⟨.starting, .tags, false⟩ := by unfold freshModule; rw [hs]; rfl
  rw [powerUp_lost_settled hp, List.append_nil, lostNotices, hfresh, transmit_notifyAll_start _ _ _ _ _ rfl]
  unfold lostBlocks lostModules
  rw [hfresh, start_closed ho, start_closed hc]
  rfl

/-! ### The laws at reset -/

theorem get_ofFn {α : Type} {n i : Nat} (d : α) (f : Nat → α) (h : i < n) : (Tab.ofFn n f).get d i = f i := by
  simp [Tab.get, Tab.ofFn, h]

theorem posRec_reset (p : Nat) : State.reset.posRec p = if 14 ≤ p ∧ p ≤ 173 then PosRec.free else PosRec.fixed := by
  by_cases hp : p < 177
  · exact get_ofFn _ _ hp
  · rw [if_neg (by omega)]
    exact Tab.get_out _ _ _ (Nat.le_of_not_lt hp)

theorem held_reset (p d : Nat) : State.reset.held p d = 0 := by
  rw [State.held, posRec_reset]
  split <;> exact of_zero d

theorem cassette_reset (c : Nat) : State.reset.cassette c = CasRec.vacant := get_fill_same ..

theorem cassetteCount_reset (c : Nat) : State.reset.cassetteCount c = 0 := by
  have hcounts : (State.reset.posRec (cassettePos c)).counts = Counts.zero := by
    rw [posRec_reset]
    split <;> rfl
  rw [State.cassetteCount, hcounts]
  rfl

theorem bookLaw_reset : State.reset.bookLaw := bookLaw_storeLoss State.reset

theorem reservationLaw_reset : State.reset.reservationLaw := fun _ _ => Nat.zero_le _

theorem bucketLaw_reset : State.reset.bucketLaw := fun c _ => by rw [cassette_reset]; decide

theorem linkLaw_reset : State.reset.linkLaw := ⟨by decide, Nat.zero_le _⟩

theorem rosterLaw_reset : State.reset.rosterLaw := fun i j _ _ _ a b ha _ => by
  have hi : State.reset.office.roster.get none i = none := get_fill_same none i
  rw [hi] at ha
  cases ha

theorem recyclerLaw_reset : State.reset.recyclerLaw := by
  refine ⟨⟨by decide, fun c _ hp => ?_⟩, fun c _ => ⟨?_, fun d _ h => absurd (held_reset _ d) h, fun _ => cassetteCount_reset c,
    fun _ => by rw [cassette_reset]; rfl⟩, trivial⟩
  · rw [cassette_reset] at hp; cases hp
  · rw [cassetteCount_reset]; exact Nat.zero_le _

theorem registerLaw_reset : State.reset.registerLaw := by
  have h : State.reset.registerNumbers = [] := by decide +kernel
  rw [State.registerLaw, h]
  exact List.nodup_nil

theorem tillLaw_reset : State.reset.tillLaw := by
  have hlot : ∀ n, State.reset.lot n = none := fun n => get_fill_same none n
  have hstation : ∀ n, State.reset.station n = StationRec.initial := fun n => get_fill_same StationRec.initial _
  have hbuild : ∀ k, State.reset.build k = none := fun k => get_fill_same none k
  refine ⟨fun n _ l h => ?_, fun k _ j n h => ?_, fun k _ b h => ?_⟩
  · rw [hlot] at h; cases h
  · rw [hstation] at h; cases h
  · rw [hbuild] at h; cases h

end Sys2Proof.Machine

open Sys2Proof Sys2Proof.Machine

/-- Settles O5: the start stage by stage, with nothing that a closed sensor could raise. -/
theorem failedStoreStartIsReset : Obligations.FailedStoreStartIsReset := by
  intro s hp ho hc hs
  have hx : exec (.powerOn false) s = .next (powerUp false s) := exec_powerOn_off hp
  rw [hx, powerUp_lost_closed ho hc hs]

/-- Settles O4: the tables of the reset state, and the blocks that a failed store's start leaves alone. -/
theorem resetBookIsStoreLoss : Obligations.ResetBookIsStoreLoss := by
  refine ⟨fun d _ => ⟨get_fill_same DenomRec.empty d, of_zero d⟩, fun p _ hp => ?_, fun p h1 h2 => ?_, rfl, rfl, rfl, fun s hs => ?_⟩
  · rw [posRec_reset, if_neg (by omega)]; rfl
  · rw [posRec_reset, if_pos ⟨h1, h2⟩]; rfl
  · exact ⟨_, exec_powerOn_off hs, book_mode_powerUp_lost s⟩

/-- Settles O11, law by law: the reset state's tables are empty. -/
theorem resetKeepsEveryLaw : Obligations.ResetKeepsEveryLaw :=
  ⟨bookLaw_reset, Nat.zero_le _, reservationLaw_reset, Nat.zero_le _, bucketLaw_reset, .inl rfl, linkLaw_reset,
    rosterLaw_reset, Nat.zero_le _, recyclerLaw_reset, registerLaw_reset, tillLaw_reset⟩
end

section
/-! The make-up of a float: the seed and the two passes keep each line's bounds, and the outcome keeps the target (O31). -/

-- One theorem at a time: the whole text holds more theorems than the check has room for threads.
set_option Elab.async false

namespace Sys2Proof.Machine

/-! ### The bounds of a line -/

/-- The count lies between the line's minimum and maximum and within its availability. -/
def MakeLine.Admits (l : MakeLine) (c : Nat) : Prop := l.min ≤ c ∧ c ≤ l.max ∧ c ≤ l.avail

/-- Every line of the plan has a count that it admits. -/
def Admitted (p : MakePlan) : Prop := ∀ q ∈ p, q.1.Admits q.2

theorem admitted_cons {l : MakeLine} {c : Nat} {p : MakePlan} : Admitted ((l, c) :: p) ↔ l.Admits c ∧ Admitted p :=
  List.forall_mem_cons

/-- The seed is within the bounds of a line whose stock reaches its minimum (R53). -/
theorem seed_admits {l : MakeLine} (hm : l.min ≤ l.max) (ha : l.min ≤ l.avail) : l.Admits l.seed := by
  have hc : l.min ≤ clamp l.min l.max l.pref ∧ clamp l.min l.max l.pref ≤ l.max := by
    unfold clamp
    split
    · omega
    · split <;> omega
  exact ⟨Nat.le_min.mpr ⟨hc.1, ha⟩, (Nat.min_le_left _ _).trans hc.2, Nat.min_le_right _ _⟩

/-! ### The passes, R54 -/

/-- The reduce pass takes no line below its minimum. -/
theorem admitted_reducePass (p : MakePlan) (x : Nat) (h : Admitted p) : Admitted (reducePass x p) := by
  induction p generalizing x with
  | nil => exact h
  | cons q p ih =>
    obtain ⟨l, c⟩ := q
    obtain ⟨⟨hmin, hmax, havail⟩, hp⟩ := admitted_cons.mp h
    have hk : Nat.min (x / l.face) (c - l.min) ≤ c - l.min := Nat.min_le_right _ _
    exact admitted_cons.mpr ⟨⟨by omega, by omega, by omega⟩, ih _ hp⟩

/-- The fill pass takes no line above its maximum or its availability. -/
theorem admitted_fillPass (p : MakePlan) (x : Nat) (h : Admitted p) : Admitted (fillPass x p) := by
  induction p generalizing x with
  | nil => exact h
  | cons q p ih =>
    obtain ⟨l, c⟩ := q
    obtain ⟨⟨hmin, hmax, havail⟩, hp⟩ := admitted_cons.mp h
    have hm : Nat.min (Nat.min (x / l.face) (l.max - c)) (l.avail - c) ≤ l.max - c :=
      (Nat.min_le_left _ _).trans (Nat.min_le_right _ _)
    have ha : Nat.min (Nat.min (x / l.face) (l.max - c)) (l.avail - c) ≤ l.avail - c := Nat.min_le_right _ _
    exact admitted_cons.mpr ⟨⟨by omega, by omega, by omega⟩, ih _ hp⟩

theorem reducePass_lines (p : MakePlan) (x : Nat) : (reducePass x p).map Prod.fst = p.map Prod.fst := by
  induction p generalizing x with
  | nil => rfl
  | cons q p ih => exact congrArg (q.1 :: ·) (ih _)

theorem fillPass_lines (p : MakePlan) (x : Nat) : (fillPass x p).map Prod.fst = p.map Prod.fst := by
  induction p generalizing x with
  | nil => rfl
  | cons q p ih => exact congrArg (q.1 :: ·) (ih _)

/-! ### The outcome, R55 -/

/-- An accepted outcome carries the plan's counts and value, and falls short of the target by no more than the tolerance. -/
theorem makeOutcome_accepted {v tol total short : Nat} {p : MakePlan} {plan : Counts}
    (h : makeOutcome v tol p = .accepted plan total short) :
    plan = planCounts p ∧ total = planTotal p ∧ total + short = v ∧ short ≤ tol := by
  unfold makeOutcome at h
  dsimp only at h
  split at h
  · cases h
  · split at h
    · cases h
      exact ⟨rfl, rfl, by omega, by omega⟩
    · cases h

/-- An accepted make-up is the outcome of a plan on its lines that keeps every line's bounds. -/
theorem makeUp_accepted {v tol total short : Nat} {lines : List MakeLine} {plan : Counts}
    (hm : ∀ l ∈ lines, l.min ≤ l.max) (h : makeUp v tol lines = .accepted plan total short) :
    ∃ p : MakePlan, p.map Prod.fst = lines ∧ Admitted p ∧ makeOutcome v tol p = .accepted plan total short := by
  unfold makeUp at h
  split at h
  · cases h
  · next hstock =>
    have hs : Admitted (lines.map fun l => (l, l.seed)) := by
      intro q hq
      obtain ⟨l, hl, rfl⟩ := List.mem_map.mp hq
      have := List.find?_eq_none.mp hstock l hl
      exact seed_admits (hm l hl) (by simpa using this)
    have hlines : (lines.map fun l => (l, l.seed)).map Prod.fst = lines := by
      rw [List.map_map]; exact List.map_id _
    dsimp only at h
    split at h
    · exact ⟨_, (reducePass_lines ..).trans hlines, admitted_reducePass _ _ hs, h⟩
    · exact ⟨_, (fillPass_lines ..).trans hlines, admitted_fillPass _ _ hs, h⟩

/-! ### The counts of a plan -/

/-- A denomination of no line counts nothing. -/
theorem of_planCounts_eq_zero {p : MakePlan} {d : Nat} (h : ∀ q ∈ p, q.1.denom ≠ d) : Counts.of (planCounts p) d = 0 := by
  induction p with
  | nil => exact of_zero d
  | cons q p ih =>
    obtain ⟨hq, hp⟩ := List.forall_mem_cons.mp h
    exact (Counts.of_plus_ne _ _ _ _ hq).trans (ih hp)

/-- On lines of distinct denominations each reads its own count. -/
theorem of_planCounts {p : MakePlan} (hn : ((p.map Prod.fst).map MakeLine.denom).Nodup)
    (hd : ∀ q ∈ p, q.1.denom < 12) : ∀ q ∈ p, Counts.of (planCounts p) q.1.denom = q.2 := by
  induction p with
  | nil => nofun
  | cons a p ih =>
    obtain ⟨ha, hn⟩ := List.nodup_cons.mp hn
    obtain ⟨hda, hd⟩ := List.forall_mem_cons.mp hd
    have hne : ∀ q ∈ p, q.1.denom ≠ a.1.denom := fun q hq he =>
      ha (he ▸ List.mem_map_of_mem (List.mem_map_of_mem hq))
    refine List.forall_mem_cons.mpr ⟨?_, fun q hq => ?_⟩
    · calc Counts.of (planCounts (a :: p)) a.1.denom
          = Counts.of (planCounts p) a.1.denom + a.2 := Counts.of_plus_self _ _ _ hda
        _ = a.2 := by rw [of_planCounts_eq_zero hne, Nat.zero_add]
    · exact (Counts.of_plus_ne _ _ _ _ (hne q hq).symm).trans (ih hn hd q hq)

theorem planTotal_eq_sum (p : MakePlan) : planTotal p = (p.map fun q => q.2 * q.1.face).foldr (· + ·) 0 := by
  induction p with
  | nil => rfl
  | cons q p ih => exact congrArg (q.2 * q.1.face + ·) ih

end Sys2Proof.Machine

open Sys2Proof Sys2Proof.Machine

/-- Settles O31: the plan behind the outcome keeps the bounds, and each line reads its own count of it. -/
theorem acceptedMakeUpKeepsItsBounds : Obligations.AcceptedMakeUpKeepsItsBounds := by
  intro v tol lines plan total short hl hn h
  obtain ⟨p, rfl, hp, ho⟩ := makeUp_accepted (fun l hm => (hl l hm).1) h
  obtain ⟨rfl, rfl, hv, ht⟩ := makeOutcome_accepted ho
  have hof := of_planCounts hn fun q hq => (hl q.1 (List.mem_map_of_mem hq)).2
  refine ⟨fun l hm => ?_, ?_, hv, ht⟩
  · obtain ⟨q, hq, rfl⟩ := List.mem_map.mp hm
    rw [hof q hq]
    exact hp q hq
  · rw [planTotal_eq_sum, List.map_map]
    exact congrArg _ (List.map_congr_left fun q hq => by simp only [Function.comp, hof q hq])
end

section
/-! Templates (O30), the handover of a float (O33) and the figure of a till's sales (O35). -/

-- One theorem at a time: the whole text holds more theorems than the check has room for threads.
set_option Elab.async false

namespace Sys2Proof.Machine

variable {s t : State}

/-! ### SET TEMPLATE -/

theorem doSetTemplate_stores {q : SetTemplateReq} (hm : s.office.mode = .hold) (hr : templateInRange q = true)
    (he : ∀ e ∈ q.entries, s.isNote e.denom = true ∨ s.isRoll e.denom = true) :
    doSetTemplate q s = (okReply [], s.setTemplate q.cls (some (templateOf q))) := by
  have hf : (q.entries.find? fun e => !(s.isNote e.denom || s.isRoll e.denom)) = none :=
    List.find?_eq_none.mpr fun e hm => by simpa only [Bool.not_eq_true', Bool.not_eq_false, Bool.or_eq_true] using he e hm
  unfold doSetTemplate
  rw [if_neg (by simp [hm]), if_neg (by simp [hr]), hf]

/-! ### FLOAT HANDED and ACCEPT SHORT -/

/-- The till whose float is handed over opens its session. -/
theorem till_handedOver {k n : Nat} (hn : n < 256) (c : Counts) (s : State) :
    (handedOver k n c s).till n = issuedTill (s.till n) c (s.valueOf c) :=
  till_setTill_self (releaseEntry k s) n _ hn

theorem doFloatHanded_issues {n op k : Nat} {b : Build} (hn : n ≤ 255)
    (hb : s.buildIn n (· = .awaitingHandover) = some (k, b)) (ho : s.oneOperator op = true)
    (hg : applyGroup 1 (issueGroup k n op b.dispensed (s.rollsOf b.plan)) s = .ok t) :
    let c := Counts.add b.dispensed (s.rollsOf b.plan)
    doFloatHanded ⟨n, op⟩ s = (okReply ([u5 (t.valueOf c), u2 (nextNumber 65535 (t.till n).session)]
      ++ listField (s.numbersOf (issueGroup k n op b.dispensed (s.rollsOf b.plan)).length) fun x => [u4 x]),
      settle (handedOver k n c t)) := by
  unfold doFloatHanded
  rw [if_neg (Nat.not_lt.mpr hn)]
  simp only [hb, ho, hg, till_handedOver (Nat.lt_succ_of_le hn)]
  rfl

theorem doAcceptShort_issues {n op k : Nat} {b : Build} (hn : n ≤ 255)
    (hb : s.buildIn n (· = .short) = some (k, b)) (ho : s.oneOperator op = true)
    (hg : applyGroup 1 (issueGroup k n op b.dispensed (s.shortRolls k b)) s = .ok t) :
    let c := Counts.add b.dispensed (s.shortRolls k b)
    doAcceptShort ⟨n, op⟩ s = (okReply [u5 (t.valueOf c)], settle (handedOver k n c t)) := by
  unfold doAcceptShort
  rw [if_neg (Nat.not_lt.mpr hn)]
  simp only [hb, ho, hg, till_handedOver (Nat.lt_succ_of_le hn)]
  rfl

/-! ### REPORT SALES -/

@[simp] theorem till_notify (b : NoticeBody) (s : State) (n : Nat) : (notify b s).till n = s.till n := by simp [State.till]

/-- A till record with another figure of sales. -/
def TillRec.withSales (r : TillRec) (v : Int) : TillRec := { r with sales := v }

/-- A till record with another advised mark. -/
def TillRec.withAdvised (r : TillRec) (a : Bool) : TillRec := { r with advised := a }

theorem doReportSales_badField {n : Nat} {v : Int} (h : 255 < n ∨ v < -549755813888 ∨ 549755813888 < v) :
    doReportSales ⟨n, v⟩ s = (refusal .badField, s) := if_pos h

theorem doReportSales_wrongState {n : Nat} {v : Int} (hn : n ≤ 255) (hl : -549755813888 ≤ v) (hu : v ≤ 549755813888)
    (ht : takesSales (s.till n).state = false) : doReportSales ⟨n, v⟩ s = (refusal .wrongState, s) := by
  unfold doReportSales
  rw [if_neg (by simp only [Config.maxSales]; omega), if_pos (by rw [ht]; rfl)]
  rfl

/-- A till that takes the figure: the reply is formed from its record after the figure's follow-up. -/
theorem doReportSales_taken {n : Nat} {v : Int} (hn : n ≤ 255) (hl : -549755813888 ≤ v) (hu : v ≤ 549755813888)
    (ht : takesSales (s.till n).state = true) (hf : salesFollow n (s.setTill n ((s.till n).withSales v)) = t) :
    doReportSales ⟨n, v⟩ s = (okReply (u1 (t.till n).state.code :: (t.till n).figure), t) := by
  subst hf
  unfold doReportSales
  rw [if_neg (by simp only [Config.maxSales]; omega), if_neg (by rw [ht]; decide)]
  rfl

/-- Pickup advice changes of the till's record the advised mark alone. -/
theorem adviseTill_till {n : Nat} (hn : n < 256) (s : State) : ∃ a, (adviseTill n s).till n = (s.till n).withAdvised a := by
  unfold adviseTill
  dsimp only
  split
  · split
    · exact ⟨(s.till n).advised, rfl⟩
    · exact ⟨true, (till_notify ..).trans (till_setTill_self s n _ hn)⟩
  · exact ⟨false, till_setTill_self s n _ hn⟩

/-- Pickup advice on a till whose record has just been written (R71). -/
theorem adviseTill_setTill {n : Nat} (hn : n < 256) (r : TillRec) (s : State) :
    adviseTill n (s.setTill n r) = if r.drawer ≤ s.pickupLimit r then (s.setTill n r).setTill n { r with advised := false }
      else if r.advised = true then s.setTill n r
      else notify (.pickupDue n r.drawer (s.pickupLimit r)) ((s.setTill n r).setTill n { r with advised := true }) := by
  unfold adviseTill
  rw [till_setTill_self s n r hn]
  have hlimit : (s.setTill n r).pickupLimit r = s.pickupLimit r := rfl
  dsimp only
  rw [hlimit]
  by_cases h : r.drawer ≤ s.pickupLimit r
  · rw [if_pos h, if_neg (Int.not_lt.mpr h)]
  · rw [if_neg h, if_pos (Int.not_le.mp h)]

theorem bandState_eq (b : Band) : bandState b = if b = .exception then .exception else .reconciled := by
  cases b <;> rfl

/-- A figure taken after the count: the till's record with its variance formed and banded again (R76). -/
theorem rebandTill_setTill {n : Nat} (hn : n < 256) (r : TillRec) (s : State) :
    rebandTill n (s.setTill n r) = if r.state = .reconciled ∧ (reconcile s r).state = .exception
      then notify (exceptionNotice n (reconcile s r)) ((s.setTill n r).setTill n (reconcile s r))
      else (s.setTill n r).setTill n (reconcile s r) := by
  unfold rebandTill
  rw [till_setTill_self s n r hn]
  rfl

theorem rebandTill_till {n : Nat} (hn : n < 256) (s : State) : (rebandTill n s).till n = reconcile s (s.till n) := by
  unfold rebandTill
  dsimp only
  split
  · exact (till_notify ..).trans (till_setTill_self s n _ hn)
  · exact till_setTill_self s n _ hn

/-- The band sends the till to RECONCILED or to EXCEPTION (R75). -/
theorem reconcile_state (s : State) (r : TillRec) :
    (reconcile s r).state = .reconciled ∨ (reconcile s r).state = .exception := by
  rw [reconcile, bandState_eq]
  dsimp only
  split
  · exact .inr rfl
  · exact .inl rfl

/-- The reply's figure of a reconciled till is its variance. -/
theorem figure_reconcile (s : State) (r : TillRec) :
    (reconcile s r).figure = [i6 ((r.returned.getD 0 : Nat) - r.drawer)] := by
  unfold TillRec.figure
  rcases reconcile_state s r with h | h <;> rw [h] <;> rfl

theorem salesFollow_trading {n : Nat} (hn : n < 256) {r : TillRec} (hr : r.state = .trading ∨ r.state = .pickup) (s : State) :
    salesFollow n (s.setTill n r) = adviseTill n (s.setTill n r) := by
  unfold salesFollow
  rw [till_setTill_self s n r hn]
  rcases hr with hr | hr <;> rw [hr]

theorem salesFollow_returning {n : Nat} (hn : n < 256) {r : TillRec} (hr : r.state = .returning) (s : State) :
    salesFollow n (s.setTill n r) = s.setTill n r := by
  unfold salesFollow
  rw [till_setTill_self s n r hn, hr]

theorem salesFollow_reconciled {n : Nat} (hn : n < 256) {r : TillRec}
    (hr : r.state = .reconciled ∨ r.state = .exception) (s : State) :
    salesFollow n (s.setTill n r) = rebandTill n (s.setTill n r) := by
  unfold salesFollow
  rw [till_setTill_self s n r hn]
  rcases hr with hr | hr <;> rw [hr]

/-- The reply's figure of a till in TRADING or PICKUP is D. -/
theorem figure_trading {r : TillRec} (hr : r.state = .trading ∨ r.state = .pickup) : r.figure = [i6 r.drawer] := by
  unfold TillRec.figure
  rcases hr with hr | hr <;> rw [hr]

/-- REPORT SALES in TRADING or PICKUP: D in the reply, and pickup advice (R70, R71). -/
theorem doReportSales_trading {n : Nat} {v : Int} (hn : n ≤ 255) (hl : -549755813888 ≤ v) (hu : v ≤ 549755813888)
    (ht : (s.till n).state = .trading ∨ (s.till n).state = .pickup) : doReportSales ⟨n, v⟩ s =
      (okReply [u1 (s.till n).state.code, i6 ((s.till n).withSales v).drawer],
        adviseTill n (s.setTill n ((s.till n).withSales v))) := by
  have hlt : n < 256 := Nat.lt_succ_of_le hn
  have hst : ((s.till n).withSales v).state = .trading ∨ ((s.till n).withSales v).state = .pickup := ht
  obtain ⟨a, ha⟩ := adviseTill_till hlt (s.setTill n ((s.till n).withSales v))
  have hfig : (((s.till n).withSales v).withAdvised a).figure = [i6 ((s.till n).withSales v).drawer] := figure_trading hst
  rw [doReportSales_taken hn hl hu (by rcases ht with ht | ht <;> rw [ht] <;> rfl) (salesFollow_trading hlt hst s), ha,
    till_setTill_self s n _ hlt, hfig]
  rfl

/-- REPORT SALES in RETURNING: the figure alone (log entry 81). -/
theorem doReportSales_returning {n : Nat} {v : Int} (hn : n ≤ 255) (hl : -549755813888 ≤ v) (hu : v ≤ 549755813888)
    (ht : (s.till n).state = .returning) :
    doReportSales ⟨n, v⟩ s = (okReply [u1 5], s.setTill n ((s.till n).withSales v)) := by
  have hlt : n < 256 := Nat.lt_succ_of_le hn
  have hst : ((s.till n).withSales v).state = .returning := ht
  rw [doReportSales_taken hn hl hu (by rw [ht]; rfl) (salesFollow_returning hlt hst s), till_setTill_self s n _ hlt,
    TillRec.figure, hst]
  rfl

/-- REPORT SALES in RECONCILED or EXCEPTION: the variance in the reply, formed and banded again (R70, R76). -/
theorem doReportSales_reconciled {n : Nat} {v : Int} (hn : n ≤ 255) (hl : -549755813888 ≤ v) (hu : v ≤ 549755813888)
    (ht : (s.till n).state = .reconciled ∨ (s.till n).state = .exception) :
    doReportSales ⟨n, v⟩ s = (okReply [u1 (reconcile s ((s.till n).withSales v)).state.code,
        i6 (((s.till n).returned.getD 0 : Nat) - ((s.till n).withSales v).drawer)],
      rebandTill n (s.setTill n ((s.till n).withSales v))) := by
  have hlt : n < 256 := Nat.lt_succ_of_le hn
  have hst : ((s.till n).withSales v).state = .reconciled ∨ ((s.till n).withSales v).state = .exception := ht
  have hrec : reconcile (s.setTill n ((s.till n).withSales v)) ((s.till n).withSales v) =
    reconcile s ((s.till n).withSales v) := rfl
  rw [doReportSales_taken hn hl hu (by rcases ht with ht | ht <;> rw [ht] <;> rfl) (salesFollow_reconciled hlt hst s),
    rebandTill_till hlt, till_setTill_self s n _ hlt, hrec, figure_reconcile]
  rfl

end Sys2Proof.Machine

open Sys2Proof Sys2Proof.Machine

/-- Settles O30: no check of R49 holds the request back, and T_review is the greater of the two. -/
theorem setTemplateStoresTheFields : Obligations.SetTemplateStoresTheFields := by
  intro tag q s hs hm hr he
  have hx : templateOf q = ⟨q.target, q.short, q.pickupLimit, q.tolOk, Nat.max q.tolOk q.tolReview, q.entries⟩ :=
    congrArg (fun x => (⟨q.target, q.short, q.pickupLimit, q.tolOk, x, q.entries⟩ : Template)) (Nat.max_comm ..)
  rw [← hx]
  exact exec_ready hs rfl (doSetTemplate_stores (s := heard s) hm hr he)

/-- Settles O33: the build is the till's, the group is applied, and the handover writes the till's record. -/
theorem handoverOpensTheSession : Obligations.HandoverOpensTheSession := by
  intro tag n op k b s s1 rolls hs hn ht ho hb hop hg
  refine ⟨fun hst hr => ?_, fun hst hr => ?_⟩ <;> subst hr
  · exact exec_ready hs rfl (doFloatHanded_issues (s := heard s) hn (buildIn_eq ht ho hb (by simp [hst])) hop hg)
  · exact exec_ready hs rfl (doAcceptShort_issues (s := heard s) hn (buildIn_eq ht ho hb (by simp [hst])) hop hg)
/-- Settles O35: the checks, and the follow-up of each of the till's states. -/
theorem reportSalesFormsTheFigures : Obligations.ReportSalesFormsTheFigures := by
  refine ⟨fun tag n v s hs => ⟨fun h => exec_ready hs rfl (doReportSales_badField h), fun hn hl hu ht => ?_⟩, ?_⟩
  · refine exec_ready hs rfl (doReportSales_wrongState hn hl hu ?_)
    rw [heard_till]
    rcases ht with ht | ht | ht <;> rw [ht] <;> rfl
  · intro tag n v s hs hn hl hu r u d limit
    have hlt : n < 256 := Nat.lt_succ_of_le hn
    refine ⟨fun ht => ?_, fun ht => exec_ready hs rfl (doReportSales_returning (s := heard s) hn hl hu ht), ?_⟩
    · rw [exec_ready hs rfl (doReportSales_trading (s := heard s) hn hl hu ht), adviseTill_setTill hlt]
      rfl
    · intro ht x ok review band st w
      have hst : (reconcile s r).state = st := bandState_eq _
      have hrec : reconcile s r = { r with variance := some x, band := some band, state := st, accepted := false } := by
        rw [← hst]; rfl
      rw [exec_ready hs rfl (doReportSales_reconciled (s := heard s) hn hl hu ht), rebandTill_setTill hlt]
      have hr : reconcile (heard s) (((heard s).till n).withSales v) = reconcile s r := rfl
      rw [hr, hrec]
      rfl
end

section
/-! What a group of movements brings into each position and into custody, and the group of an acceptance (R29, R109 to R114). -/

-- One theorem at a time: the whole text holds more theorems than the check has room for threads.
set_option Elab.async false

namespace Sys2Proof.Machine

variable {s t : State} {m : Movement} {l : List Movement} {k n p d : Nat}

/-! ### Counts -/

theorem of_add (a b : Counts) (hd : d < 12) : Counts.of (Counts.add a b) d = Counts.of a d + Counts.of b d :=
  get_ofFn 0 _ hd

theorem of_sub (a b : Counts) (hd : d < 12) : Counts.of (Counts.sub a b) d = Counts.of a d - Counts.of b d :=
  get_ofFn 0 _ hd

theorem of_countsMin (a b : Counts) (hd : d < 12) :
    Counts.of (countsMin a b) d = min (Counts.of a d) (Counts.of b d) := get_ofFn 0 _ hd

theorem getElem?_mapFrom {α β : Type} (f : Nat → α → β) (k : Nat) (l : List α) (i : Nat) :
    (mapFrom f k l)[i]? = (l[i]?).map (f (k + i)) := by
  induction l generalizing k i with
  | nil => rfl
  | cons a l ih =>
    cases i with
    | zero => rfl
    | succ i => rw [mapFrom, List.getElem?_cons_succ, ih, List.getElem?_cons_succ, Nat.add_right_comm]; rfl

theorem of_countsOnly (keep : Nat → Bool) (c : Counts) (d : Nat) :
    Counts.of (countsOnly keep c) d = if keep d = true then Counts.of c d else 0 := by
  simp only [Counts.of, Tab.get, countsOnly, Tab.mapIdx, List.getD_eq_getElem?_getD, getElem?_mapFrom, Nat.zero_add]
  cases c.list[d]? <;> cases keep d <;> rfl

/-- The pairs of some counts come to them again. -/
theorem of_pairCounts_pairsOf (c : Counts) (hd : d < 12) : Counts.of (pairCounts (pairsOf c)) d = Counts.of c d := by
  suffices ∀ ds : List Nat, ds.Nodup →
      Counts.of (pairCounts ((ds.map fun e => (⟨e, Counts.of c e⟩ : Pair)).filter fun q => q.count ≠ 0)) d =
        if d ∈ ds then Counts.of c d else 0 from
    (this denoms List.nodup_range).trans (if_pos (List.mem_range.mpr hd))
  intro ds hn
  induction ds with
  | nil => exact of_zero d
  | cons e ds ih =>
    obtain ⟨he, hn⟩ := List.nodup_cons.mp hn
    rw [List.map_cons, List.filter_cons]
    by_cases hed : e = d
    · subst hed
      have hz := ih hn
      rw [if_neg he] at hz
      rw [if_pos List.mem_cons_self]
      split
      · rw [of_pairCounts_cons _ _ hd, hz, if_pos rfl, Nat.zero_add]
      · next h => rw [hz]; exact Eq.symm (by simpa using h)
    · have hm : d ∈ e :: ds ↔ d ∈ ds := by simp [Ne.symm hed]
      simp only [hm]
      split
      · rw [of_pairCounts_cons _ _ hd, ih hn, if_neg hed, Nat.add_zero]
      · exact ih hn

/-! ### One movement -/

/-- How many items of denomination `d` the movement brings into position `p`, less those it takes out. -/
def Movement.into (m : Movement) (p d : Nat) : Int :=
  (if m.dst = .pos p then (Counts.of (pairCounts m.pairs) d : Int) else 0)
    - (if m.src = .pos p then (Counts.of (pairCounts m.pairs) d : Int) else 0)

/-- How many items of denomination `d` the movement brings into custody, less those it takes out. -/
def Movement.intoCustody (m : Movement) (d : Nat) : Int :=
  (if m.src.position = none then (Counts.of (pairCounts m.pairs) d : Int) else 0)
    - (if m.dst.position = none then (Counts.of (pairCounts m.pairs) d : Int) else 0)

theorem into_empty (h : m.pairs = []) (p d : Nat) : m.into p d = 0 := by
  simp [Movement.into, h, pairCounts, of_zero]

theorem intoCustody_empty (h : m.pairs = []) (d : Nat) : m.intoCustody d = 0 := by
  simp [Movement.intoCustody, h, pairCounts, of_zero]

theorem held_applyMovement (hf : m.Fits s) (hp : p < 177) (hd : d < 12) :
    ((applyMovement m s).held p d : Int) = s.held p d + m.into p d := by
  rw [held_of_kept (applyMovement_kept m s), held_moveCounts hf hp hd, Movement.into]
  omega

/-- A movement that fits keeps the law of the totals, which change with the sums. -/
theorem totals_applyMovement (hf : m.Fits s) (hl : s.totalsLaw) : (applyMovement m s).totalsLaw ∧
    ∀ d < 12, (Counts.of (applyMovement m s).book.totals d : Int) = Counts.of s.book.totals d + m.intoCustody d := by
  have ht : (applyMovement m s).book.totals = (moveCounts m s).book.totals := congrArg Kept.totals (applyMovement_kept m s)
  refine ⟨fun d hd => ?_, fun d hd => ?_⟩
  · have hsum := custodySum_moveCounts hf hd
    have htot := totals_moveCounts hf hl hd
    have hlaw := hl d hd
    rw [ht, custodySum_eq, applyMovement_kept, ← custodySum_eq]
    omega
  · rw [ht, totals_moveCounts hf hl hd, Movement.intoCustody]
    omega

/-! ### A group -/

theorem held_applyGroup (hg : applyGroup k l s = .ok t) (hp : p < 177) (hd : d < 12) :
    (t.held p d : Int) = s.held p d + (l.map fun m => m.into p d).sum := by
  induction l generalizing k s with
  | nil => cases hg; simp
  | cons m l ih =>
    unfold applyGroup at hg
    split at hg
    · cases hg
    · next hc =>
      rw [ih hg, held_applyMovement (fits_of_check hc) hp hd, List.map_cons, List.sum_cons]
      omega

theorem totals_applyGroup (hg : applyGroup k l s = .ok t) (hl : s.totalsLaw) (hd : d < 12) :
    (Counts.of t.book.totals d : Int) = Counts.of s.book.totals d + (l.map fun m => m.intoCustody d).sum := by
  induction l generalizing k s with
  | nil => cases hg; simp
  | cons m l ih =>
    unfold applyGroup at hg
    split at hg
    · cases hg
    · next hc =>
      obtain ⟨hlaw, htot⟩ := totals_applyMovement (fits_of_check hc) hl
      rw [ih hg hlaw, htot d hd, List.map_cons, List.sum_cons]
      omega

/-- Movements without a pair add nothing to a sum in which such a movement counts nothing. -/
theorem sum_withPairs {f : Movement → Int} (hf : ∀ m : Movement, m.pairs = [] → f m = 0) (l : List Movement) :
    ((withPairs l).map f).sum = (l.map f).sum := by
  induction l with
  | nil => rfl
  | cons m l ih =>
    have ih : ((l.filter fun m => !m.pairs.isEmpty).map f).sum = (l.map f).sum := ih
    rw [withPairs, List.filter_cons, List.map_cons, List.sum_cons, ← ih]
    split
    · rfl
    · next h => rw [hf m (by simpa using h), zero_add]

/-! ### The group of an acceptance, R109 to R114 -/

/-- The position from which the recorded counts of a lot's source go (R112, R113). -/
def sourcePos (n : Nat) : LotSource → Option Nat
  | .pickup _ | .ret _ => none
  | .container k => some (containerPos k)
  | .reserveRecount _ => some reservePos
  | .purge m => some (purgePos m)
  | .stranded _ => some (lotPos n)

/-- The position to which the disposal's movement goes (R114). -/
def disposalPos : Disposal → Nat
  | .container k => containerPos k
  | .reserve | .deposit => reservePos

/-- What the disposal's movement takes of the lot: a deposit leaves it its notes (R114). -/
def State.disposed (s : State) (d : Disposal) (c : Counts) : Counts :=
  match d with
  | .deposit => countsOnly (fun e => !s.isNote e) c
  | .reserve | .container _ => c

theorem into_countMove (kind : MoveKind) (a b : Side) (c : Counts) (op p : Nat) (hd : d < 12) :
    (countMove kind a b c op).into p d = (if b = .pos p then (Counts.of c d : Int) else 0)
      - (if a = .pos p then (Counts.of c d : Int) else 0) := by
  simp only [Movement.into, countMove, of_pairCounts_pairsOf c hd]

theorem intoCustody_countMove (kind : MoveKind) (a b : Side) (c : Counts) (op : Nat) (hd : d < 12) :
    (countMove kind a b c op).intoCustody d = (if a.position = none then (Counts.of c d : Int) else 0)
      - (if b.position = none then (Counts.of c d : Int) else 0) := by
  simp only [Movement.intoCustody, countMove, of_pairCounts_pairsOf c hd]

/-- The source's movements bring the counted items into the lot and the suspects into SUSPECT, and take the recorded ones. -/
theorem into_sourceMoves (n op : Nat) (x : LotRec) (s : State) (p : Nat) (hd : d < 12) :
    ((sourceMoves n op x (s.recorded n x.source)).map fun m => m.into p d).sum =
      (if lotPos n = p then (Counts.of x.counted d : Int) else 0)
        + (if suspectPos = p then (Counts.of x.suspects d : Int) else 0)
        - (if sourcePos n x.source = some p then (Counts.of (s.recorded n x.source) d : Int) else 0) := by
  generalize hr : s.recorded n x.source = r
  unfold sourceMoves sourcePos
  cases hs : x.source <;>
    simp only [List.map_cons, List.map_nil, List.sum_cons, List.sum_nil, into_countMove _ _ _ _ _ _ hd, Side.pos.injEq,
      Option.some.injEq, reduceCtorEq, if_false, of_sub _ _ hd, of_countsMin _ _ hd]
  case pickup | ret => omega
  case reserveRecount | purge => omega
  case container => split_ifs <;> omega
  case stranded => split_ifs <;> omega

/-- They bring in what was counted and suspected, and take out what was recorded. -/
theorem intoCustody_sourceMoves (n op : Nat) (x : LotRec) (s : State) (hd : d < 12) :
    ((sourceMoves n op x (s.recorded n x.source)).map fun m => m.intoCustody d).sum =
      (Counts.of x.counted d : Int) + Counts.of x.suspects d - Counts.of (s.recorded n x.source) d := by
  unfold sourceMoves
  cases hs : x.source <;>
    simp only [List.map_cons, List.map_nil, List.sum_cons, List.sum_nil, intoCustody_countMove _ _ _ _ _ hd, Side.position,
      reduceCtorEq, if_false, if_true, of_sub _ _ hd, of_countsMin _ _ hd, State.recorded]
  case pickup | ret => simp [of_zero]
  case reserveRecount | purge => omega
  case container => omega
  case stranded => omega

theorem disposalMoves_eq (s : State) (n op : Nat) (x : Disposal) (c : Counts) :
    ∃ kind, disposalMoves s n op x c =
      [countMove kind (.pos (lotPos n)) (.pos (disposalPos x)) (s.disposed x c) op] := by
  cases x <;> exact ⟨_, rfl⟩

/-- Every count after an acceptance's group. -/
theorem held_acceptGroup {op : Nat} {x : LotRec} {disp : Disposal}
    (hg : applyGroup k (s.acceptGroup n op disp x) s = .ok t) (hp : p < 177) (hd : d < 12) :
    (t.held p d : Int) = s.held p d + (if lotPos n = p then (Counts.of x.counted d : Int) else 0)
      + (if suspectPos = p then (Counts.of x.suspects d : Int) else 0)
      - (if sourcePos n x.source = some p then (Counts.of (s.recorded n x.source) d : Int) else 0)
      + (if disposalPos disp = p then (Counts.of (s.disposed disp (s.afterSource n x)) d : Int) else 0)
      - (if lotPos n = p then (Counts.of (s.disposed disp (s.afterSource n x)) d : Int) else 0) := by
  obtain ⟨kind, hdisp⟩ := disposalMoves_eq s n op disp (s.afterSource n x)
  rw [held_applyGroup hg hp hd, State.acceptGroup, sum_withPairs fun m h => into_empty h p d, hdisp, List.map_append,
    List.sum_append, into_sourceMoves n op x s p hd, List.map_singleton, List.sum_singleton, into_countMove _ _ _ _ _ _ hd]
  simp only [Side.pos.injEq]
  omega

/-- The custody totals after an acceptance's group. -/
theorem totals_acceptGroup {op : Nat} {x : LotRec} {disp : Disposal}
    (hg : applyGroup k (s.acceptGroup n op disp x) s = .ok t) (hl : s.totalsLaw) (hd : d < 12) :
    (Counts.of t.book.totals d : Int) = Counts.of s.book.totals d
      + (Counts.of x.counted d + Counts.of x.suspects d - Counts.of (s.recorded n x.source) d) := by
  obtain ⟨kind, hdisp⟩ := disposalMoves_eq s n op disp (s.afterSource n x)
  rw [totals_applyGroup hg hl hd, State.acceptGroup, sum_withPairs fun m h => intoCustody_empty h d, hdisp,
    List.map_append, List.sum_append, intoCustody_sourceMoves n op x s hd, List.map_singleton, List.sum_singleton,
    intoCustody_countMove _ _ _ _ _ hd]
  simp only [Side.position, reduceCtorEq, if_false]
  omega

end Sys2Proof.Machine
end

section
/-! What follows at a lot, its source and its station when its acceptance is booked (R73, R75, R112, R114, R115). -/

-- One theorem at a time: the whole text holds more theorems than the check has room for threads.
set_option Elab.async false

namespace Sys2Proof.Machine

variable {s t u : State} {k n : Nat} {l : LotRec} {d : Disposal}

/-! ### Releases: what a slot given up may take along -/

/-- From `s` to `t` slots may have been released: the desk, the stations and the jobs are as they were, and each lot and each
container has its record as it was, or none any more. -/
structure Releases (s t : State) : Prop where
  desk : t.desk = s.desk
  stations : t.count.stations = s.count.stations
  jobs : t.count.jobs = s.count.jobs
  lot : ∀ n, t.lot n = s.lot n ∨ t.lot n = none
  container : ∀ k, t.container k = s.container k ∨ t.container k = none

theorem Releases.of_eq (hd : t.desk = s.desk) (hc : t.count = s.count) (hb : t.bay.containers = s.bay.containers) :
    Releases s t :=
  ⟨hd, by rw [hc], by rw [hc], fun n => .inl (by simp only [State.lot, hc]),
    fun k => .inl (by simp only [State.container, hb])⟩

theorem Releases.refl (s : State) : Releases s s := .of_eq rfl rfl rfl

theorem Releases.trans (h : Releases s t) (g : Releases t u) : Releases s u where
  desk := g.desk.trans h.desk
  stations := g.stations.trans h.stations
  jobs := g.jobs.trans h.jobs
  lot n := (g.lot n).elim (fun e => e ▸ h.lot n) .inr
  container k := (g.container k).elim (fun e => e ▸ h.container k) .inr

theorem lot_setLot_none (s : State) (i n : Nat) : (s.setLot i none).lot n = s.lot n ∨ (s.setLot i none).lot n = none := by
  by_cases h : i = n
  · subst h
    by_cases hi : i < 64
    · exact .inr (lot_setLot_self s i none hi)
    · exact .inr (Tab.get_out none _ i (Nat.le_of_not_lt hi))
  · exact .inl (lot_setLot_ne s i n none h)

theorem container_setContainer_none (s : State) (i k : Nat) :
    (s.setContainer i none).container k = s.container k ∨ (s.setContainer i none).container k = none := by
  by_cases h : i = k
  · subst h
    by_cases hi : i < 96
    · exact .inr (container_setContainer_self s i none hi)
    · exact .inr (Tab.get_out none _ i (Nat.le_of_not_lt hi))
  · exact .inl (container_setContainer_ne s i k none h)

theorem releases_setPosRec (p : Nat) (x : PosRec) (s : State) : Releases s (s.setPosRec p x) := .of_eq rfl rfl rfl

theorem releases_notify (b : NoticeBody) (s : State) : Releases s (notify b s) := .of_eq (by simp) (by simp) (by simp)

theorem releases_completeRelease (p : Nat) (s : State) : Releases s (completeRelease p s) := by
  unfold completeRelease
  dsimp only
  split
  · exact (releases_setPosRec ..).trans
      ⟨rfl, rfl, rfl, lot_setLot_none _ _, fun _ => .inl rfl⟩
  · exact (releases_setPosRec ..).trans
      ⟨rfl, rfl, rfl, fun _ => .inl rfl, container_setContainer_none _ _⟩
  · exact releases_setPosRec ..

theorem releases_clearMarks (p : Nat) (s : State) : Releases s (clearMarks p s) := by
  unfold clearMarks
  dsimp only
  split
  · exact (releases_setPosRec ..).trans (releases_completeRelease ..)
  · exact releases_setPosRec ..

theorem releases_settlePosition (p : Nat) (x : SettleReason) (s : State) : Releases s (settlePosition p x s) := by
  unfold settlePosition
  split
  · exact (Releases.of_eq (by simp) (by simp) (by simp)).trans (releases_clearMarks ..)
  · exact releases_clearMarks ..

theorem releases_tryRelease (p : Nat) (s : State) : Releases s (tryRelease p s) := by
  unfold tryRelease
  dsimp only
  split
  · exact .refl s
  split
  · exact releases_setPosRec ..
  · exact releases_settlePosition ..

/-- All that a release asked for can bring about beyond the book (R11, R12). -/
theorem releases_requestRelease (p : Nat) (s : State) : Releases s (requestRelease p s) := by
  unfold requestRelease
  dsimp only
  split
  · exact .refl s
  · exact (releases_setPosRec ..).trans (releases_tryRelease ..)

/-! ### The bay -/

theorem releases_enterCons (k : Nat) (x : ConsState) (s : State) : Releases s (enterCons k x s) := by
  unfold enterCons
  split
  · split
    · exact .refl s
    · exact Releases.trans (t := s.setConsignment k _) (.of_eq rfl rfl rfl) (releases_notify ..)
  · exact .refl s

theorem releases_examineWindow (k : Nat) (s : State) : Releases s (examineWindow k s) := by
  unfold examineWindow
  split
  · split
    · exact releases_enterCons ..
    split
    · exact releases_enterCons ..
    · exact .refl s
  · exact .refl s

theorem releases_lockOffice (s : State) : Releases s (lockOffice s) := by
  have h : ∀ x : Doors, Releases s (s.setDoors x) := fun _ => .of_eq rfl rfl rfl
  unfold lockOffice
  dsimp only
  split
  · split
    · split
      · exact ((h _).trans (releases_enterCons ..)).trans (releases_examineWindow ..)
      · exact h _
    · exact h _
  · exact h _

/-- What follows at the bay changes no record of a container, and nothing outside the bay. -/
theorem releases_bayAfter (s : State) : Releases s (bayAfter s) := by
  have h : Releases s (owedUnlock s) := by
    unfold owedUnlock
    split
    · exact .of_eq rfl rfl rfl
    · exact .refl s
  refine h.trans ?_
  unfold bayAfter settleOffice
  dsimp only
  split
  · exact .refl _
  split
  · split
    · exact .of_eq rfl rfl rfl
    · exact releases_lockOffice _
  · exact .of_eq rfl rfl rfl

/-! ### The container source, R112 -/

/-- A container whose release is asked: RELEASING, without a count lot and declared counts. -/
def ContRec.releasing (c : ContRec) : ContRec :=
  { c with state := .releasing, consignment := none, declared := none, countLot := none }

/-- An acceptance touches the record of a container source alone; where there is one it is then RELEASING, or gone. -/
theorem containerAccepts_releases (l : LotRec) (s : State) : ∃ u, Releases u (containerAccepts l s) ∧ u.desk = s.desk ∧
    u.count = s.count ∧ ∀ k, l.source = .container k →
      u.container k = none ∨ ∃ c : ContRec, u = s.setContainer k (some c.releasing) := by
  unfold containerAccepts
  split
  · next k hk =>
    unfold releaseContainer
    split
    · next c hc =>
      refine ⟨_, (releases_requestRelease ..).trans (releases_bayAfter _), rfl, rfl, fun j hj => .inr ⟨c, ?_⟩⟩
      cases hk.symm.trans hj; rfl
    · next hc =>
      refine ⟨s, releases_bayAfter s, rfl, rfl, fun j hj => .inl ?_⟩
      cases hk.symm.trans hj; exact hc
  · next hk => exact ⟨s, .refl s, rfl, rfl, fun j hj => absurd hj (hk j)⟩

/-- A container that is still recorded after its acceptance is RELEASING. -/
theorem container_containerAccepts (hl : l.source = .container k) (hk : k ≤ 95) {c : ContRec}
    (h : (containerAccepts l s).container k = some c) : ∃ c0 : ContRec, c = c0.releasing := by
  obtain ⟨u, hu, -, -, hsrc⟩ := containerAccepts_releases l s
  have huk : u.container k = some c := (hu.container k).elim (fun e => e ▸ h) (fun e => absurd (e.symm.trans h) nofun)
  obtain hnone | ⟨c0, rfl⟩ := hsrc k hl
  · exact absurd (hnone.symm.trans huk) nofun
  · rw [container_setContainer_self s k _ (Nat.lt_succ_of_le hk)] at huk
    exact ⟨c0, (Option.some.inj huk).symm⟩

/-! ### The till, R73, R75 -/

theorem tillAccepts_count_bay (l : LotRec) (s : State) :
    (tillAccepts l s).count = s.count ∧ (tillAccepts l s).bay = s.bay := by
  unfold tillAccepts adviseTill
  dsimp only
  (repeat' split) <;> simp

/-- A pickup: the till trades again, with the counted value among its pickups. -/
theorem till_tillAccepts_pickup (hl : l.source = .pickup k) (hk : k < 256) (s : State) : ∃ a, (tillAccepts l s).till k =
    TillRec.withAdvised { s.till k with
      pickups := (s.till k).pickups + l.countedValue, state := .trading, openLot := none } a := by
  unfold tillAccepts
  rw [hl]
  obtain ⟨a, ha⟩ := adviseTill_till hk (s.setTill k { s.till k with
    pickups := (s.till k).pickups + l.countedValue, state := .trading, openLot := none })
  rw [till_setTill_self s k _ hk] at ha
  exact ⟨a, ha⟩

/-- A return: the till takes the counted value and is reconciled. -/
theorem till_tillAccepts_ret (hl : l.source = .ret k) (hk : k < 256) (s : State) : (tillAccepts l s).till k =
    reconcile s { s.till k with returned := some l.countedValue, openLot := none } := by
  unfold tillAccepts
  rw [hl]
  dsimp only
  split
  · exact (till_notify ..).trans (till_setTill_self s k _ hk)
  · exact till_setTill_self s k _ hk

/-! ### The stations, R94, R114 -/

/-- From `s` to `t` only station records have changed. -/
def StationsOnly (s t : State) : Prop := ∃ x, t = { s with count := { s.count with stations := x } }

theorem StationsOnly.refl (s : State) : StationsOnly s s := ⟨_, rfl⟩

theorem StationsOnly.trans (h : StationsOnly s t) (g : StationsOnly t u) : StationsOnly s u := by
  obtain ⟨_, rfl⟩ := h
  obtain ⟨_, rfl⟩ := g
  exact ⟨_, rfl⟩

theorem stationsOnly_giveStack (k : Nat) (c : StackCommand) (s : State) : StationsOnly s (giveStack k c s) := by
  unfold giveStack
  dsimp only
  split
  · exact .refl s
  · exact ⟨_, rfl⟩

theorem stationsOnly_releaseToHand (k : Option Nat) (s : State) : StationsOnly s (releaseToHand k s) := by
  unfold releaseToHand
  split
  · exact (stationsOnly_giveStack ..).trans ⟨_, rfl⟩
  · exact .refl s

/-- An attached station without a STATION RESET pending takes a stack command. -/
theorem station_giveStack (h1 : 1 ≤ k) (h4 : k ≤ 4) (ha : (s.station k).state ≠ .absent)
    (ht : (s.station k).state ≠ .attaching) (hr : (s.station k).resetPending = false) (c : StackCommand) :
    (giveStack k c s).station k = { s.station k with pending := some c.record, lastStack := some c } := by
  have hn : ¬((s.station k).state = .absent ∨ (s.station k).state = .attaching ∨ (s.station k).resetPending = true) := by
    rintro (h | h | h)
    · exact ha h
    · exact ht h
    · rw [hr] at h; cases h
  unfold giveStack
  rw [if_neg hn]
  exact station_setStation_self s k _ (by omega)

theorem station_releaseToHand (h1 : 1 ≤ k) (h4 : k ≤ 4) (s : State) :
    (releaseToHand (some k) s).station k = { (giveStack k .releaseHand s).station k with stackLot := none } :=
  station_setStation_self _ k _ (by omega)

theorem countingHolder_eq (hc : l.counting = some k) (hs : (s.station k).stackLot = some n) :
    s.countingHolder n l = some k := by
  simp [State.countingHolder, hc, hs]

/-! ### The lot's way, R114, R115 -/

/-- A lot that is done: DISPOSED, or released already. -/
theorem finishLot_releases (n : Nat) (s : State) : ∃ u, Releases u (finishLot n s) ∧ u.desk = s.desk ∧
    u.count.stations = s.count.stations ∧ u.count.jobs = s.count.jobs ∧ u.bay = s.bay ∧
    ∀ r, n < 64 → u.lot n = some r → ∃ l, s.lot n = some l ∧ r = { l with state := .disposed } := by
  unfold finishLot
  split
  · next l hl =>
    refine ⟨_, releases_requestRelease .., ?_, ?_, ?_, ?_, fun r hn hr => ⟨l, hl, ?_⟩⟩
    · simp
    · simp
    · simp
    · simp
    · have : (s.setLot n (some { l with state := .disposed })).lot n = some r := by simpa [State.lot] using hr
      rw [lot_setLot_self s n _ hn] at this
      exact (Option.some.inj this).symm
  · next hl => exact ⟨s, .refl s, rfl, rfl, rfl, rfl, fun r _ hr => absurd (hl.symm.trans hr) nofun⟩

theorem afterAccept_deposit (hd : d = .deposit) (hn : l.hasNotes = true) (n : Nat) (s : State) :
    afterAccept n d l s = (match s.countingHolder n l with
      | some k => giveStack k .releaseIntake (s.setLot n (some { l with state := .disposing }))
      | none => s.setLot n (some { l with state := .disposing })) := if_pos ⟨hd, hn⟩

theorem afterAccept_done (h : d ≠ .deposit ∨ l.hasNotes = false) (n : Nat) (s : State) :
    afterAccept n d l s = finishLot n (releaseToHand (s.countingHolder n l) s) :=
  if_neg fun ⟨hd, hn⟩ => h.elim (· hd) (fun h => absurd (h.symm.trans hn) nofun)

/-- The rest of the lot's way touches neither the desk nor the jobs, and no container but one that is gone. -/
theorem afterAccept_rest (n : Nat) (d : Disposal) (l : LotRec) (s : State) : (afterAccept n d l s).desk = s.desk ∧
    (afterAccept n d l s).count.jobs = s.count.jobs ∧
    ∀ k, (afterAccept n d l s).container k = s.container k ∨ (afterAccept n d l s).container k = none := by
  unfold afterAccept
  split
  · dsimp only
    split
    · next k hk =>
      obtain ⟨_, hx⟩ := stationsOnly_giveStack k .releaseIntake (s.setLot n (some { l with state := .disposing }))
      rw [hx]
      exact ⟨rfl, rfl, fun _ => .inl rfl⟩
    · exact ⟨rfl, rfl, fun _ => .inl rfl⟩
  · obtain ⟨u, hu, hdesk, -, hjobs, hbay, -⟩ := finishLot_releases n (releaseToHand (s.countingHolder n l) s)
    obtain ⟨_, hx⟩ := stationsOnly_releaseToHand (s.countingHolder n l) s
    rw [hx] at hdesk hjobs hbay
    refine ⟨hu.desk.trans hdesk, hu.jobs.trans hjobs, fun k => ?_⟩
    have hk : u.container k = s.container k := by simp only [State.container, hbay]
    exact hk ▸ hu.container k

/-- A deposited lot is DISPOSING. -/
theorem lot_afterAccept_deposit (hd : d = .deposit) (hl : l.hasNotes = true) (hn : n < 64) (s : State) :
    (afterAccept n d l s).lot n = some { l with state := .disposing } := by
  have h := lot_setLot_self s n (some { l with state := .disposing }) hn
  rw [afterAccept_deposit hd hl]
  split
  · next k hk =>
    obtain ⟨_, hx⟩ := stationsOnly_giveStack k .releaseIntake (s.setLot n (some { l with state := .disposing }))
    rw [hx]
    exact h
  · exact h

/-- Another lot that is still recorded is DISPOSED. -/
theorem lot_afterAccept_done (h : d ≠ .deposit ∨ l.hasNotes = false) (hn : n < 64)
    (hs : s.lot n = some l ∨ s.lot n = none) {r : LotRec}
    (hr : (afterAccept n d l s).lot n = some r) : r = { l with state := .disposed } := by
  rw [afterAccept_done h] at hr
  obtain ⟨u, hu, -, -, -, -, hlot⟩ := finishLot_releases n (releaseToHand (s.countingHolder n l) s)
  have hur : u.lot n = some r := (hu.lot n).elim (fun e => e ▸ hr) (fun e => absurd (e.symm.trans hr) nofun)
  obtain ⟨l', hl', rfl⟩ := hlot r hn hur
  obtain ⟨_, hx⟩ := stationsOnly_releaseToHand (s.countingHolder n l) s
  rw [hx] at hl'
  have hsl : s.lot n = some l' := hl'
  rcases hs with hs | hs <;> cases hs.symm.trans hsl
  rfl

/-- The counting station that holds the stack of a deposited lot releases it to its intake. -/
theorem station_afterAccept_deposit (hd : d = .deposit) (hl : l.hasNotes = true) (h1 : 1 ≤ k) (h4 : k ≤ 4)
    (hc : l.counting = some k) (hs : (s.station k).stackLot = some n) (ha : (s.station k).state ≠ .absent)
    (ht : (s.station k).state ≠ .attaching) (hr : (s.station k).resetPending = false) :
    ((afterAccept n d l s).station k).pending = some .releaseIntake ∧
      ((afterAccept n d l s).station k).stackLot = some n := by
  have hg := station_giveStack (s := s.setLot n (some { l with state := .disposing })) h1 h4 ha ht hr .releaseIntake
  rw [afterAccept_deposit hd hl, countingHolder_eq hc hs]
  dsimp only
  rw [hg]
  exact ⟨rfl, hs⟩

/-- That of another lot releases it to hand, and names the lot no more. -/
theorem station_afterAccept_done (h : d ≠ .deposit ∨ l.hasNotes = false) (h1 : 1 ≤ k) (h4 : k ≤ 4)
    (hc : l.counting = some k) (hs : (s.station k).stackLot = some n) (ha : (s.station k).state ≠ .absent)
    (ht : (s.station k).state ≠ .attaching) (hr : (s.station k).resetPending = false) :
    ((afterAccept n d l s).station k).pending = some .releaseHand ∧
      ((afterAccept n d l s).station k).stackLot = none := by
  rw [afterAccept_done h, countingHolder_eq hc hs]
  obtain ⟨u, hu, -, hst, -, -, -⟩ := finishLot_releases n (releaseToHand (some k) s)
  have hk : (finishLot n (releaseToHand (some k) s)).station k = (releaseToHand (some k) s).station k := by
    simp only [State.station, hu.stations, hst]
  rw [hk, station_releaseToHand h1 h4, station_giveStack h1 h4 ha ht hr]
  exact ⟨rfl, rfl⟩

/-! ### The whole of an acceptance, R109 -/

/-- The record of an accepted lot, with its disposal and its operator. -/
def LotRec.accepted (l : LotRec) (d : Disposal) (op : Nat) : LotRec := { l with disposal := some d, operator := some op }

/-- The lot accepted and its job gone, before its source and its station follow. -/
def acceptedJob (n op : Nat) (d : Disposal) (l : LotRec) (s : State) : State :=
  jobLeaves n (s.setLot n (some (l.accepted d op)))

/-- When the till and the container source have followed, too. -/
def acceptedSource (n op : Nat) (d : Disposal) (l : LotRec) (s : State) : State :=
  containerAccepts (l.accepted d op) (tillAccepts (l.accepted d op) (acceptedJob n op d l s))

theorem acceptLot_eq (n op : Nat) (d : Disposal) (l : LotRec) (s : State) :
    acceptLot n op d l s = afterAccept n d (l.accepted d op) (acceptedSource n op d l s) := rfl

theorem till_acceptLot (n op : Nat) (d : Disposal) (l : LotRec) (s : State) (k : Nat) :
    (acceptLot n op d l s).till k = (tillAccepts (l.accepted d op) (acceptedJob n op d l s)).till k := by
  obtain ⟨u, hu, hdesk, -, -⟩ := containerAccepts_releases (l.accepted d op)
    (tillAccepts (l.accepted d op) (acceptedJob n op d l s))
  have h : (acceptLot n op d l s).desk = (tillAccepts (l.accepted d op) (acceptedJob n op d l s)).desk :=
    ((afterAccept_rest ..).1.trans hu.desk).trans hdesk
  simp only [State.till, h]

/-- The stations and the jobs when the source has followed. -/
theorem acceptedSource_count (n op : Nat) (d : Disposal) (l : LotRec) (s : State) :
    (∀ k, (acceptedSource n op d l s).station k = s.station k) ∧
      (acceptedSource n op d l s).count.jobs = s.count.jobs.filter (· ≠ n) := by
  obtain ⟨u, hu, -, hcount, -⟩ := containerAccepts_releases (l.accepted d op)
    (tillAccepts (l.accepted d op) (acceptedJob n op d l s))
  have hc : u.count = (acceptedJob n op d l s).count := hcount.trans (tillAccepts_count_bay ..).1
  have hst : (acceptedSource n op d l s).count.stations = s.count.stations := hu.stations.trans (by rw [hc]; rfl)
  exact ⟨fun k => by simp only [State.station, hst], hu.jobs.trans (by rw [hc]; rfl)⟩

/-- The lot is still recorded as accepted, or gone with its container. -/
theorem lot_acceptedSource (hn : n < 64) (op : Nat) (d : Disposal) (l : LotRec) (s : State) :
    (acceptedSource n op d l s).lot n = some (l.accepted d op) ∨ (acceptedSource n op d l s).lot n = none := by
  obtain ⟨u, hu, -, hcount, -⟩ := containerAccepts_releases (l.accepted d op)
    (tillAccepts (l.accepted d op) (acceptedJob n op d l s))
  have hc : u.count = (acceptedJob n op d l s).count := hcount.trans (tillAccepts_count_bay ..).1
  have hl : u.lot n = some (l.accepted d op) := by
    have h : u.lot n = (s.setLot n (some (l.accepted d op))).lot n := by simp only [State.lot, hc]; rfl
    rw [h, lot_setLot_self s n _ hn]
  exact hl ▸ hu.lot n

/-- A container source that is still recorded is RELEASING, without a count lot and declared counts. -/
theorem container_acceptLot (hl : l.source = .container k) (hk : k ≤ 95) {op : Nat} {c : ContRec}
    (h : (acceptLot n op d l s).container k = some c) : ∃ c0 : ContRec, c = c0.releasing := by
  have hc := (afterAccept_rest n d (l.accepted d op) (acceptedSource n op d l s)).2.2 k
  exact container_containerAccepts (l := l.accepted d op) hl hk
    (hc.elim (fun e => e ▸ h) (fun e => absurd (e.symm.trans h) nofun))

end Sys2Proof.Machine
end

section
/-! ACCEPT COUNT, RESUME DISPOSAL and DISPOSE LOT RESERVE (O40). -/

-- One theorem at a time: the whole text holds more theorems than the check has room for threads.
set_option Elab.async false

namespace Sys2Proof.Machine

variable {s t : State} {i j k n op p e : Nat} {l : LotRec} {d : Disposal} {q : AcceptCountReq} {w : Refused}

/-! ### The counts after the group -/

theorem of_disposed (s : State) (d : Disposal) (c : Counts) (e : Nat) :
    Counts.of (s.disposed d c) e = if d = .deposit ∧ s.isNote e = true then 0 else Counts.of c e := by
  cases d with
  | deposit =>
    rw [State.disposed, of_countsOnly]
    cases s.isNote e <;> rfl
  | _ => rfl

/-- What the lot holds after its source's movements. -/
theorem of_afterSource (hn : n ≤ 63) (s : State) (he : e < 12) :
    (Counts.of (s.afterSource n l) e : Int) = s.held (lotPos n) e + Counts.of l.counted e
      - (if sourcePos n l.source = some (lotPos n) then (Counts.of (s.recorded n l.source) e : Int) else 0) := by
  unfold State.afterSource sourcePos State.recorded
  cases l.source <;>
    simp only [of_add _ _ he, State.held, Option.some.injEq, reduceCtorEq, if_false, if_true, lotPos, containerPos,
      purgePos, reservePos]
  case pickup | ret => omega
  case stranded => omega
  case container => rw [if_neg (by omega)]; omega
  case reserveRecount => rw [if_neg (by omega)]; omega
  case purge => rw [if_neg (by omega)]; omega

theorem sourcePos_ne_suspect (hn : n ≤ 63) {x : LotSource} (hx : ∀ k, x = .container k → k ≤ 95) :
    sourcePos n x ≠ some suspectPos := by
  cases x with
  | container k =>
    have := hx k rfl
    simp only [sourcePos, containerPos, suspectPos, ne_eq, Option.some.injEq]; omega
  | pickup | ret => exact nofun
  | _ => simp only [sourcePos, lotPos, purgePos, reservePos, suspectPos, ne_eq, Option.some.injEq]; omega

theorem disposalPos_ne_suspect (hd : ∀ k, d = .container k → k ≤ 95) : disposalPos d ≠ suspectPos := by
  cases d with
  | container k =>
    have := hd k rfl
    simp only [disposalPos, containerPos, suspectPos]; omega
  | _ => decide

theorem disposalPos_ne_lot (hn : n ≤ 63) : disposalPos d ≠ lotPos n := by
  cases d <;> simp only [disposalPos, containerPos, lotPos, reservePos] <;> omega

/-- A disposal into the container that is the lot's source is refused. -/
theorem disposalPos_ne_source (h : s.disposalRefused d l = false) (hs : l.source = .container k) :
    disposalPos d ≠ containerPos k := by
  cases d with
  | container j =>
    have hj : j ≠ k := by rintro rfl; simp [State.disposalRefused, hs] at h
    simp only [disposalPos, containerPos]; omega
  | _ => simp only [disposalPos, containerPos, reservePos]; omega

theorem disposalPos_ne_purge (hd : ∀ k, d = .container k → k ≤ 95) (m : Nat) : disposalPos d ≠ purgePos m := by
  cases d with
  | container k =>
    have := hd k rfl
    simp only [disposalPos, containerPos, purgePos]; omega
  | _ => simp only [disposalPos, purgePos, reservePos]; omega

theorem sourcePos_ne_disposal (hn : n ≤ 63) (h : s.disposalRefused (.container k) l = false) (hk : k ≤ 95) :
    sourcePos n l.source ≠ some (containerPos k) := by
  cases hs : l.source with
  | pickup | ret => exact nofun
  | container j =>
    have hj : j ≠ k := by rintro rfl; simp [State.disposalRefused, hs] at h
    simp only [sourcePos, containerPos, ne_eq, Option.some.injEq]; omega
  | _ => simp only [sourcePos, lotPos, purgePos, reservePos, containerPos, ne_eq, Option.some.injEq]; omega

/-- The sources that have a position of their own. -/
theorem sourcePos_cases {x : LotSource} (h : sourcePos n x = some p) : p = lotPos n ∨
    (p = reservePos ∧ ∃ ds, x = .reserveRecount ds) ∨ (∃ k, x = .container k ∧ p = containerPos k) ∨
    ∃ m, x = .purge m ∧ p = purgePos m := by
  cases x with
  | pickup | ret => cases h
  | container k => cases h; exact .inr (.inr (.inl ⟨k, rfl, rfl⟩))
  | reserveRecount ds => cases h; exact .inr (.inl ⟨rfl, ds, rfl⟩)
  | purge m => cases h; exact .inr (.inr (.inr ⟨m, rfl, rfl⟩))
  | stranded => cases h; exact .inl rfl

theorem source_of_sourcePos_reserve {x : LotSource} (h : sourcePos n x = some reservePos) :
    ∃ ds, x = .reserveRecount ds := by
  obtain hp | ⟨-, hx⟩ | ⟨k, -, hp⟩ | ⟨m, -, hp⟩ := sourcePos_cases h
  · simp only [reservePos, lotPos] at hp; omega
  · exact hx
  · simp only [reservePos, containerPos] at hp; omega
  · simp only [reservePos, purgePos] at hp; omega

theorem disposalPos_cases (d : Disposal) :
    disposalPos d = reservePos ∨ ∃ k, d = .container k ∧ disposalPos d = containerPos k := by
  cases d with
  | container k => exact .inr ⟨k, rfl, rfl⟩
  | _ => exact .inl rfl

section
variable (hg : applyGroup i (s.acceptGroup n op d l) s = .ok t) (he : e < 12)
include hg he

/-- The suspects come to SUSPECT. -/
theorem held_suspect_acceptGroup (hn : n ≤ 63) (hsrc : ∀ k, l.source = .container k → k ≤ 95)
    (hdisp : ∀ k, d = .container k → k ≤ 95) :
    t.held suspectPos e = s.held suspectPos e + Counts.of l.suspects e := by
  have hlot : lotPos n ≠ suspectPos := by simp only [lotPos, suspectPos]; omega
  have h := held_acceptGroup hg (p := suspectPos) (by decide) he
  rw [if_neg hlot, if_pos rfl, if_neg (sourcePos_ne_suspect hn hsrc), if_neg (disposalPos_ne_suspect hdisp),
    if_neg hlot] at h
  omega

/-- The lot keeps the notes of a deposit, and nothing else. -/
theorem held_lot_acceptGroup (hn : n ≤ 63) : t.held (lotPos n) e =
    if d = .deposit ∧ s.isNote e = true then Counts.of (s.afterSource n l) e else 0 := by
  have hsus : suspectPos ≠ lotPos n := by simp only [lotPos, suspectPos]; omega
  have h := held_acceptGroup hg (p := lotPos n) (by simp only [lotPos]; omega) he
  have hafter := of_afterSource (l := l) hn s he
  rw [if_pos rfl, if_neg hsus, if_neg (disposalPos_ne_lot hn), if_pos rfl, of_disposed] at h
  split_ifs at h hafter ⊢ <;> omega

/-- A position that is neither the lot's nor SUSPECT loses what is recorded of the source there, and gains what the disposal
takes of the lot. -/
theorem held_other_acceptGroup (hp : p < 177) (hlot : p ≠ lotPos n) (hsus : p ≠ suspectPos) :
    t.held p e + (if sourcePos n l.source = some p then Counts.of (s.recorded n l.source) e else 0) =
      s.held p e + (if disposalPos d = p then Counts.of (s.disposed d (s.afterSource n l)) e else 0) := by
  have h := held_acceptGroup hg hp he
  rw [if_neg hlot.symm, if_neg hsus.symm, if_neg hlot.symm] at h
  split_ifs at h ⊢ <;> omega

/-- A position of the source that is recorded whole is empty. -/
theorem held_source_acceptGroup (hp : p < 177) (hlot : p ≠ lotPos n) (hsus : p ≠ suspectPos)
    (hs : sourcePos n l.source = some p) (hr : Counts.of (s.recorded n l.source) e = s.held p e) (hd : disposalPos d ≠ p) :
    t.held p e = 0 := by
  have h := held_other_acceptGroup hg he hp hlot hsus
  rw [if_pos hs, if_neg hd, hr] at h
  omega

/-- A container source is empty. -/
theorem held_container_source_acceptGroup (hn : n ≤ 63) (hs : l.source = .container j) (hj : j ≤ 95)
    (hr : s.disposalRefused d l = false) : t.held (containerPos j) e = 0 := by
  refine held_source_acceptGroup hg he ?_ ?_ ?_ (by rw [hs]; rfl) (by rw [hs]; rfl) (disposalPos_ne_source hr hs)
  all_goals simp only [containerPos, lotPos, suspectPos]; omega

/-- A purge bin that was counted is empty. -/
theorem held_purge_source_acceptGroup (hn : n ≤ 63) (hs : l.source = .purge j) (hd : ∀ k, d = .container k → k ≤ 95) :
    t.held (purgePos j) e = 0 := by
  by_cases hj : j < 2
  · refine held_source_acceptGroup hg he ?_ ?_ ?_ (by rw [hs]; rfl) (by rw [hs]; rfl) (disposalPos_ne_purge hd j)
    all_goals simp only [purgePos, lotPos, suspectPos]; omega
  · exact held_out t (by simp only [purgePos]; omega) e

/-- The container of the disposal gains what the lot held. -/
theorem held_container_disposal_acceptGroup (hn : n ≤ 63) (hd : d = .container j) (hj : j ≤ 95)
    (hr : s.disposalRefused d l = false) :
    t.held (containerPos j) e = s.held (containerPos j) e + Counts.of (s.afterSource n l) e := by
  subst hd
  have h := held_other_acceptGroup hg he (p := containerPos j) (by simp only [containerPos]; omega)
    (by simp only [containerPos, lotPos]; omega) (by simp only [containerPos, suspectPos]; omega)
  have hpos : disposalPos (.container j) = containerPos j := rfl
  rw [if_neg (sourcePos_ne_disposal hn hr hj), if_pos hpos] at h
  exact h

/-- Every other position holds what it held. -/
theorem held_elsewhere_acceptGroup (hp : p < 177) (hlot : p ≠ lotPos n) (hsus : p ≠ suspectPos) (hres : p ≠ reservePos)
    (hcont : ∀ k, l.source = .container k ∨ d = .container k → p ≠ containerPos k)
    (hpurge : ∀ m, l.source = .purge m → p ≠ purgePos m) : t.held p e = s.held p e := by
  have hsource : sourcePos n l.source ≠ some p := fun hx => by
    obtain hx | ⟨hx, -⟩ | ⟨k, hk, hx⟩ | ⟨m, hm, hx⟩ := sourcePos_cases hx
    · exact hlot hx
    · exact hres hx
    · exact hcont k (.inl hk) hx
    · exact hpurge m hm hx
  have hdispose : disposalPos d ≠ p := fun hx => by
    obtain hr | ⟨k, hk, hc⟩ := disposalPos_cases d
    · exact hres (hx.symm.trans hr)
    · exact hcont k (.inr hk) (hx.symm.trans hc)
  have h := held_other_acceptGroup hg he hp hlot hsus
  rw [if_neg hsource, if_neg hdispose] at h
  exact h

end

/-! ### The requests -/

theorem doAcceptCount_refused (hr : acceptInRange q = true) (hl : s.lot q.lot = some l) (hd : q.disposal = some d)
    (hc : l.state = .counted) (ho : s.acceptOps l.source q.op1 q.op2 = none) (hn : s.disposalRefused d l = false)
    (ht : s.tillRefuses l = false) (hg : applyGroup 1 (s.acceptGroup q.lot q.op1 d l) s = .error (i, w)) :
    doAcceptCount q s = (groupRefusal i w, s) := by
  unfold doAcceptCount
  rw [if_neg (by simp [hr])]
  simp only [hl, hd, hc, ho, hn, ht, hg]
  rfl

theorem doAcceptCount_books (hr : acceptInRange q = true) (hl : s.lot q.lot = some l) (hd : q.disposal = some d)
    (hc : l.state = .counted) (ho : s.acceptOps l.source q.op1 q.op2 = none) (hn : s.disposalRefused d l = false)
    (ht : s.tillRefuses l = false) (hg : applyGroup 1 (s.acceptGroup q.lot q.op1 d l) s = .ok t) :
    doAcceptCount q s = (okReply (firstLast (s.numbersOf (s.acceptGroup q.lot q.op1 d l).length) ++ [u5 l.countedValue]),
      settle (acceptLot q.lot q.op1 d l t)) := by
  unfold doAcceptCount
  rw [if_neg (by simp [hr])]
  simp only [hl, hd, hc, ho, hn, ht, hg]
  rfl

theorem doResumeDisposal_resumes (hn : n ≤ 63) (hl : s.lot n = some l) (hs : l.state = .disposeInterrupted)
    (hd : l.disposal = some .deposit) : doResumeDisposal n s = (acceptedReply [], settle
      (match s.feederHolder n l with
        | some k => giveStack k .releaseIntake (s.setLot n (some { l with state := .disposing }))
        | none => giveHead l.head n (s.setLot n (some { l with state := .disposing })))) := by
  unfold doResumeDisposal
  rw [if_neg (Nat.not_lt.mpr hn)]
  simp only [hl, hs, hd]
  rfl

theorem doDisposeLotReserve_books (hn : n ≤ 63) (hl : s.lot n = some l) (hs : l.state = .disposeInterrupted)
    (ho : s.oneOperator op = true) (hc : checkMovement (countMove .disposeReserve (.pos (lotPos n)) (.pos reservePos)
      (s.posRec (lotPos n)).counts op) false s = none) :
    doDisposeLotReserve ⟨n, op⟩ s = (okReply [u4 s.nextMove], settle (finishLot n (releaseToHand (s.stackHolder n l)
      (applyMovement (countMove .disposeReserve (.pos (lotPos n)) (.pos reservePos)
        (s.posRec (lotPos n)).counts op) s)))) := by
  unfold doDisposeLotReserve
  rw [if_neg (Nat.not_lt.mpr hn)]
  simp only [hl, hs, ho, hc]
  rfl

theorem container_le_of_acceptInRange (hr : acceptInRange q = true) (hd : q.disposal = some (.container k)) : k ≤ 95 := by
  unfold acceptInRange at hr
  rw [hd, Bool.and_eq_true] at hr
  exact of_decide_eq_true hr.2

/-- What follows the group, from any state (R73, R75, R112, R114, R115). -/
theorem acceptLot_follows (op : Nat) (d : Disposal) (l : LotRec) (s : State) (hn : n ≤ 63) :
    (acceptLot n op d l s).count.jobs = s.count.jobs.filter (· ≠ n) ∧
    (d = .deposit → l.hasNotes = true →
      (acceptLot n op d l s).lot n = some { l.accepted d op with state := .disposing }) ∧
    (d ≠ .deposit ∨ l.hasNotes = false → ∀ r, (acceptLot n op d l s).lot n = some r →
      r = { l.accepted d op with state := .disposed }) := by
  have hlt : n < 64 := Nat.lt_succ_of_le hn
  exact ⟨(afterAccept_rest ..).2.1.trans (acceptedSource_count ..).2,
    fun hd hl => lot_afterAccept_deposit (l := l.accepted d op) hd hl hlt _,
    fun h r hr => lot_afterAccept_done (l := l.accepted d op) h hlt (lot_acceptedSource hlt op d l s) hr⟩

end Sys2Proof.Machine

open Sys2Proof Sys2Proof.Machine

/-- Settles O40: the group's movements are summed position by position, what follows it is taken apart by block, and the
requests of an interrupted lot pass their checks. -/
theorem disposalsBookTheLot : Obligations.DisposalsBookTheLot := by
  refine ⟨?accept, ?follows, ?interrupted⟩
  case accept =>
    intro tag n q d l s hs hn hl hq hr hd hc ho hnr ht hsrc mv lot aside adj var g x r found source holds disposal group
    subst hq
    have hrec : r = s.recorded q.lot l.source := by
      simp only [r, State.recorded]; cases l.source <;> rfl
    have hholds : holds = s.afterSource q.lot l := by
      simp only [holds, State.afterSource]; cases l.source <;> rfl
    have hsource : source = sourceMoves q.lot q.op1 l r := by
      simp only [source, sourceMoves]; cases l.source <;> rfl
    have hgroup : group = s.acceptGroup q.lot q.op1 d l := by
      have hdisp : [disposal] = disposalMoves s q.lot q.op1 d holds := by cases d <;> rfl
      rw [State.acceptGroup, ← hrec, ← hholds, ← hsource, ← hdisp]; rfl
    rw [hgroup]
    refine ⟨fun i w hg => ?_, fun t hg => ⟨?_, fun e he => ?_⟩⟩
    · exact exec_ready hs rfl (doAcceptCount_refused (s := heard s) hr hl hd hc ho hnr ht hg)
    · exact exec_ready hs rfl (doAcceptCount_books (s := heard s) hr hl hd hc ho hnr ht hg)
    · have hdisp : ∀ k, d = .container k → k ≤ 95 := fun k hk => container_le_of_acceptInRange hr (hk ▸ hd)
      refine ⟨fun hlaw => ?_, held_suspect_acceptGroup (s := heard s) hg he hn hsrc hdisp, ?_, ?_,
        fun k hk => held_container_source_acceptGroup (s := heard s) hg he hn hk (hsrc k hk) hnr,
        fun m hm => held_purge_source_acceptGroup (s := heard s) hg he hn hm hdisp, fun k hk => ?_,
        fun p hp => held_elsewhere_acceptGroup (s := heard s) hg he hp⟩
      · have h := totals_acceptGroup (s := heard s) hg hlaw he
        rw [heard_recorded, ← hrec] at h
        have h : (Counts.of t.book.totals e : Int) =
          Counts.of s.book.totals e + (Counts.of g e + Counts.of x e - Counts.of r e) := h
        omega
      · rw [hholds]
        exact held_lot_acceptGroup (s := heard s) hg he hn
      · have h := held_other_acceptGroup (s := heard s) hg he (p := reservePos) (by decide)
          (by simp only [reservePos, lotPos]; omega) (by decide)
        rw [heard_recorded, ← hrec, heard_afterSource, ← hholds, heard_held] at h
        convert h using 2
        · split
          · next ds hds => exact (if_pos (by rw [hds]; rfl)).symm
          · next hds => exact (if_neg fun hx => (source_of_sourcePos_reserve hx).elim hds).symm
        · split
          · exact (if_pos rfl).symm
          · exact (if_neg (by simp only [disposalPos, containerPos, reservePos]; omega)).symm
          · rw [of_disposed]
            simp [disposalPos]
      · rw [hholds]
        exact held_container_disposal_acceptGroup (s := heard s) hg he hn hk (hdisp k hk) hnr
  case follows =>
    intro n op d l s hn t w
    obtain ⟨hjobs, hdep, hdone⟩ := acceptLot_follows op d l s hn
    refine ⟨hjobs, fun k hk hl => ?_, fun k hk hl => ?_, fun k hk hl c hc => ?_, hdep, hdone,
      fun k h1 h4 hc hs ha ht hr => ?_⟩
    · obtain ⟨a, hx⟩ := till_tillAccepts_pickup (l := l.accepted d op) hl hk (acceptedJob n op d l s)
      rw [till_acceptLot, hx]
      exact ⟨rfl, rfl, rfl⟩
    · have hx := till_tillAccepts_ret (l := l.accepted d op) hl hk (acceptedJob n op d l s)
      rw [till_acceptLot, hx]
      exact ⟨rfl, rfl, reconcile_state .., rfl⟩
    · obtain ⟨c0, rfl⟩ := container_acceptLot hl hk hc
      exact ⟨rfl, rfl, rfl⟩
    · have hst := (acceptedSource_count n op d l s).1 k
      rw [← hst] at hs ha ht hr
      exact ⟨fun hd hl => station_afterAccept_deposit (l := l.accepted d op) hd hl h1 h4 hc hs ha ht hr,
        fun h => station_afterAccept_done (l := l.accepted d op) h h1 h4 hc hs ha ht hr⟩
  case interrupted =>
    intro tag n l s hs hn hl hst
    refine ⟨fun hd => exec_ready hs rfl (doResumeDisposal_resumes (s := heard s) hn hl hst hd), ?_⟩
    intro op ho m hm
    exact exec_ready hs rfl (doDisposeLotReserve_books (s := heard s) hn hl hst ho hm)
end

section
/-! The receiver of the link reads a frame back, and a character of the station line carries its byte (O9). -/

-- One theorem at a time: the whole text holds more theorems than the check has room for threads.
set_option Elab.async false

namespace Sys2Proof.Machine

/-! ### The bytes of a frame, R201 -/

/-- The two low bytes of a number, the high one first. -/
theorem natBytes_two (n : Nat) : natBytes 2 n = [BitVec.ofNat 8 (n / 256), BitVec.ofNat 8 n] := by simp [natBytes]

/-- The bytes of a frame that its CRC covers: from the length to the end of the body. -/
def coveredBytes (kind code tag : Nat) (body : List Byte) : List Byte :=
  natBytes 2 body.length ++ [BitVec.ofNat 8 kind, BitVec.ofNat 8 code, BitVec.ofNat 8 tag] ++ body

theorem frameBytes_eq (kind code tag : Nat) (body : List Byte) : frameBytes kind code tag body =
    0xA5#8 :: (coveredBytes kind code tag body ++ natBytes 2 (crc (coveredBytes kind code tag body)).toNat) := rfl

theorem length_coveredBytes (kind code tag : Nat) (body : List Byte) :
    (coveredBytes kind code tag body).length = 5 + body.length := by
  simp [coveredBytes, natBytes_two]; omega

theorem length_frameBytes (kind code tag : Nat) (body : List Byte) :
    (frameBytes kind code tag body).length = 8 + body.length := by
  simp [frameBytes_eq, length_coveredBytes, natBytes_two]; omega

theorem lengthField_frameBytes {body : List Byte} (h : body.length < 65536) (kind code tag : Nat) :
    lengthField (frameBytes kind code tag body) = body.length := by
  simp [lengthField, frameBytes_eq, coveredBytes, natBytes_two]; omega

/-- A whole request frame passes its CRC and its kind, and gives back its fields. -/
theorem judgeFrame_request {code tag : Nat} {body : List Byte} (hc : code < 256) (ht : tag < 256)
    (hb : body.length < 65536) : judgeFrame (frameBytes 1 code tag body) = .request code tag body := by
  have hcovered : ((frameBytes 1 code tag body).drop 1).take (5 + body.length) = coveredBytes 1 code tag body :=
    List.take_left' (length_coveredBytes ..)
  have hcheck : (frameBytes 1 code tag body).drop (6 + body.length) =
      natBytes 2 (crc (coveredBytes 1 code tag body)).toNat := by
    rw [frameBytes_eq, show 6 + body.length = (5 + body.length) + 1 by omega, List.drop_succ_cons]
    exact List.drop_left' (length_coveredBytes ..)
  have hbody : ((frameBytes 1 code tag body).drop 6).take body.length = body := by
    simp [frameBytes_eq, coveredBytes, natBytes_two]
  unfold judgeFrame
  dsimp only
  rw [lengthField_frameBytes hb, hcovered, hcheck, hbody, if_neg (by simp)]
  simp [frameBytes_eq, coveredBytes, natBytes_two, requestKind, Nat.mod_eq_of_lt hc, Nat.mod_eq_of_lt ht]

/-! ### The receiver, R202 -/

/-- The length field is read from the bytes 1 and 2, whatever follows. -/
theorem lengthField_append {l : List Byte} (h : 3 ≤ l.length) (m : List Byte) : lengthField (l ++ m) = lengthField l := by
  simp only [lengthField]
  rw [List.getD_append _ _ _ _ (by omega), List.getD_append _ _ _ _ (by omega)]

/-- A byte that does not complete the frame `l ++ b :: m` joins those assembled. -/
theorem receiveByte_joins {l m : List Byte} {b : Byte} (hm : m ≠ []) (h512 : lengthField (l ++ b :: m) ≤ 512)
    (hlen : (l ++ b :: m).length = 8 + lengthField (l ++ b :: m)) :
    receiveByte (.assembling l) b = (.assembling (l ++ [b]), none) := by
  have hpos : 0 < m.length := List.length_pos_iff.mpr hm
  simp only [receiveByte]
  by_cases h3 : (l ++ [b]).length < 3
  · rw [if_pos h3]
  · have hfield : lengthField (l ++ b :: m) = lengthField (l ++ [b]) := by
      rw [← lengthField_append (Nat.not_lt.mp h3) m, List.append_assoc, List.singleton_append]
    rw [hfield] at h512 hlen
    simp only [List.length_append, List.length_cons] at hlen
    rw [if_neg h3, if_neg (by omega), if_pos (by simp only [List.length_append, List.length_singleton]; omega)]

/-- The byte that completes a frame has it judged. -/
theorem receiveByte_completes {l : List Byte} {b : Byte} (h512 : lengthField (l ++ [b]) ≤ 512)
    (hlen : (l ++ [b]).length = 8 + lengthField (l ++ [b])) :
    receiveByte (.assembling l) b = (.hunting, some (judgeFrame (l ++ [b]))) := by
  simp only [receiveByte]
  rw [if_neg (by omega), if_neg (by omega), if_neg (by omega)]

/-- The rest `m` of a frame that begins with the bytes `l` assembled so far completes it. -/
theorem receiveBytes_assembling {m : List Byte} (hm : m ≠ []) : ∀ {l : List Byte}, lengthField (l ++ m) ≤ 512 →
    (l ++ m).length = 8 + lengthField (l ++ m) →
    receiveBytes (.assembling l) m = (.hunting, [judgeFrame (l ++ m)]) := by
  induction m with
  | nil => exact absurd rfl hm
  | cons b m ih =>
    intro l h512 hlen
    by_cases hlast : m = []
    · subst hlast
      simp [receiveBytes, receiveByte_completes h512 hlen]
    · have hsplit : l ++ b :: m = l ++ [b] ++ m := by simp
      have hrest := ih hlast (l := l ++ [b]) (hsplit ▸ h512) (hsplit ▸ hlen)
      simp [receiveBytes, receiveByte_joins hlast h512 hlen, hrest]

/-- Bytes that make up a frame whole, heard from hunting, are judged. -/
theorem receiveBytes_hunting {m : List Byte} (hm : m ≠ []) (h512 : lengthField (0xA5#8 :: m) ≤ 512)
    (hlen : (0xA5#8 :: m).length = 8 + lengthField (0xA5#8 :: m)) :
    receiveBytes .hunting (0xA5#8 :: m) = (.hunting, [judgeFrame (0xA5#8 :: m)]) := by
  have hrest := receiveBytes_assembling hm (l := [0xA5#8]) h512 hlen
  simp [receiveBytes, receiveByte, hrest]

/-- A frame with a body of at most 512 bytes is judged. -/
theorem receiveBytes_frameBytes {body : List Byte} (hb : body.length ≤ 512) (kind code tag : Nat) :
    receiveBytes .hunting (frameBytes kind code tag body) = (.hunting, [judgeFrame (frameBytes kind code tag body)]) := by
  have hfield := lengthField_frameBytes (Nat.lt_of_le_of_lt hb (by decide)) kind code tag
  refine receiveBytes_hunting (by simp [natBytes_two]) (hfield.trans_le hb) ?_
  exact (length_frameBytes kind code tag body).trans (congrArg _ hfield.symm)

/-! ### Characters, R80 -/

/-- The value of the lowest `k` bits of a number, lowest first. -/
theorem byteOf_testBit (k n : Nat) : byteOf ((List.range k).map n.testBit) = n % 2 ^ k := by
  induction k generalizing n with
  | zero => simp [byteOf, Nat.mod_one]
  | succ k ih =>
    have hshift : ((List.range k).map Nat.succ).map n.testBit = (List.range k).map (n / 2).testBit := by
      simp [List.map_map, Function.comp_def, Nat.testBit_succ]
    rw [List.range_succ_eq_map, List.map_cons, hshift, byteOf, ih, Nat.pow_succ', Nat.mod_mul, Nat.testBit_zero]
    congr 1
    rcases Nat.mod_two_eq_zero_or_one n with h | h <;> simp [h]

theorem byteOf_dataBits (b : Byte) : BitVec.ofNat 8 (byteOf (dataBits b)) = b := by
  have hbits : dataBits b = (List.range 8).map b.toNat.testBit := rfl
  rw [hbits, byteOf_testBit, Nat.mod_eq_of_lt b.isLt, BitVec.ofNat_toNat, BitVec.setWidth_eq]

theorem readChar_charBits (b : Byte) : readChar (charBits b) = some b :=
  calc readChar (charBits b)
      = if parityBit (dataBits b) = parityBit (dataBits b) then some (BitVec.ofNat 8 (byteOf (dataBits b))) else none := rfl
    _ = some b := by rw [if_pos rfl, byteOf_dataBits]

end Sys2Proof.Machine

open Sys2Proof Sys2Proof.Machine

/-- Settles O9: the receiver assembles the frame by its length field, and its judgement gives back the fields. -/
theorem receiverReadsEveryRequestFrame : Obligations.ReceiverReadsEveryRequestFrame := by
  intro code tag body hc ht hb
  refine ⟨?_, readChar_charBits⟩
  rw [receiveBytes_frameBytes hb, judgeFrame_request hc ht (by omega)]
end

section
/-! The stations and their line: what the requests set (O37), how turns are given and missed (O57), and what is taken of the
answers (O58). -/

-- One theorem at a time: the whole text holds more theorems than the check has room for threads.
set_option Elab.async false

namespace Sys2Proof.Machine

variable {s : State}

/-! ### One station record -/

/-- Of two records written to one station the last stands. -/
@[simp] theorem setStation_setStation (s : State) (n : Nat) (a b : StationRec) :
    (s.setStation n a).setStation n b = s.setStation n b := by
  simp [State.setStation, Tab.set]

/-- A change of the record just written. -/
theorem changeStation_setStation {n : Nat} (h : n - 1 < 4) (f : StationRec → StationRec) (r : StationRec) :
    changeStation n f (s.setStation n r) = s.setStation n (f r) := by
  rw [changeStation, station_setStation_self s n r h, setStation_setStation]

/-- An event that moves its station to another state, R98. -/
theorem withStation_moves {n : Nat} {f : State → State} {r : StationRec} (hn : n - 1 < 4) (hf : f s = s.setStation n r)
    (h : r.state ≠ (s.station n).state) :
    withStation n f s = notify (.stationState n r.state r.mech r.stack) (s.setStation n r) := by
  unfold withStation noteStation
  dsimp only
  rw [hf, station_setStation_self s n r hn, if_pos (.inl h)]

/-- An event that shows no other state of its station and no alarm come or gone, R98. -/
theorem withStation_stays {n : Nat} {f : State → State} {r : StationRec} (hn : n - 1 < 4) (hf : f s = s.setStation n r)
    (h : r.state = (s.station n).state) (ha : mechAlarm r.mech = mechAlarm (s.station n).mech) :
    withStation n f s = s.setStation n r := by
  unfold withStation
  dsimp only
  rw [hf, station_setStation_self s n r hn, if_neg (by simp [h, ha])]

/-! ### The requests of the line, R79, R96, R97, R108 -/

/-- The line settings that a SET LINE asks for, as they are stored. -/
def storedSettings (q : SetLineReq) : LineSettings := ⟨q.bitRate, clamp 1 7 q.repeatLimit, clamp 10 100 q.pollInterval⟩

/-- The answer to SET LINE: what was stored. -/
def storedReply (l : LineSettings) : Reply := okReply [u2 l.bitRate, u1 l.repeatLimit, u1 l.pollInterval]

/-- SET LINE without another bit rate stores its settings. -/
theorem doSetLine_sameRate {q : SetLineReq} (hm : s.office.mode = .hold) (hb : bitRateOk q.bitRate = true)
    (hr : q.bitRate = s.count.settings.bitRate) : doSetLine q s =
      (storedReply (storedSettings q), { s with count := { s.count with settings := storedSettings q } }) := by
  have hstays : ¬q.bitRate ≠ s.count.settings.bitRate := not_not_intro hr
  unfold doSetLine
  dsimp only
  rw [if_neg (by simp [hm]), if_neg (by simp [hb]), if_neg fun h => hstays h.1, if_neg hstays]
  rfl

/-- SET LINE with another bit rate, while no station is STACKED, drops the stations besides (R79). -/
theorem doSetLine_newRate {q : SetLineReq} (hm : s.office.mode = .hold) (hb : bitRateOk q.bitRate = true)
    (hr : q.bitRate ≠ s.count.settings.bitRate) (hst : ∀ n, 1 ≤ n → n ≤ 4 → (s.station n).state ≠ .stacked) :
    doSetLine q s = (storedReply (storedSettings q),
      State.each dropStation [1, 2, 3, 4] { s with count := { s.count with settings := storedSettings q } }) := by
  have hnone : ¬(stationNumbers.any fun n => (s.station n).state = .stacked) = true := by simp [stationNumbers, hst]
  unfold doSetLine
  dsimp only
  rw [if_neg (by simp [hm]), if_neg (by simp [hb]), if_neg fun h => hnone h.2, if_pos hr]
  rfl

theorem doSetCoinLimit_stores {v : Nat} (hm : s.office.mode = .hold) (hv : v ≤ Config.maxCoinLimit) :
    doSetCoinLimit v s = (okReply [], { s with count := { s.count with coinLimit := v } }) := by
  rw [doSetCoinLimit, if_neg (by simp [hm]), if_neg (Nat.not_lt.mpr hv)]

theorem doSetCoinLimit_tooHigh {v : Nat} (hm : s.office.mode = .hold) (hv : Config.maxCoinLimit < v) :
    doSetCoinLimit v s = (refusal .badField, s) := by
  rw [doSetCoinLimit, if_neg (by simp [hm]), if_pos hv]
  rfl

theorem stationOk_of {n : Nat} (h1 : 1 ≤ n) (h4 : n ≤ 4) : stationOk n = true := by simp [stationOk, h1, h4]

/-- A STATION RESET that is pending already is answered and left. -/
theorem doResetStation_pending {n : Nat} (h1 : 1 ≤ n) (h4 : n ≤ 4) (ha : (s.station n).state ≠ .absent)
    (hr : (s.station n).resetPending = true) : doResetStation n s = (acceptedReply [], s) := by
  rw [doResetStation, if_neg (by simp [stationOk_of h1 h4]), if_neg ha, if_pos hr]

/-- Otherwise it becomes pending, after the end of a job in hand. -/
theorem doResetStation_resets {n : Nat} (h1 : 1 ≤ n) (h4 : n ≤ 4) (ha : (s.station n).state ≠ .absent)
    (hr : (s.station n).resetPending = false) : doResetStation n s = (acceptedReply [],
      settle (makePending n (.reset (s.station n).stackLot.isSome)
        (if (s.station n).working then endJob n .reset s else s))) := by
  rw [doResetStation, if_neg (by simp [stationOk_of h1 h4]), if_neg ha, if_neg (by simp [hr])]

/-- A working station, BUSY or REPORTING, is attached. -/
theorem StationRec.not_absent_of_working {r : StationRec} (h : r.working = true) : r.state ≠ .absent := by
  intro ha
  simp [working, ha] at h

theorem doStationQuery_answers {n : Nat} (h1 : 1 ≤ n) (h4 : n ≤ 4) (s : State) : doStationQuery n s =
    (okReply (stationFields n (s.station n) ++ [u2 s.count.settings.bitRate, u1 s.count.settings.repeatLimit,
      u1 s.count.settings.pollInterval]), s.setStation n { s.station n with repeated := 0, failed := 0 }) := by
  rw [doStationQuery, if_neg (by simp [stationOk_of h1 h4])]
  rfl

/-! ### Turns, R85, R86 -/

/-- A cycle begins with the turn of the first of its stations. -/
theorem startCycle_cons {n : Nat} {ns : List Nat} (h : s.cycleStations = n :: ns) :
    startCycle s = s.setLine { turn := some (s.turnOf n), waiting := ns, cycleDue := false, attachDue := false } := by
  rw [startCycle, h]

theorem pollDue_free (h : s.line.turn = none) : pollDue s = startCycle s := by
  rw [pollDue, h]

theorem pollDue_busy (h : s.line.turn ≠ none) : pollDue s = s.setLine { s.line with cycleDue := true } := by
  unfold pollDue
  split
  · next hn => exact absurd hn h
  · rfl

/-- An event of the line acts on the turn in progress, and what it brings about follows. -/
theorem exec_inTurn {t : Turn} {i : Instr} {f : Turn → State → State} {u : State} (hp : s.powered = true)
    (ht : s.line.turn = some t) (hx : exec i s = .next (event (inTurn f) s)) (hf : f t s = u) :
    exec i s = .next (transmit (settle u)) := by
  rw [hx, event_on _ s hp, inTurn, ht, ← hf]

/-! ### Line counts, R81, R84 -/

/-- No character fails whose signals all keep to the repeat limit. -/
theorem charFails_false {limit : Nat} {l : List Nat} (h : ∀ x ∈ l, x ≤ limit) : charFails limit l = false := by
  simpa [charFails] using h

/-- Without a failed character every error signal is answered by a repeat. -/
theorem sentRepeats_eq_sum {limit : Nat} {l : List Nat} (h : ∀ x ∈ l, x ≤ limit) :
    sentRepeats limit l = l.foldr (· + ·) 0 := by
  induction l with
  | nil => rfl
  | cons x l ih =>
    rw [sentRepeats, if_neg (Nat.not_lt.mpr (h x List.mem_cons_self)), ih fun y hy => h y (List.mem_cons_of_mem x hy)]
    rfl

/-- Without a failed character the controller drives every error signal that is reported. -/
theorem drivenSignals_eq_sum {limit : Nat} {l : List Nat} (h : ∀ x ∈ l, x ≤ limit) :
    drivenSignals limit l = l.foldr (· + ·) 0 := by
  induction l with
  | nil => rfl
  | cons x l ih =>
    rw [drivenSignals, if_neg (Nat.not_lt.mpr (h x List.mem_cons_self)), ih fun y hy => h y (List.mem_cons_of_mem x hy)]
    rfl

/-! ### Records sent, missed and failed, R86, R87 -/

section
variable {t : Turn} {signals : List Nat}

/-- A record other than STATION RESET and FETCH REPORT, sent whole, awaits its answer. -/
theorem sentRecord_awaits (hp : t.phase = .sending) (hr : ∀ k, t.record ≠ .command (.reset k))
    (hf : ∀ j, t.record ≠ .command (.fetchReport j)) (hs : ∀ x ∈ signals, x ≤ t.limit) :
    sentRecord signals t s = setPhase t .awaiting (countLine t.station (signals.foldr (· + ·) 0) 0 s) := by
  unfold sentRecord
  dsimp only
  rw [hp, charFails_false hs, sentRepeats_eq_sum hs]
  dsimp only
  split
  · next k h => exact absurd h (hr k)
  · next j h => exact absurd h (hf j)
  · rfl

/-- No answer comes: the turn is a miss, unless a report was to be fetched. -/
theorem noAnswer_misses (hp : t.phase = .awaiting) (hf : ∀ j, t.record ≠ .command (.fetchReport j)) :
    noAnswer t s = nextTurn (missTurn t.station s) := by
  unfold noAnswer
  rw [hp]
  dsimp only
  split
  · next j h => exact absurd h (hf j)
  · rfl

/-- A failed record in the answer's place is a miss too, with its line counts. -/
theorem badRecord_misses (hp : t.phase = .awaiting) (hf : ∀ j, t.record ≠ .command (.fetchReport j)) :
    badRecord signals t s = nextTurn (missTurn t.station
      (countLine t.station (drivenSignals s.count.settings.repeatLimit signals) 1 s)) := by
  unfold badRecord
  dsimp only
  rw [hp]
  dsimp only
  split
  · next j h => exact absurd h (hf j)
  · rfl

end

/-- A first or second miss is counted. -/
theorem missTurn_counts {n : Nat} (ha : (s.station n).state ≠ .absent) (hm : (s.station n).misses < 2) :
    missTurn n s = s.setStation n { s.station n with misses := (s.station n).misses + 1 } := by
  have hlimit : (s.station n).misses + 1 < Config.missLimit := Nat.succ_lt_succ hm
  rw [missTurn, if_neg ha, if_pos hlimit]

/-- The third miss of an IDLE station makes it ABSENT. -/
theorem missTurn_drops {n : Nat} (hn : n - 1 < 4) (hi : (s.station n).state = .idle) (hm : 2 ≤ (s.station n).misses) :
    missTurn n s = notify (.stationState n .absent (s.station n).mech (s.station n).stack)
      (s.setStation n { s.station n with state := .absent, pending := none, misses := 0 }) := by
  have hthird : thirdMiss n s = s.setStation n { s.station n with state := .absent, pending := none, misses := 0 } := by
    unfold thirdMiss
    dsimp only
    rw [hi]
  have hlimit : ¬(s.station n).misses + 1 < Config.missLimit := Nat.not_lt.mpr (Nat.succ_le_succ hm)
  rw [missTurn, if_neg (by simp [hi]), if_neg hlimit]
  exact withStation_moves hn hthird (by simp [hi])

/-! ### Answers, R83, R88, R89, R91 to R93 -/

section
variable {t : Turn} {station : Fin 4} {signals : List Nat} {f : Turn → State → State}

/-- A record of the station whose turn it is, with no failed character, is taken as good. -/
theorem fromStation_good (hp : t.phase ≠ .sending) (hq : t.phase ≠ .quiet) (ht : t.station = station.val + 1)
    (hs : ∀ x ∈ signals, x ≤ s.count.settings.repeatLimit) :
    fromStation station signals f t s = f t (countLine t.station (signals.foldr (· + ·) 0) 0 s) := by
  unfold fromStation
  split
  · next h => exact absurd h hp
  · next h => exact absurd h hq
  all_goals
    dsimp only
    rw [if_pos ⟨ht, by simp [charFails_false hs]⟩, drivenSignals_eq_sum hs]

end

section
variable {n k : Nat} {m : MechState}

/-- The answer to ATTACH, R88: the station is ATTACHING with its mechanism state UNKNOWN. -/
theorem answeredBy_attach (hn : n - 1 < 4) (ha : (s.station n).state = .absent) (o : Option MechState) :
    answeredBy n .attach o k s = notify (.stationState n .attaching none k) (s.setStation n
      { s.station n with state := .attaching, mech := none, stack := k, misses := 0 }) := by
  unfold answeredBy
  dsimp only
  rw [if_pos ha]
  exact withStation_moves hn rfl (by simp [ha])

/-- What a good STATE shows on a POLL is taken with the miss count at 0. -/
theorem answeredBy_poll (o : Option MechState) :
    answeredBy n .poll o k s = withStation n (fun u => stateSeen n o k (clearMisses n u)) s := rfl

/-- An unknown mechanism code shows nothing. -/
theorem answeredBy_poll_unknown (hn : n - 1 < 4) :
    answeredBy n .poll none k s = s.setStation n { s.station n with misses := 0 } := by
  rw [answeredBy_poll]
  exact withStation_stays hn rfl rfl rfl

/-- What a STATE shows of mechanism and stack. -/
theorem showState_setStation (hn : n - 1 < 4) (r : StationRec) :
    showState n m k (s.setStation n r) = s.setStation n { r with mech := some m, stack := k } :=
  changeStation_setStation hn _ r

/-- An IDLE station that shows no stack stays IDLE. -/
theorem stateShown_idle (hn : n - 1 < 4) {r : StationRec} (hi : r.state = .idle) (hk : showsStack m k = false) :
    stateShown n m k (s.setStation n r) = s.setStation n { r with mech := some m, stack := k } := by
  unfold stateShown
  dsimp only
  rw [station_setStation_self s n r hn, showState_setStation hn, hi]
  dsimp only
  rw [if_neg (by simp [hk])]

/-- A BUSY station that shows REPORT READY is REPORTING with its report to be fetched, R91. -/
theorem stateShown_reportReady (hn : n - 1 < 4) {r : StationRec} {j l : Nat} (hb : r.state = .busy)
    (hj : r.job = some (j, l)) : stateShown n .reportReady k (s.setStation n r) = s.setStation n
      { r with state := .reporting, mech := some .reportReady, stack := k, pending := some (.fetchReport j) } := by
  unfold stateShown
  dsimp only
  rw [station_setStation_self s n r hn, showState_setStation hn, hb, hj]
  dsimp only
  rw [busyState, changeStation_setStation hn]

theorem answeredBy_poll_idle (hn : n - 1 < 4) (hi : (s.station n).state = .idle) (hk : showsStack m k = false)
    (ha : mechAlarm (s.station n).mech = mechAlarm (some m)) : answeredBy n .poll (some m) k s =
      s.setStation n { s.station n with mech := some m, stack := k, misses := 0 } := by
  have hshown : stateSeen n (some m) k (clearMisses n s) =
      s.setStation n { s.station n with mech := some m, stack := k, misses := 0 } := stateShown_idle hn hi hk
  rw [answeredBy_poll]
  exact withStation_stays hn hshown rfl ha.symm

theorem answeredBy_poll_reportReady (hn : n - 1 < 4) {j l : Nat} (hb : (s.station n).state = .busy)
    (hj : (s.station n).job = some (j, l)) : answeredBy n .poll (some .reportReady) k s =
      notify (.stationState n .reporting (some .reportReady) k) (s.setStation n { s.station n with
        state := .reporting, mech := some .reportReady, stack := k, misses := 0, pending := some (.fetchReport j) }) := by
  have hshown : stateSeen n (some .reportReady) k (clearMisses n s) = s.setStation n { s.station n with
      state := .reporting, mech := some .reportReady, stack := k, misses := 0, pending := some (.fetchReport j) } :=
    stateShown_reportReady hn hb hj
  rw [answeredBy_poll]
  exact withStation_moves hn hshown (by simp [hb])

/-- A command is answered: the miss count returns to 0, and the command waits no longer where it still waited (R86, R87). -/
theorem commandAnswered_clearMisses (hn : n - 1 < 4) (c : StationCommand) :
    commandAnswered n c (clearMisses n s) = s.setStation n { s.station n with
      misses := 0, pending := if (s.station n).pending = some c then none else (s.station n).pending } := by
  have hclear : clearMisses n s = s.setStation n { s.station n with misses := 0 } := rfl
  rw [commandAnswered, hclear, changeStation_setStation hn]
  congr 1
  dsimp only
  split <;> rfl

end

section
variable {t : Turn} {h : HeadRecord} {l : List ItemRecord}

theorem goodState_awaiting (hp : t.phase = .awaiting) (m : Option MechState) (k : Nat) :
    goodState m k t s = nextTurn (answeredBy t.station t.record m k s) := by
  rw [goodState, hp]

/-- A HEAD that answers FETCH REPORT begins the report, R92. -/
theorem goodHead_begins {j : Nat} (hn : t.station - 1 < 4) (hp : t.phase = .awaiting)
    (hr : t.record = .command (.fetchReport j)) : goodHead h t s = setPhase t (.report h []) (s.setStation t.station
      { s.station t.station with misses := 0, pending :=
        if (s.station t.station).pending = some (.fetchReport j) then none else (s.station t.station).pending }) := by
  rw [goodHead, hp, hr]
  dsimp only
  rw [commandAnswered_clearMisses hn]

/-- An ITEM that the HEAD announces is collected, R93. -/
theorem goodItem_collects (hp : t.phase = .report h l) (hl : l.length < h.items) (i : ItemRecord) :
    goodItem i t s = setPhase t (.report h (l ++ [i])) s := by
  rw [goodItem, hp]
  exact if_pos hl

/-- The END of a report that passes its checks has the lot take it, R93. -/
theorem goodEnd_takes {e : EndRecord} {j lot : Nat} (hp : t.phase = .report h l)
    (hj : (s.station t.station).job = some (j, lot)) (hg : s.reportGood j h l e = true) :
    goodEnd e t s = nextTurn (withStation t.station (takeReport t.station lot l) s) := by
  rw [goodEnd, hp]
  dsimp only
  rw [judgeReport, hj]
  exact if_pos hg

theorem quietOver_quiet (hp : t.phase = .quiet) : quietOver t s = nextTurn s := by
  rw [quietOver, hp]

theorem recordMissing_report (hp : t.phase = .report h l) : recordMissing t s = nextTurn (reportFails t.station s) := by
  rw [recordMissing, hp]

end

end Sys2Proof.Machine

open Sys2Proof Sys2Proof.Machine

/-- Settles O37: which check each request passes, and what its block then answers and stores. -/
theorem lineRequestsReachTheStations : Obligations.LineRequestsReachTheStations := by
  refine ⟨fun tag rate rep poll v s hs hm => ⟨fun hrate => ?_, fun hv => ?_, fun hv => ?_⟩, fun tag n s hs h1 h4 => ?_⟩
  · have hb : bitRateOk rate = true := by simpa [bitRateOk, or_assoc] using hrate
    exact ⟨fun hr => exec_ready hs rfl (doSetLine_sameRate (s := heard s) (q := ⟨rate, rep, poll⟩) hm hb hr),
      fun hr hst => exec_ready hs rfl (doSetLine_newRate (s := heard s) (q := ⟨rate, rep, poll⟩) hm hb hr hst)⟩
  · exact exec_ready hs rfl (doSetCoinLimit_stores (s := heard s) hm hv)
  · exact exec_ready hs rfl (doSetCoinLimit_tooHigh (s := heard s) hm hv)
  · refine ⟨fun ha hr => exec_ready hs rfl (doResetStation_pending (s := heard s) h1 h4 ha hr), fun ha hr hw => ?_,
      fun hr hw => ?_, exec_ready hs rfl (doStationQuery_answers h1 h4 (heard s))⟩
    · have hdo := doResetStation_resets (s := heard s) h1 h4 ha hr
      rw [heard_station, if_neg (by simp [hw])] at hdo
      exact exec_ready hs rfl hdo
    · have hdo := doResetStation_resets (s := heard s) h1 h4 (StationRec.not_absent_of_working hw) hr
      rw [heard_station, if_pos hw] at hdo
      exact exec_ready hs rfl hdo

/-- Settles O57: the cycle and the turn event by event, then the misses. -/
theorem pollCyclesServeTheStations : Obligations.PollCyclesServeTheStations := by
  intro s hp
  refine ⟨fun n ns ht hc => ?_, fun ht => ?_, congrArg _ (event_on _ s hp), fun t signals ht => ⟨?_, ?_⟩,
    fun n => missTurn_counts, fun n h1 h4 => missTurn_drops (by omega)⟩
  · exact congrArg _ ((event_on _ s hp).trans (congrArg _ ((pollDue_free ht).trans (startCycle_cons hc))))
  · exact congrArg _ ((event_on _ s hp).trans (congrArg _ (pollDue_busy ht)))
  · exact fun hph hr hf hs => exec_inTurn hp ht rfl (sentRecord_awaits hph hr hf hs)
  · refine fun hph hf => ⟨exec_inTurn hp ht rfl (noAnswer_misses hph hf), ?_⟩
    rintro c (rfl | rfl)
    · exact exec_inTurn hp ht rfl (badRecord_misses hph hf)
    · exact exec_inTurn hp ht rfl (badRecord_misses hph hf)

/-- Settles O58: a good record of the station whose turn it is, by the record it answers and how far its report has come. -/
theorem stationAnswersAreTaken : Obligations.StationAnswersAreTaken := by
  intro t station signals s hp ht
  refine ⟨fun hst hs => ?_, fun hph => exec_inTurn hp ht rfl (quietOver_quiet hph),
    fun h l hph => exec_inTurn hp ht rfl (recordMissing_report hph)⟩
  have hn : t.station - 1 < 4 := by omega
  intro u r
  have hawaits : ∀ {f : Turn → State → State}, t.phase = .awaiting → fromStation station signals f t s = f t u :=
    fun hph => fromStation_good (by simp [hph]) (by simp [hph]) hst hs
  have hreport : ∀ {f : Turn → State → State} {h l}, t.phase = .report h l → fromStation station signals f t s = f t u :=
    fun hph => fromStation_good (by simp [hph]) (by simp [hph]) hst hs
  have hstate : ∀ {m : Option MechState} {k : Nat} {x : State}, t.phase = .awaiting →
      answeredBy t.station t.record m k u = x →
      exec (.stationState station signals m k) s = .next (transmit (settle (nextTurn x))) := fun hph hx =>
    exec_inTurn hp ht rfl ((hawaits hph).trans ((goodState_awaiting hph ..).trans (congrArg nextTurn hx)))
  refine ⟨fun m k hph => ⟨fun hr ha => ?_, fun hr hi hk ha => ?_, fun hr => ?_, fun j l hr hb hj hm ha => ?_⟩,
    fun h j hph hr => ?_, fun h l hph => ⟨fun i hl => ?_, fun e j lot hj hg => ?_⟩⟩
  · exact hstate hph (by rw [hr]; exact answeredBy_attach hn ha _)
  · exact hstate hph (by rw [hr]; exact answeredBy_poll_idle hn hi hk ha)
  · exact hstate hph (by rw [hr]; exact answeredBy_poll_unknown hn)
  · subst hm
    exact hstate hph (by rw [hr]; exact answeredBy_poll_reportReady hn hb hj)
  · exact exec_inTurn hp ht rfl ((hawaits hph).trans (goodHead_begins hn hph hr))
  · exact exec_inTurn hp ht rfl ((hreport hph).trans (goodItem_collects hph hl i))
  · exact exec_inTurn hp ht rfl ((hreport hph).trans (goodEnd_takes hph hj hg))
end

section
/-! The count jobs: how a lot starts and its job is given out (O38), how its coin is declared (O39), and how a lot is
rejected or voided (O41). -/

-- One theorem at a time: the whole text holds more theorems than the check has room for threads.
set_option Elab.async false

namespace Sys2Proof.Machine

variable {s : State} {l : LotRec} {k n : Nat}

/-! ### Assignment, R104 -/

/-- Station `k` takes the waiting job of lot `n`: the condition of R104, with log entry 14. -/
def State.takes (s : State) (n k : Nat) : Prop :=
  1 ≤ k ∧ k ≤ 4 ∧ (∃ l, s.lot n = some l ∧ l.state = .waiting ∧ (l.station = some (.one k) ∨ l.station = some .any)) ∧
    (s.station k).state = .idle ∧ (s.station k).mech = some .ready ∧ (s.station k).stack = 0 ∧
    (s.station k).resetPending = false

theorem LotRec.mayUse_iff : l.mayUse k = true ↔ l.station = some (.one k) ∨ l.station = some .any := by
  unfold mayUse
  split
  · next j h => simp [h, eq_comm]
  · next h => simp [h]
  · next hone hany =>
    simp only [Bool.false_eq_true, false_iff, not_or]
    exact ⟨hone k, hany⟩

/-- The stations that `stationFor` looks for are those that take the job. -/
theorem State.takes_iff (hl : s.lot n = some l) (hw : l.state = .waiting) :
    s.takes n k ↔ (1 ≤ k ∧ k ≤ 4) ∧ (l.mayUse k && s.offerable k && !(s.station k).resetPending) = true := by
  simp only [takes, hl, Option.some.injEq, exists_eq_left', hw, true_and, ← LotRec.mayUse_iff, offerable,
    Bool.and_eq_true, decide_eq_true_eq, Bool.not_eq_true']
  tauto

theorem stationNumbers_eq_range' : stationNumbers = List.range' 1 4 := rfl

theorem mem_stationNumbers : k ∈ stationNumbers ↔ 1 ≤ k ∧ k ≤ 4 := by
  rw [stationNumbers_eq_range', List.mem_range'_1]
  omega

/-- A job that no station takes has no station. -/
theorem State.stationFor_none (h : ∀ k, ¬s.takes n k) : s.stationFor n = none := by
  unfold stationFor
  split
  · next l hl =>
    split
    · next hw => exact List.find?_eq_none.mpr fun k hk hp => h k ((takes_iff hl hw).mpr ⟨mem_stationNumbers.mp hk, hp⟩)
    · rfl
  · rfl

/-- The lowest-numbered station that takes the job is its station. -/
theorem State.stationFor_lowest (h : s.takes n k) (hmin : ∀ j < k, ¬s.takes n j) : s.stationFor n = some k := by
  have ⟨_, _, ⟨l, hl, hw, _⟩, _⟩ := h
  obtain ⟨hk, hp⟩ := (takes_iff hl hw).mp h
  simp only [stationFor, hl, if_pos hw]
  rw [stationNumbers_eq_range', List.find?_range'_eq_some, ← stationNumbers_eq_range', mem_stationNumbers]
  refine ⟨hp, hk, fun j hj hjk => ?_⟩
  rw [Bool.not_eq_true', Bool.eq_false_iff]
  exact fun hj' => hmin j hjk ((takes_iff hl hw).mpr ⟨⟨hj, by omega⟩, hj'⟩)

theorem State.nextAssignment_none {js : List Nat} (h : ∀ m ∈ js, s.stationFor m = none) : s.nextAssignment js = none := by
  induction js with
  | nil => rfl
  | cons m js ih =>
    rw [nextAssignment, h m List.mem_cons_self]
    exact ih fun x hx => h x (List.mem_cons_of_mem m hx)

/-- Jobs that no station takes are passed over, in queue order. -/
theorem State.nextAssignment_first {pre post : List Nat} (hpre : ∀ m ∈ pre, s.stationFor m = none)
    (h : s.stationFor n = some k) : s.nextAssignment (pre ++ n :: post) = some (n, k) := by
  induction pre with
  | nil => rw [List.nil_append, nextAssignment, h]
  | cons m pre ih =>
    rw [List.cons_append, nextAssignment, hpre m List.mem_cons_self]
    exact ih fun x hx => hpre x (List.mem_cons_of_mem m hx)

/-- A job given to an IDLE station shows as its change to BUSY (R98, R104). -/
theorem assignJob_eq (hk : k - 1 < 4) (hl : s.lot n = some l) (hi : (s.station k).state = .idle) :
    let j := nextNumber 255 s.count.jobCounter
    let r : StationRec := { s.station k with
      state := .busy, job := some (j, n), pending := some (.beginCount j), attempts := 0 }
    assignJob n k s = notify (.stationState k .busy (s.station k).mech (s.station k).stack)
      (State.setStation ({ s with count := { s.count with jobCounter := j } }.setLot n
        (some { l with state := .counting, counting := some k })) k r) := by
  intro j r
  have hlot : { s with count := { s.count with jobCounter := j } }.lot n = some l := hl
  have hbusy : StationState.busy ≠ (s.station k).state := by rw [hi]; decide
  unfold assignJob
  dsimp only
  rw [hlot]
  exact withStation_moves (r := r) hk rfl hbusy

theorem assignStep_none (h : s.office.mode ≠ .trading ∨ ∀ m ∈ s.count.jobs, ∀ k, ¬s.takes m k) : assignStep s = none := by
  rcases h with hm | h
  · exact if_neg hm
  · have hnone := State.nextAssignment_none fun m hm => State.stationFor_none (h m hm)
    rw [assignStep, hnone, Option.map_none, ite_self]

/-- The first job that a station takes goes to the lowest-numbered such station. -/
theorem assignStep_first {pre post : List Nat} (hm : s.office.mode = .trading) (hjobs : s.count.jobs = pre ++ n :: post)
    (hpre : ∀ m ∈ pre, ∀ j, ¬s.takes m j) (hk : s.takes n k) (hmin : ∀ j < k, ¬s.takes n j) :
    assignStep s = some (assignJob n k s) := by
  have hfirst := State.nextAssignment_first (post := post) (fun m hm => State.stationFor_none (hpre m hm))
    (State.stationFor_lowest hk hmin)
  rw [assignStep, if_pos hm, hjobs, hfirst, Option.map_some]

/-! ### START COUNT, R100 -/

/-- A job for no station needs no room in the queue. -/
theorem not_queueFull {sel : StationSel} (h : sel = .coinOnly ∨ s.count.jobs.length < 16) :
    ¬(sel ≠ .coinOnly ∧ Config.jobCap ≤ s.count.jobs.length) := fun ⟨h1, h2⟩ => h.elim h1 (Nat.not_lt.mpr h2)

section
variable {q : StartCountReq} {sel : StationSel} (hsel : q.station = some sel) (hsrc : sourceInRange q.source = true)
  (hsuit : selInRange q.source q.station = true) (hdec : declaredInRange q.declared = true)
  (hnotes : s.sourceNotes q.source = true) (hready : s.sourceReady q.source = true)
  (hroom : sel = .coinOnly ∨ s.count.jobs.length < 16)
include hsel hsrc hsuit hdec hnotes hready hroom

/-- START COUNT of a source other than a stranded lot creates the lot in the first FREE slot. -/
theorem doStartCount_creates (hstr : isStranded q.source = none) (hfree : s.freeLots.head? = some n) :
    let u := createLot n (lotSource q.source) (some sel) q.declared s
    doStartCount q s = (lotReply n u, settle (sourceStarted n q.source (queueJob n sel u))) := by
  obtain ⟨ns, hns⟩ := List.head?_eq_some_iff.mp hfree
  intro u
  unfold doStartCount
  rw [hsel]
  dsimp only
  rw [if_neg (by rw [← hsel]; simp [hsrc, hsuit, hdec]), if_neg (by simp [hnotes]), if_neg (by simp [hready]),
    if_neg (by simp [hns]), if_neg (not_queueFull hroom), hstr, hns]

/-- START COUNT of a stranded lot gives that lot its station. -/
theorem doStartCount_takes (hstr : isStranded q.source = some n) (hl : s.lot n = some l) :
    let u := s.setLot n (some { l with station := some sel })
    doStartCount q s = (lotReply n u, settle (queueJob n sel u)) := by
  intro u
  unfold doStartCount
  rw [hsel]
  dsimp only
  rw [if_neg (by rw [← hsel]; simp [hsrc, hsuit, hdec]), if_neg (by simp [hnotes]), if_neg (by simp [hready]),
    if_neg (by simp [hstr]), if_neg (not_queueFull hroom), hstr]
  dsimp only
  rw [hl]

end

theorem lotReply_eq (h : s.lot n = some l) : lotReply n s = okReply [u1 n, u4 l.creation] := by
  rw [lotReply, h]; rfl

/-- The lot just created is read back. -/
theorem lot_createLot (hn : n < 64) (src : LotSource) (sel : Option StationSel) (v : Option Nat) (s : State) :
    (createLot n src sel v s).lot n = some (newLot (nextNumber 4294967295 s.count.lotCounter) src sel v) :=
  Tab.get_set_self none s.count.lots n _ hn

theorem queueJob_eq (n : Nat) (sel : StationSel) (s : State) :
    queueJob n sel s = s.setJobs (s.count.jobs ++ (if sel = .coinOnly then [] else [n])) := by
  cases sel with
  | coinOnly => rw [if_pos rfl, List.append_nil]; rfl
  | _ => rfl

/-- A FREE container slot written FREE stays as it is. -/
theorem setContainer_none (h : s.container k = none) : s.setContainer k none = s := by
  have hset : s.bay.containers.set k none = s.bay.containers := by
    by_cases hk : k < 96
    · have hlen : k < s.bay.containers.list.length := by rw [s.bay.containers.size]; exact hk
      have hget : s.bay.containers.list[k] = none := by
        simpa only [State.container, Tab.get, List.getD_eq_getElem _ _ hlen] using h
      have hlist : s.bay.containers.list.set k none = s.bay.containers.list := by
        rw [← hget]; exact List.set_getElem_self hlen
      simp only [Tab.set, hlist]
    · exact Tab.set_out _ k none (Nat.le_of_not_lt hk)
  rw [State.setContainer, hset]

/-- A container under count is marked with its lot, where the slot has one (R100). -/
theorem sourceStarted_container (n k : Nat) (s : State) : sourceStarted n (.container k) s =
    s.setContainer k ((s.container k).map fun r => { r with countLot := some n }) := by
  unfold sourceStarted
  dsimp only
  cases h : s.container k with
  | none => exact (setContainer_none h).symm
  | some c => rfl

/-! ### DECLARE COIN, R107 -/

theorem coinOps_none {v a : Nat} {b : Option Nat} (ha : s.oneOperator a = true)
    (h : v ≤ s.count.coinLimit ∨ ∃ x, b = some x ∧ s.dualControl .supervisor a x = none) : s.coinOps v a b = none := by
  unfold State.coinOps
  rw [if_neg (by simp [ha])]
  split
  · rfl
  · next hv =>
    obtain ⟨x, rfl, hx⟩ := h.resolve_left hv
    exact hx

theorem coinOps_alone {v a : Nat} (ha : s.oneOperator a = true) (hv : s.count.coinLimit < v) :
    s.coinOps v a none = some .dualControl := by
  unfold State.coinOps
  rw [if_neg (by simp [ha]), if_neg (Nat.not_le.mpr hv)]

section
variable {q : DeclareCoinReq} (hr : declareInRange q = true) (hl : s.lot q.lot = some l) (ht : l.takesCoin = true)
  (hkind : ∀ p ∈ q.pairs, s.isCoin p.denom = true ∨ s.isRoll p.denom = true)
  (hcount : ∀ p ∈ q.pairs, Counts.of l.coin p.denom + p.count ≤ 65535)

include hkind in
/-- No pair names a denomination that is neither COIN nor ROLL. -/
theorem find_notCoin_none : (q.pairs.find? fun p => !(s.isCoin p.denom || s.isRoll p.denom)) = none :=
  List.find?_eq_none.mpr fun p hp => by
    simpa only [Bool.not_eq_true', Bool.not_eq_false, Bool.or_eq_true] using hkind p hp

include hcount in
/-- No pair takes the declared count of its denomination out of range. -/
theorem find_overCount_none : (q.pairs.find? fun p => Config.maxCount < Counts.of l.coin p.denom + p.count) = none :=
  List.find?_eq_none.mpr fun p hp => by
    rw [decide_eq_true_eq]
    exact Nat.not_lt.mpr (hcount p hp)

include hr hl ht hkind hcount

/-- A declaration whose fields pass is turned away by its operators' check, or joins the lot's coin and leaves the lot
COUNTED at its new value. -/
theorem doDeclareCoin_checked :
    let coin := Counts.add l.coin (pairCounts q.pairs)
    let r := s.revalue { l with coin := coin, state := .counted }
    let u := s.setLot q.lot (some r)
    doDeclareCoin q s = (s.coinOps (s.valueOf coin) q.op1 q.op2).elim
      (okReply [u5 (s.valueOf coin)], if l.state = .waiting then notify (countDone q.lot r) u else u)
      fun st => (refusal st, s) := by
  intro coin r u
  unfold doDeclareCoin
  rw [if_neg (by simp [hr]), hl]
  dsimp only
  rw [if_neg (by simp [ht]), find_notCoin_none hkind]
  dsimp only
  rw [find_overCount_none hcount]
  cases s.coinOps (s.valueOf coin) q.op1 q.op2 <;> rfl

end

/-! ### REJECT COUNT and VOID LOT, R117, R118 -/

/-- Without notes, or where the counting station's stack lot does not name the lot, no RETURN STACK is given (log entry 55). -/
theorem returnStackOf_none (h : l.hasNotes = false ∨ ∀ k, l.counting = some k → (s.station k).stackLot ≠ some n) :
    returnStackOf n l s = s := by
  unfold returnStackOf
  split
  · next hnotes =>
    have hnone : s.countingHolder n l = none := Option.filter_eq_none_iff.mpr fun k hk => by
      simpa using h.resolve_left (by simp [hnotes]) k hk
    rw [hnone]
  · rfl

/-- The counting station that holds the lot's notes is told to return them. -/
theorem returnStackOf_gives (hnotes : l.hasNotes = true) (hc : l.counting = some k)
    (hs : (s.station k).stackLot = some n) : returnStackOf n l s = giveStack k .returnStack s := by
  rw [returnStackOf, if_pos hnotes, countingHolder_eq hc hs]

theorem stationsOnly_returnStackOf (n : Nat) (l : LotRec) (s : State) : StationsOnly s (returnStackOf n l s) := by
  unfold returnStackOf
  split
  · split
    · exact stationsOnly_giveStack ..
    · exact .refl s
  · exact .refl s

theorem StationsOnly.lot {t : State} (h : StationsOnly s t) (m : Nat) : t.lot m = s.lot m := by
  obtain ⟨x, rfl⟩ := h; rfl

theorem StationsOnly.till {t : State} (h : StationsOnly s t) (m : Nat) : t.till m = s.till m := by
  obtain ⟨x, rfl⟩ := h; rfl

theorem StationsOnly.container {t : State} (h : StationsOnly s t) (m : Nat) : t.container m = s.container m := by
  obtain ⟨x, rfl⟩ := h; rfl

/-- A lot as it goes back for recount (R117). -/
def LotRec.recount (l : LotRec) : LotRec :=
  { l.blank with state := .waiting, counting := none, recounts := l.recounts + 1 }

theorem recountLot_bumps (hl : s.lot n = some l) (hr : l.recounts < 3) :
    recountLot n true s = jobToHead n (s.setLot n (some l.recount)) := by
  have hmin : Nat.min Config.recountLimit (l.recounts + 1) = l.recounts + 1 := Nat.min_eq_right hr
  unfold recountLot
  rw [hl]
  dsimp only
  rw [if_pos rfl, hmin]
  rfl

theorem doRejectCount_limit (hn : n ≤ 63) (hl : s.lot n = some l) (hc : l.state = .counted) (hr : 3 ≤ l.recounts) :
    doRejectCount n s = (refusal .recountLimit, s) := by
  unfold doRejectCount
  rw [if_neg (Nat.not_lt.mpr hn), hl]
  dsimp only
  rw [if_neg (not_not_intro hc)]
  exact if_pos hr

theorem doRejectCount_rejects {u : State} (hn : n ≤ 63) (hl : s.lot n = some l) (hc : l.state = .counted)
    (hr : l.recounts < 3) (hu : returnStackOf n l s = u) : doRejectCount n s =
      (okReply [u1 (l.recounts + 1)], settle (jobToHead n (u.setLot n (some l.recount)))) := by
  have hlimit : ¬Config.recountLimit ≤ l.recounts := Nat.not_le.mpr hr
  have hlot : u.lot n = some l := by rw [← hu, (stationsOnly_returnStackOf n l s).lot, hl]
  unfold doRejectCount
  rw [if_neg (Nat.not_lt.mpr hn), hl]
  dsimp only
  rw [if_neg (not_not_intro hc), if_neg hlimit, hu, recountLot_bumps hlot hr]

/-- VOID LOT of a COUNTED lot has its stack returned (R118). -/
def stackReturned (n : Nat) (l : LotRec) (s : State) : State :=
  if l.state = .counted then returnStackOf n l s else s

theorem stationsOnly_stackReturned (n : Nat) (l : LotRec) (s : State) : StationsOnly s (stackReturned n l s) := by
  unfold stackReturned
  split
  · exact stationsOnly_returnStackOf ..
  · exact .refl s

theorem stackReturned_uncounted (hc : l.counting = none) : stackReturned n l s = s := by
  have hnone : returnStackOf n l s = s := returnStackOf_none (.inr fun k hk => by rw [hc] at hk; cases hk)
  rw [stackReturned, hnone, ite_self]

theorem stackReturned_counting (hc : l.counting = some k) : stackReturned n l s =
    if l.state = .counted ∧ l.hasNotes = true ∧ (s.station k).stackLot = some n then giveStack k .returnStack s else s := by
  by_cases hst : l.state = .counted
  · rw [stackReturned, if_pos hst]
    by_cases h : l.hasNotes = true ∧ (s.station k).stackLot = some n
    · obtain ⟨hnotes, hstack⟩ := h
      rw [if_pos ⟨hst, hnotes, hstack⟩, returnStackOf_gives hnotes hc hstack]
    · rw [if_neg fun ⟨_, hx⟩ => h hx]
      refine returnStackOf_none ?_
      by_cases hnotes : l.hasNotes = true
      · refine .inr fun j hj hstack => h ⟨hnotes, ?_⟩
        rw [Option.some.inj (hc.symm.trans hj)]
        exact hstack
      · exact .inl (Bool.eq_false_iff.mpr hnotes)
  · rw [stackReturned, if_neg hst, if_neg fun ⟨hx, _⟩ => hst hx]

/-- The till of a voided lot trades again. -/
theorem restoreSource_till {t : Nat} (h : l.source = .pickup t ∨ l.source = .ret t) :
    restoreSource l s = s.setTill t { s.till t with state := .trading, openLot := none } := by
  unfold restoreSource
  rcases h with h | h <;> rw [h]

/-- The container of a voided lot, where its slot still has one, is under count no more. -/
theorem restoreSource_container (h : l.source = .container k) :
    restoreSource l s = s.setContainer k ((s.container k).map fun r => { r with countLot := none }) := by
  unfold restoreSource
  rw [h]
  dsimp only
  cases hk : s.container k with
  | none => exact (setContainer_none hk).symm
  | some c => rfl

theorem doVoidLot_voids {v w : State} (hn : n ≤ 63) (hl : s.lot n = some l) (hv : l.voidable = true)
    (hstack : stackReturned n l (jobLeaves n s) = v) (hsource : restoreSource l v = w) :
    doVoidLot n s = (okReply [], settle (voidRelease n (w.setLot n (some { l with state := .void })))) := by
  subst hstack hsource
  unfold doVoidLot
  rw [if_neg (Nat.not_lt.mpr hn), hl]
  exact if_pos hv

end Sys2Proof.Machine

open Sys2Proof Sys2Proof.Machine

/-- Settles O38: the queue is searched for the first job that a station takes, and START COUNT passes its checks. -/
theorem startCountCreatesTheLot : Obligations.StartCountCreatesTheLot := by
  refine ⟨?assignment, fun tag n q sel s hs hsel hsrc hsuit hdec hnotes hready hroom => ⟨?creates, ?stranded⟩⟩
  case assignment =>
    intro s takes
    refine ⟨assignStep_none, fun pre post n k l hm hjobs hpre hk hmin hl => ?_⟩
    rw [assignStep_first hm hjobs hpre hk hmin]
    obtain ⟨-, h4, -, hidle, hmech, hstack, -⟩ := hk
    rw [assignJob_eq (by omega) hl hidle, hmech, hstack]
    rfl
  case creates =>
    intro hstr hfree c u v
    have hn : n < 64 := List.mem_range.mp (List.mem_filter.mp (List.mem_of_mem_head? hfree)).1
    have hnot : isStranded q.source = none := by
      unfold isStranded
      split
      · next k hk => exact absurd hk (hstr k)
      · rfl
    rw [exec_ready hs rfl (doStartCount_creates (s := heard s) hsel hsrc hsuit hdec hnotes hready hroom hnot hfree),
      lotReply_eq (lot_createLot hn ..), queueJob_eq]
    have hv : (createLot n (lotSource q.source) (some sel) q.declared (heard s)).setJobs
      ((createLot n (lotSource q.source) (some sel) q.declared (heard s)).count.jobs ++
        (if sel = .coinOnly then [] else [n])) = v := rfl
    rw [hv]
    cases q.source with
    | container k => rw [sourceStarted_container]; rfl
    | _ => rfl
  case stranded =>
    intro l hstr hl
    have hn : n < 64 := by rw [hstr] at hsrc; exact Nat.lt_succ_of_le (of_decide_eq_true hsrc)
    have hcoin : sel ≠ .coinOnly := by rintro rfl; rw [hsel, hstr] at hsuit; cases hsuit
    rw [exec_ready hs rfl (doStartCount_takes (s := heard s) hsel hsrc hsuit hdec hnotes hready hroom
        (by rw [hstr]; rfl) hl),
      lotReply_eq (lot_setLot_self _ n _ hn), queueJob_eq, if_neg hcoin]
    rfl

/-- Settles O39: the declaration passes the checks of its fields, and its operators' check decides. -/
theorem declareCoinAddsToTheLot : Obligations.DeclareCoinAddsToTheLot := by
  intro tag q l s hs hr hl ht hkind hcount hop coin v r u
  have hchecked := doDeclareCoin_checked (s := heard s) hr hl ht hkind hcount
  refine ⟨fun h => exec_ready hs rfl (hchecked.trans ?_), fun hv h2 => exec_ready hs rfl (hchecked.trans ?_)⟩
  · have hpass : (heard s).coinOps v q.op1 q.op2 = none := coinOps_none hop h
    exact congrArg (Option.elim · _ _) hpass
  · have halone : (heard s).coinOps v q.op1 q.op2 = some .dualControl := by rw [h2]; exact coinOps_alone hop hv
    exact congrArg (Option.elim · _ _) halone

/-- Settles O41: the lot is told to its counting station or not, and goes back or is VOID. -/
theorem rejectAndVoidGiveTheLotBack : Obligations.RejectAndVoidGiveTheLotBack := by
  intro tag n l s hs hn hl
  refine ⟨fun hc hr => ?_, fun hc hr h => ?_, fun k hc hr hnotes hk hstack => ?_, fun hv => ?_⟩
  · exact exec_ready hs rfl (doRejectCount_limit (s := heard s) hn hl hc hr)
  · exact exec_ready hs rfl (doRejectCount_rejects (s := heard s) hn hl hc hr (returnStackOf_none h))
  · exact exec_ready hs rfl (doRejectCount_rejects (s := heard s) hn hl hc hr (returnStackOf_gives hnotes hk hstack))
  · intro u v
    have hstack : stackReturned n l u = v := by
      cases hc : l.counting with
      | none => simp only [v, hc]; exact stackReturned_uncounted hc
      | some k => simp only [v, hc]; exact stackReturned_counting hc
    have honly : StationsOnly u v := hstack ▸ stationsOnly_stackReturned n l u
    refine exec_ready hs rfl (doVoidLot_voids (s := heard s) hn hl hv hstack ?_)
    cases hsrc : l.source with
    | pickup t => rw [restoreSource_till (.inl hsrc), honly.till]; rfl
    | ret t => rw [restoreSource_till (.inr hsrc), honly.till]; rfl
    | container k => rw [restoreSource_container hsrc, honly.container]; rfl
    | _ => rw [restoreSource, hsrc]
end

section
/-! The recycler's own requests (O42, O43): which checks each passes, and what it then stores. -/

-- One theorem at a time: the whole text holds more theorems than the check has room for threads.
set_option Elab.async false

namespace Sys2Proof.Machine

variable {s : State} {c : Nat}

/-! ### SET CASSETTE and INSERT CASSETTE, R127, R130 -/

theorem capacityOk_of_range {n : Nat} (h1 : 100 ≤ n) (h2 : n ≤ 2200) : capacityOk n = true := by
  simp [capacityOk, Config.minCapacity, Config.maxCapacity, h1, h2]

/-- A denomination that is a DEFINED NOTE is one of the twelve. -/
theorem denomGiven_of_note {d : Option Nat} (h : s.noteGiven d = true) : denomGiven d = true := by
  cases d with
  | none => rfl
  | some d =>
    refine decide_eq_true (Nat.lt_succ_iff.mp (Nat.lt_of_not_le fun hd => ?_))
    have hempty : s.denom d = .empty := Tab.get_out _ _ d hd
    simp [State.noteGiven, State.isNote, hempty, DenomRec.kind] at h

theorem CasRec.setBarred_eq_false {r : CasRec} (hp : r.present = true) (hr : r.role ≠ .retired) (hm : r.mismatch = false)
    (he : r.evacSource = false) (hv : r.evacSpare = false) : r.setBarred = false := by
  simp [CasRec.setBarred, hp, hr, hm, he, hv]

section
variable {a : SlotAddr} {role : Role} {d : Option Nat} {n : Nat} (hm : s.office.mode = .hold) (hc : slotIndex a = some c)
  (h1 : 100 ≤ n) (h2 : n ≤ 2200) (hsuit : roleSuits (some role) d = true) (hnote : s.noteGiven d = true)
include hm hc h1 h2 hsuit hnote

/-- A present cassette that R127 does not bar takes its new role, denomination and capacity. -/
theorem doSetCassette_sets (hfree : (s.cassette c).setBarred = false)
    (huse : s.cassetteCount c = 0 ∨ d = (s.cassette c).denom ∧ role ≠ .unassigned ∧ role ≠ .spare)
    (hroom : s.cassetteCount c ≤ n) : doSetCassette ⟨a, some role, d, n⟩ s =
      (okReply [], settle (s.setCassette c { s.cassette c with role := role, denom := d, capacity := n })) := by
  have hin : ¬(s.cassetteCount c ≠ 0 ∧ (d ≠ (s.cassette c).denom ∨ role = .unassigned ∨ role = .spare)) := by tauto
  unfold doSetCassette
  rw [if_neg (not_not_intro hm), hc]
  dsimp only
  rw [if_neg (by simp [capacityOk_of_range h1 h2, hsuit]), if_neg (by simp [hfree]), if_neg (by simp [hnote]), if_neg hin,
    if_neg (Nat.not_lt.mpr hroom)]

/-- A vacant slot takes the announcement of a cassette whose number is not in use. -/
theorem doInsertCassette_announces {t : Nat} (ht1 : 1 ≤ t) (ht2 : t ≤ 4294967295) (hp : (s.cassette c).present = false)
    (htag : s.isCassetteTag t (some c) = false) (hreg : s.inRegister t = false) :
    doInsertCassette ⟨a, t, some role, d, n⟩ s =
      (okReply [], s.setCassette c { s.cassette c with announced := some ⟨t, role, d, n⟩ }) := by
  have htop : tagOk t = true := by simp [tagOk, Config.top32, ht1, ht2]
  unfold doInsertCassette
  rw [if_neg (not_not_intro hm), hc]
  dsimp only
  rw [if_neg (by simp [capacityOk_of_range h1 h2, denomGiven_of_note hnote, hsuit, htop]), if_neg (by simp [hp]),
    if_neg (by simp [hnote]), if_neg (by simp [htag, hreg])]
  rfl

end

/-! ### SET ROUTE, R133 -/

/-- Ranges whose ways are placed cassettes of the denomination are stored. -/
theorem doSetRoute_stores {d : Nat} {l : List RangeReq} {w : List (Nat × List Nat)} (hm : s.office.mode = .hold)
    (hd : s.isNote d = true) (hl : rangesOk l = some w)
    (hways : ∀ k ∈ (w.map Prod.snd).flatten, (s.cassette k).present = true ∧ (s.cassette k).denom = some d ∧
      ((s.cassette k).role = .recycle ∨ (s.cassette k).role = .depositOnly)) :
    doSetRoute ⟨d, l⟩ s = (okReply [], s.setRanges d (storedRanges w)) := by
  have hplaced : ((w.map Prod.snd).flatten.any fun k => !((s.cassette k).present
      && ((s.cassette k).role = .recycle || (s.cassette k).role = .depositOnly))) = false :=
    List.any_eq_false.mpr fun k hk => by
      obtain ⟨hp, -, hr⟩ := hways k hk
      simpa [hp, or_iff_not_imp_left] using hr
  have hdenom : ((w.map Prod.snd).flatten.any fun k => decide ((s.cassette k).denom ≠ some d)) = false :=
    List.any_eq_false.mpr fun k hk => by
      obtain ⟨-, hk, -⟩ := hways k hk
      simp [hk]
  unfold doSetRoute
  rw [if_neg (not_not_intro hm), hl]
  dsimp only
  rw [if_neg (by simp [hd]), if_neg (by simp only [hplaced, Bool.false_eq_true, not_false_eq_true]),
    if_neg (by simp only [hdenom, Bool.false_eq_true, not_false_eq_true])]

/-! ### REMOVE CASSETTE, R131, R132 -/

section
variable {a b : Nat} {x : SlotAddr} (hm : s.office.mode = .hold) (hc : slotIndex x = some c) (ha : opOk a = true)
  (hb : opOk b = true) (hops : s.dualControl .custodian a b = none) (hopen : (s.module (moduleOf c)).state = .safeOpen)
  (hp : (s.cassette c).present = true) (hsrc : (s.cassette c).evacSource = false) (hspare : (s.cassette c).evacSpare = false)
include hm hc ha hb hops hopen hp hsrc hspare

/-- A removal whose option suits the cassette passes the checks of R131: what follows depends on the option alone. -/
theorem doRemoveCassette_removes {o : RemoveOption} (ho : s.removable c o = true) :
    doRemoveCassette ⟨x, some o, a, b⟩ s = match o with
      | .empty => (okReply (numberList []), settle (strandedRemoved c (vacate c s)))
      | .forCollection => removeForCollection c a b s
      | .stranded => removeStranded c a b s := by
  unfold doRemoveCassette
  rw [if_neg (not_not_intro hm), hc]
  dsimp only
  rw [if_neg (by simp [ha, hb]), hops]
  dsimp only
  rw [if_neg (not_not_intro hopen), if_neg (by simp [hp, hsrc, hspare]), if_neg (by simp [ho])]
  cases o <;> rfl

end

/-- The cassette for collection becomes the container of its tag's number in the first FREE slot. -/
theorem removeForCollection_collects {a b n t : Nat} {u : State} (ht : (s.cassette c).tag = some t)
    (hreg : s.inRegister t = false) (hn : s.freeContainers.head? = some n)
    (hu : applyGroup 1 (collectMoves s c n a b)
      ((claimSlot (containerPos n) s).setContainer n (some (collectedCassette t))) = .ok u) :
    removeForCollection c a b s =
      (okReply (numberList (s.numbersOf (collectMoves s c n a b).length) ++ [u1 n]), settle (vacate c u)) := by
  obtain ⟨ns, hns⟩ := List.head?_eq_some_iff.mp hn
  unfold removeForCollection
  rw [ht]
  dsimp only [Option.getD_some]
  rw [if_neg (by simp [hreg]), hns]
  dsimp only
  rw [hu]

/-- The stranded cassette's notes go to the recovery lot in the first FREE slot. -/
theorem removeStranded_recovers {a b n : Nat} {u : State} (hn : s.freeLots.head? = some n)
    (hu : applyGroup 1 (withPairs [recoveryMove s c n a b]) (createLot n (.stranded c) none none s) = .ok u) :
    removeStranded c a b s = (okReply (numberList (s.numbersOf (withPairs [recoveryMove s c n a b]).length) ++ [u1 n]),
      settle (strandedRemoved c (vacate c u))) := by
  obtain ⟨ns, hns⟩ := List.head?_eq_some_iff.mp hn
  unfold removeStranded
  rw [hns]
  dsimp only
  rw [hu]

end Sys2Proof.Machine

open Sys2Proof Sys2Proof.Machine

/-- Settles O2: the pick of the moment, where there is one, is all that an empty queue brings about. -/
theorem emptyQueuePicksOrIdles : Obligations.EmptyQueuePicksOrIdles := by
  intro s hq
  have hidle : step s = .next (idle s) := by rw [step, hq]
  refine ⟨fun h => ?_, fun n hp hn => ?_⟩
  · have hs : idle s = s := by
      unfold idle
      split
      · next n hp hn => exact h.elim (fun h => nomatch hp.symm.trans h) fun h => nomatch hn.symm.trans h
      · rfl
    rw [hidle, hs]
  · have hs : idle s = pickNote n s := by rw [idle, hp, hn]
    rw [hidle, hs]; rfl

/-- Settles O42: the checks of each request, and the record or the ranges that it then stores. -/
theorem cassetteRequestsSetUpTheRecycler : Obligations.CassetteRequestsSetUpTheRecycler := by
  intro tag c a s hs hm hc
  refine ⟨fun role d n h1 h2 hsuit hnote => ⟨fun hp hr hmis he hv huse hroom => ?_, fun t ht1 ht2 hp htag hreg => ?_⟩,
    fun d l w hd hl hways => ?_⟩
  · exact exec_ready hs rfl (doSetCassette_sets (s := heard s) hm hc h1 h2 hsuit hnote
      (CasRec.setBarred_eq_false hp hr hmis he hv) huse hroom)
  · exact exec_ready hs rfl (doInsertCassette_announces (s := heard s) hm hc h1 h2 hsuit hnote ht1 ht2 hp htag hreg)
  · exact exec_ready hs rfl (doSetRoute_stores (s := heard s) hm hd hl hways)

/-- Settles O43: the checks that every option shares, then each option's own. -/
theorem removedCassetteLeavesTheSlotVacant : Obligations.RemovedCassetteLeavesTheSlotVacant := by
  intro tag c a b x s hs hm hc ha hb hops hopen hp hsrc hspare
  have hremove := fun o ho =>
    doRemoveCassette_removes (s := heard s) hm hc ha hb hops hopen hp hsrc hspare (o := o) ho
  refine ⟨fun hcount => ?_, fun n t u hr hmis ht hreg hn hu => ?_, fun n u hstr hn hu => ?_⟩
  · exact exec_ready hs rfl (hremove .empty (decide_eq_true hcount))
  · have ho : (heard s).removable c .forCollection = true := by simp [State.removable, hr, hmis]
    exact exec_ready hs rfl ((hremove .forCollection ho).trans
      (removeForCollection_collects (s := heard s) ht hreg hn hu))
  · exact exec_ready hs rfl ((hremove .stranded hstr).trans (removeStranded_recovers (s := heard s) hn hu))
end

section
/-! The events of the recycler mechanism: the notes of a run (O59), and jams, faults, heads, tag checks and purge cycles
(O60). -/

-- One theorem at a time: the whole text holds more theorems than the check has room for threads.
set_option Elab.async false

namespace Sys2Proof.Machine

variable {s : State}

/-- A run that picks from a point is RUNNING. -/
theorem live_of_picksFrom {p : PickPoint} (h : s.picksFrom p = true) : s.recycler.run.live = true :=
  (Bool.and_eq_true_iff.mp h).1

/-- A run that picks from an intake head is a DEPOSIT run. -/
theorem kind_of_picksFrom_head {h : Fin 2} (hp : s.picksFrom (.head h) = true) : s.recycler.run.kind = .deposit := by
  obtain ⟨-, hk⟩ := Bool.and_eq_true_iff.mp hp
  exact of_decide_eq_true (Bool.and_eq_true_iff.mp hk).1

theorem picksFrom_eq_false {p : PickPoint} (h : s.recycler.run.live = false) : s.picksFrom p = false := by
  simp [State.picksFrom, h]

/-- An event at a controller with power present does what its block does. -/
theorem exec_event {i : Instr} {t : State} (f : State → State) (hp : s.powered = true) (hi : exec i s = .next (event f s))
    (ht : f s = t) : exec i s = .next (transmit t) := by
  rw [hi, event_on _ _ hp, ht]

/-! ### Notes read, R134, R135 -/

theorem routeNote_way {p d g k i c : Nat} (h : s.place d g = some (k, i, c)) :
    routeNote p d g s = some (pickNote ⟨p, d, .pos (cassettePos c)⟩ (movePointer d k i s)) := by
  rw [routeNote, h]

theorem routeNote_escrow {p d g : Nat} (h : s.place d g = none) (hroom : s.escrowRoom d = true) :
    routeNote p d g s = some (pickNote ⟨p, d, .escrow⟩ s) := by
  rw [routeNote, h]
  exact if_pos hroom

theorem routeNote_none {p d g : Nat} (h : s.place d g = none) (hroom : s.escrowRoom d = false) :
    routeNote p d g s = none := by
  rw [routeNote, h]
  exact if_neg (by simp [hroom])

/-- A note that its lot still holds goes where its routing takes it. -/
theorem headNote_routed {n d : Nat} {g : Fin 4} {t : State} (hheld : 0 < s.stillHeld (lotPos n) d)
    (h : routeNote (lotPos n) d g s = some t) : headNote n (.note d g) s = t := by
  unfold headNote
  dsimp only
  rw [if_neg (Nat.pos_iff_ne_zero.mp hheld), h]

/-- A note that its lot does not hold any more, or that nothing takes, is foreign. -/
theorem headNote_foreign {n d : Nat} {g : Fin 4} (h : s.stillHeld (lotPos n) d = 0 ∨ routeNote (lotPos n) d g s = none) :
    headNote n (.note d g) s = foreignNote s := by
  unfold headNote
  dsimp only
  split
  · rfl
  · next hheld => rw [h.resolve_left hheld]

/-- A note read at the head that a run with room picks from acts on the run's lot. -/
theorem exec_noteRead_head {h : Fin 2} {n : Nat} (x : Reading) (hp : s.powered = true)
    (hroom : s.recycler.run.roomToPick = true) (hpick : s.picksFrom (.head h) = true) (hlot : s.recycler.run.lot = some n) :
    exec (.noteRead (.head h) x) s = .next (transmit (settle (headNote n x s))) := by
  refine exec_event (readNote (.head h) x) hp rfl ?_
  unfold readNote
  rw [if_neg (by simp [hroom])]
  dsimp only
  rw [if_pos hpick, hlot]

/-! ### Arrivals, misfeeds and double picks, R138, R140 -/

theorem noteArrives_found {a : Arrival} {x : PathNote} (hlive : s.recycler.run.live = true)
    (hx : s.recycler.run.path.find? (fun x => x.dest = arrivalDest a) = some x) :
    noteArrives a s = settle (arriveNote x s) := by
  unfold noteArrives arriving
  rw [if_pos hlive, hx]

/-- A misfeed that is no third one in a row counts a failed pick. -/
theorem failedPick_counts {p : PickPoint} (hc : s.recycler.run.cause = none) (hf : s.recycler.run.failed + 1 < Config.pickLimit) :
    failedPick p s = s.setRun { s.recycler.run with failed := s.recycler.run.failed + 1 } := by
  unfold failedPick
  dsimp only
  rw [if_neg (not_not_intro hc), if_pos hf]

theorem misfeedAt_head {h : Fin 2} (hk : s.recycler.run.kind ≠ .evacuate) :
    misfeedAt (.head h) s = failedPick (.head h) s := if_neg hk

/-- What a change of a cassette's record keeps of it reads as before, in every slot. -/
theorem cassette_changeCassette_keeps {α : Type} (g : CasRec → α) {f : CasRec → CasRec} (hf : ∀ r, g (f r) = g r)
    (c k : Nat) (s : State) : g ((changeCassette c f s).cassette k) = g (s.cassette k) := by
  by_cases hck : c = k
  · subst hck
    by_cases hc : c < 12
    · rw [changeCassette, cassette_setCassette_self _ c _ hc, hf]
    · have hout : (changeCassette c f s).recycler.cassettes = s.recycler.cassettes :=
        Tab.set_out _ c _ (Nat.le_of_not_lt hc)
      rw [State.cassette, hout, State.cassette]
  · rw [changeCassette, cassette_setCassette_ne _ c k _ hck]

/-- The bucket of a present cassette rises, and with it, where it reaches the threshold, AT_THRESHOLD and its notice. -/
theorem raiseBucket_cases (c w : Nat) (s : State) :
    let u := changeCassette c (fun r => { r with bucket := Nat.min Config.bucketTop (r.bucket + w) }) s
    ((s.cassette c).present = false ∧ raiseBucket c w s = s) ∨
    (u.thresholdDue c = true ∧
      ∃ b, raiseBucket c w s = notify b (changeCassette c (fun r => { r with atThreshold := true }) u)) ∨
    (u.thresholdDue c = false ∧ raiseBucket c w s = u) := by
  intro u
  by_cases hp : (s.cassette c).present = true
  · have hraise : raiseBucket c w s = if u.thresholdDue c then setThreshold c u else u := if_neg (by simp [hp])
    rw [hraise]
    cases u.thresholdDue c
    · exact .inr (.inr ⟨rfl, rfl⟩)
    · exact .inr (.inl ⟨rfl, _, rfl⟩)
  · exact .inl ⟨by simpa using hp, if_pos (by simp [hp])⟩

theorem raiseBucket_run (c w : Nat) (s : State) : (raiseBucket c w s).recycler.run = s.recycler.run := by
  obtain ⟨-, h⟩ | ⟨-, b, h⟩ | ⟨-, h⟩ := raiseBucket_cases c w s <;> rw [h]
  · rw [notify_recycler]; rfl
  · rfl

/-- A cassette whose bucket rises keeps its denomination. -/
theorem raiseBucket_denom (c w k : Nat) (s : State) : ((raiseBucket c w s).cassette k).denom = (s.cassette k).denom := by
  obtain ⟨-, h⟩ | ⟨-, b, h⟩ | ⟨-, h⟩ := raiseBucket_cases c w s <;> rw [h]
  · rw [State.cassette, notify_recycler, ← State.cassette]
    rw [cassette_changeCassette_keeps CasRec.denom, cassette_changeCassette_keeps CasRec.denom] <;> exact fun _ => rfl
  · rw [cassette_changeCassette_keeps CasRec.denom]; exact fun _ => rfl

theorem misfeedAt_cassette {c : Fin 12} (hk : s.recycler.run.kind ≠ .evacuate) :
    misfeedAt (.cassette c) s = failedPick (.cassette c) (raiseBucket c 1 s) :=
  if_neg (by rw [raiseBucket_run]; exact hk)

/-- Both notes of a double pick are on their way to the purge bin of the cassette's module. -/
theorem doubleAtCassette_picks {c d : Nat} (hk : s.recycler.run.kind ≠ .evacuate) (hd : (s.cassette c).denom = some d) :
    let x : PathNote := ⟨cassettePos c, d, .pos (purgePos (moduleOf c))⟩
    doubleAtCassette c s = pickNote x (pickNote x (raiseBucket c 2 s)) := by
  intro x
  unfold doubleAtCassette
  dsimp only [Config.doubleWeight]
  rw [if_neg (by rw [raiseBucket_run]; exact hk), raiseBucket_denom, hd]

/-- A misfeed at the run's pick point. -/
theorem exec_misfeed {p : PickPoint} {t : State} (hp : s.powered = true) (hpick : s.picksFrom p = true)
    (ht : misfeedAt p s = t) : exec (.misfeed p) s = .next (transmit (settle t)) :=
  exec_event (fun s => if s.picksFrom p then settle (misfeedAt p s) else s) hp rfl (by rw [if_pos hpick, ht])

/-- A double pick at the run's pick point. -/
theorem exec_doublePick {p : PickPoint} {t : State} (hp : s.powered = true) (hpick : s.picksFrom p = true)
    (ht : doubleAt p s = t) : exec (.doublePick p) s = .next (transmit (settle t)) :=
  exec_event (fun s => if s.picksFrom p then settle (doubleAt p s) else s) hp rfl (by rw [if_pos hpick, ht])

/-! ### Jams and module faults, R141, R142 -/

theorem jamReported_point {p : JamPoint} (h : ∀ c, p ≠ .cassette c) : jamReported p s = handFault (jamSource p) .jam s := by
  unfold jamReported
  split
  · next c => exact absurd rfl (h c)
  · rfl

theorem purgeBin_wish {m : Nat} (h : (s.module m).fault = false) : s.purgeBin m = some m :=
  if_pos (by rw [State.faultPresent, h]; rfl)

/-- A jam at a branch or on the common path ends the RUNNING run, whose purge cycle starts into the bin it wishes for. -/
theorem jamAt_run {p : JamPoint} (h : ∀ c, p ≠ .cassette c) (hlive : s.recycler.run.live = true)
    (hf : (s.module (jamModule p)).fault = false) :
    jamAt p s = ((handFault (jamSource p) .jam s).setRun { s.recycler.run with
      state := .purging, cause := some .jam, bin := some (jamModule p) }).setPurge (some ⟨jamModule p, false⟩) := by
  have hbin : (handFault (jamSource p) .jam s).purgeBin (jamModule p) = some (jamModule p) := purgeBin_wish hf
  unfold jamAt
  dsimp only
  rw [jamReported_point h, if_pos (show (handFault (jamSource p) .jam s).recycler.run.live = true from hlive), stopRun, hbin]
  rfl

/-- Without a RUNNING run a module's fault concerns the module alone. -/
theorem faultAt_idle (m : Nat) (hlive : s.recycler.run.live = false) : faultAt m s =
    faultModule m (handFault (.module m) .module (s.setModRec m { s.module m with fault := true })) :=
  if_neg fun h => Bool.false_ne_true (hlive.symm.trans (Bool.and_eq_true_iff.mp h).1)

/-! ### Intake heads, R122, R139 -/

theorem headEmpties_idle {h : Fin 2} (hlive : s.recycler.run.live = false) : headEmpties h s = setHead h false s :=
  if_neg (by rw [picksFrom_eq_false (s := setHead h false s) hlive]; exact Bool.false_ne_true)

/-- A RUNNING run without an end cause takes one. -/
theorem endRun_live {c : EndCause} (hlive : s.recycler.run.live = true) (hc : s.recycler.run.cause = none) :
    endRun c s = s.setRun { s.recycler.run with cause := some c } := if_pos ⟨hlive, hc⟩

theorem headEmpties_ends {h : Fin 2} (hpick : s.picksFrom (.head h) = true) (hc : s.recycler.run.cause = none) :
    headEmpties h s = settle ((setHead h false s).setRun { s.recycler.run with cause := some .sourceEmpty }) := by
  have hends : endRun .sourceEmpty (setHead h false s) =
      (setHead h false s).setRun { s.recycler.run with cause := some .sourceEmpty } :=
    endRun_live (s := setHead h false s) (live_of_picksFrom (s := s) hpick) hc
  unfold headEmpties
  dsimp only
  rw [if_pos (show (setHead h false s).picksFrom (.head h) = true from hpick), hends]

/-! ### The tag check and the end of a purge cycle, R128, R143 -/

/-- A tag check changes the records of the cassettes only. -/
theorem checkTags_state (m : Nat) (tags : Tab 6 (Option Nat)) (s : State) :
    ∃ t, checkTags m tags s = { s with recycler := { s.recycler with cassettes := t } } := by
  unfold checkTags
  refine each_keeps (fun u => ∃ t, u = { s with recycler := { s.recycler with cassettes := t } }) _ ?_ _ s ⟨_, rfl⟩
  rintro i _ ⟨t, rfl⟩
  exact ⟨_, rfl⟩

theorem tagsRead_starting {m : Nat} {tags : Tab 6 (Option Nat)} (hst : (s.module m).state = .starting)
    (hstep : (s.module m).step = .tags) :
    let u := checkTags m tags s
    tagsRead m tags s = settle { u with
      recycler := { u.recycler with
        freshTags := s.recycler.freshTags.set m false
        modules := s.recycler.modules.set m { s.module m with step := .purgeWait } } } := by
  intro u
  have hu : tagsRead m tags s = settle (State.setModRec
      { u with recycler := { u.recycler with freshTags := u.recycler.freshTags.set m false } } m
      { s.module m with step := .purgeWait }) := if_pos ⟨hst, hstep⟩
  obtain ⟨t, ht⟩ : ∃ t, u = { s with recycler := { s.recycler with cassettes := t } } := checkTags_state m tags s
  rw [hu, ht]
  rfl

theorem purgeOver_cycle {c : PurgeCycle} (clear : Bool) (notes : Nat) (h : s.recycler.purge = some c) :
    purgeOver clear notes s = settle (if clear then purgeClear c notes s else purgeFailed c s) := by
  rw [purgeOver, h]

end Sys2Proof.Machine

open Sys2Proof Sys2Proof.Machine

/-- Settles O59: the event finds its run, and the note's routing, the misfeed's count or the double pick's notes follow. -/
theorem runNotesArePickedAndBooked : Obligations.RunNotesArePickedAndBooked := by
  intro s hp
  refine ⟨fun h n d g hroom hpick hlot => ⟨fun k i c hheld hplace => ?_, fun hheld hplace hesc => ?_, fun hnot => ?_, ?_⟩,
    fun a x hx hlive => ?_, fun h hpick hc hf => ?_, fun c hpick => ⟨fun hk => ?_, fun d hk hd => ?_⟩⟩
  · rw [exec_noteRead_head _ hp hroom hpick hlot, headNote_routed hheld (routeNote_way hplace)]
  · rw [exec_noteRead_head _ hp hroom hpick hlot, headNote_routed hheld (routeNote_escrow hplace hesc)]
  · rw [exec_noteRead_head _ hp hroom hpick hlot,
      headNote_foreign (hnot.imp_right fun ⟨hplace, hesc⟩ => routeNote_none hplace hesc)]
  · exact exec_noteRead_head .noRead hp hroom hpick hlot
  · exact exec_event (noteArrives a) hp rfl (noteArrives_found hlive hx)
  · have hk : s.recycler.run.kind ≠ .evacuate := by rw [kind_of_picksFrom_head hpick]; decide
    exact exec_misfeed hp hpick ((misfeedAt_head hk).trans (failedPick_counts hc hf))
  · exact exec_misfeed hp hpick (misfeedAt_cassette (by rw [hk]; decide))
  · exact exec_doublePick hp hpick (doubleAtCassette_picks (by rw [hk]; decide) hd)

/-- Settles O60: each event of the mechanism is one operation of the spine, taken in the case that the clause names. -/
theorem mechanismEventsReachTheSpine : Obligations.MechanismEventsReachTheSpine := by
  intro s hp
  refine ⟨fun p h hlive hf => ?_, fun m => ⟨fun hlive => ?_, ?_⟩, fun h => ⟨fun hlive => ?_, fun hpick hc => ?_, ?_⟩,
    fun m tags hst hstep => ?_, fun c notes hpurge => ⟨?_, ?_⟩⟩
  · exact exec_event (fun s => settle (jamAt p s)) hp rfl (congrArg settle (jamAt_run h hlive hf))
  · exact exec_event (fun s => settle (faultAt m s)) hp rfl (congrArg settle (faultAt_idle m hlive))
  · exact exec_event (setFault m false) hp rfl rfl
  · exact exec_event (headEmpties h) hp rfl (headEmpties_idle hlive)
  · exact exec_event (headEmpties h) hp rfl (headEmpties_ends hpick hc)
  · exact exec_event (setHead h true) hp rfl rfl
  · exact exec_event (tagsRead m tags) hp rfl (tagsRead_starting hst hstep)
  · exact exec_event (purgeOver true notes) hp rfl (purgeOver_cycle true notes hpurge)
  · exact exec_event (purgeOver false notes) hp rfl (purgeOver_cycle false notes hpurge)
end

section
/-! What the laws of the recycler read of a state (R126, R158, R159, R162): the projection `State.stock`, the laws as laws of
a stock, and the changes of a stock that keep them. -/

-- One theorem at a time: the whole text holds more theorems than the check has room for threads.
set_option Elab.async false

namespace Sys2Proof.Machine

/-- The cassettes with their counts, the evacuating pair and the threshold. -/
structure Stock where
  cassettes : Tab 12 CasRec
  freshTags : Tab 2 Bool
  pair : Option (Nat × Nat)
  threshold : Nat
  counts : Tab 12 Counts

def State.stock (s : State) : Stock where
  cassettes := s.recycler.cassettes
  freshTags := s.recycler.freshTags
  pair := s.evacPair
  threshold := s.evac.threshold
  counts := Tab.ofFn 12 fun c => (s.posRec (cassettePos c)).counts

/-- The record of cassette `c`. -/
def Stock.cassette (x : Stock) (c : Nat) : CasRec := x.cassettes.get CasRec.vacant c

/-- The count of denomination `d` in cassette `c`. -/
def Stock.held (x : Stock) (c d : Nat) : Nat := Counts.of (x.counts.get Counts.zero c) d

/-- The number of notes in cassette `c`. -/
def Stock.count (x : Stock) (c : Nat) : Nat := (x.counts.get Counts.zero c).items

/-- What the laws ask of a record of cassette `c` beside the rest of the stock. -/
structure Stock.Allows (x : Stock) (c : Nat) (r : CasRec) : Prop where
  flagged : r.present = true → r.role ≠ .retired → x.threshold ≤ r.bucket → r.atThreshold = true
  room : x.count c ≤ r.capacity
  denom : ∀ d < 12, x.held c d ≠ 0 → r.denom = some d
  vacant : r.present = false → x.count c = 0
  unchecked : x.freshTags.get false (moduleOf c) = true → r.present = false
  source : ∀ b, x.pair = some (c, b) → r.present = true ∧ r.evacSource = true
  spare : ∀ a, x.pair = some (a, c) →
    r.present = true ∧ r.evacSpare = true ∧ r.role = .spare ∧ x.count a + x.count c ≤ r.capacity

/-- The laws of the recycler together. -/
structure Stock.Lawful (x : Stock) : Prop where
  threshold : 1 ≤ x.threshold
  allows : ∀ c < 12, x.Allows c (x.cassette c)
  pair : ∀ a b, x.pair = some (a, b) → a < 12 ∧ b < 12 ∧ a ≠ b ∧ moduleOf a = moduleOf b

/-- Every fault bucket lies between 0 and 255. -/
def Stock.Bounded (x : Stock) : Prop := ∀ c < 12, (x.cassette c).bucket ≤ Config.bucketTop

variable {s : State} {x y : Stock} {a b c d k : Nat} {r r' : CasRec} {f : CasRec → CasRec}

/-! ### The laws of a state are those of its stock -/

theorem stock_held (s : State) (hc : c < 12) (d : Nat) : s.stock.held c d = s.held (cassettePos c) d :=
  congrArg (Counts.of · d) (get_ofFn Counts.zero _ hc)

theorem stock_count (s : State) (hc : c < 12) : s.stock.count c = s.cassetteCount c :=
  congrArg Counts.items (get_ofFn Counts.zero _ hc)

theorem evacLaw_iff : s.evacLaw ↔ ∀ a b, s.evacPair = some (a, b) →
    a < 12 ∧ b < 12 ∧ a ≠ b ∧ moduleOf a = moduleOf b ∧
      (s.cassette a).present = true ∧ (s.cassette b).present = true ∧
      (s.cassette a).evacSource = true ∧ (s.cassette b).evacSpare = true ∧ (s.cassette b).role = .spare ∧
      s.cassetteCount a + s.cassetteCount b ≤ (s.cassette b).capacity := by
  unfold State.evacLaw
  split
  · next h => simp [h]
  · next a b h => simp [h]

theorem recyclerLaw_iff : s.recyclerLaw ↔ s.stock.Lawful := by
  unfold State.recyclerLaw State.thresholdLaw State.cassetteLaw
  rw [evacLaw_iff]
  constructor
  · rintro ⟨⟨h1, hflag⟩, hcas, hpair⟩
    refine ⟨h1, fun c hc => ?_, fun a b h => ?_⟩
    · obtain ⟨hroom, hdenom, hvacant, hfresh⟩ := hcas c hc
      refine ⟨hflag c hc, ?_, fun d hd => ?_, fun h => ?_, hfresh, fun b h => ?_, fun a h => ?_⟩
      · rw [stock_count s hc]; exact hroom
      · rw [stock_held s hc]; exact hdenom d hd
      · rw [stock_count s hc]; exact hvacant h
      · obtain ⟨-, -, -, -, hp, -, hs, -⟩ := hpair c b h
        exact ⟨hp, hs⟩
      · obtain ⟨ha, -, -, -, -, hp, -, hs, hr, hn⟩ := hpair a c h
        rw [stock_count s ha, stock_count s hc]
        exact ⟨hp, hs, hr, hn⟩
    · obtain ⟨ha, hb, hne, hm, -⟩ := hpair a b h
      exact ⟨ha, hb, hne, hm⟩
  · rintro ⟨h1, hall, hpair⟩
    refine ⟨⟨h1, fun c hc => (hall c hc).flagged⟩, fun c hc => ⟨?_, fun d hd => ?_, fun h => ?_, (hall c hc).unchecked⟩,
      fun a b h => ?_⟩
    · rw [← stock_count s hc]; exact (hall c hc).room
    · rw [← stock_held s hc]; exact (hall c hc).denom d hd
    · rw [← stock_count s hc]; exact (hall c hc).vacant h
    · obtain ⟨ha, hb, hne, hm⟩ := hpair a b h
      obtain ⟨hpa, hsa⟩ := (hall a ha).source b h
      obtain ⟨hpb, hsb, hr, hn⟩ := (hall b hb).spare a h
      rw [stock_count s ha, stock_count s hb] at hn
      exact ⟨ha, hb, hne, hm, hpa, hpb, hsa, hsb, hr, hn⟩

theorem bucketLaw_iff : s.bucketLaw ↔ s.stock.Bounded := Iff.rfl

/-! ### Counts and their sums -/

theorem items_eq_sum (n : Counts) : n.items = ∑ d ∈ Finset.range 12, Counts.of n d := by
  have hlist : n.list = (List.range 12).map (Counts.of n) := by
    refine List.ext_getElem (by simp [n.size]) fun i h1 h2 => ?_
    rw [List.getElem_map, List.getElem_range]
    exact (List.getD_eq_getElem _ _ h1).symm
  calc n.items = n.list.sum := rfl
    _ = ((List.range 12).map (Counts.of n)).sum := congrArg _ hlist
    _ = _ := rfl

theorem Stock.count_eq_sum (x : Stock) (c : Nat) : x.count c = ∑ d ∈ Finset.range 12, x.held c d := items_eq_sum _

/-- A cassette without notes holds none of any denomination. -/
theorem Stock.held_of_count (h : x.count c = 0) (hd : d < 12) : x.held c d = 0 := by
  rw [Stock.count_eq_sum, Finset.sum_eq_zero_iff] at h
  exact h d (Finset.mem_range.mpr hd)

/-- A cassette without a note of any denomination is empty. -/
theorem Stock.count_of_held (h : ∀ d < 12, x.held c d = 0) : x.count c = 0 := by
  rw [Stock.count_eq_sum]
  exact Finset.sum_eq_zero fun d hd => h d (Finset.mem_range.mp hd)

/-! ### One record changed -/

namespace Stock

/-- The stock with the record of cassette `c` changed by `f`. -/
def change (c : Nat) (f : CasRec → CasRec) (x : Stock) : Stock :=
  { x with cassettes := x.cassettes.set c (f (x.cassette c)) }

theorem cassette_change_self (hc : c < 12) (f : CasRec → CasRec) (x : Stock) :
    (x.change c f).cassette c = f (x.cassette c) := Tab.get_set_self _ _ c _ hc

theorem cassette_change_ne (h : c ≠ k) (f : CasRec → CasRec) (x : Stock) : (x.change c f).cassette k = x.cassette k :=
  Tab.get_set_ne _ _ c k _ h

theorem change_out (hc : 12 ≤ c) (f : CasRec → CasRec) (x : Stock) : x.change c f = x := by
  rw [change, Tab.set_out _ c _ hc]

/-- Two changes of one record are one. -/
theorem change_change (c : Nat) (f g : CasRec → CasRec) (x : Stock) : (x.change c f).change c g = x.change c (g ∘ f) := by
  by_cases hc : c < 12
  · have hset : ∀ r q : CasRec, (x.cassettes.set c r).set c q = x.cassettes.set c q := fun r q => by
      simp only [Tab.set, List.set_set]
    rw [change, cassette_change_self hc, change, hset]
    rfl
  · simp only [change_out (Nat.le_of_not_lt hc)]

/-- Only a slot of the twelve can be present. -/
theorem lt_of_present (h : (x.cassette c).present = true) : c < 12 := by
  by_contra hc
  rw [cassette, Tab.get_out _ _ c (Nat.le_of_not_lt hc)] at h
  cases h

/-! ### What the laws allow -/

/-- What is allowed depends on the stock beside the records only, and on less of it when the pair or a tag check ends. -/
theorem Allows.mono (h : x.Allows c r) (hthr : y.threshold = x.threshold) (hcount : y.counts = x.counts)
    (hfresh : y.freshTags.get false (moduleOf c) = true → x.freshTags.get false (moduleOf c) = true)
    (hpair : ∀ a b, y.pair = some (a, b) → x.pair = some (a, b)) : y.Allows c r := by
  have hc : ∀ k, y.count k = x.count k := fun k => by rw [count, hcount, count]
  have hh : ∀ k d, y.held k d = x.held k d := fun k d => by rw [held, hcount, held]
  refine ⟨?_, ?_, ?_, ?_, h.unchecked ∘ hfresh, fun b hp => h.source b (hpair _ _ hp), fun a hp => ?_⟩
  · rw [hthr]; exact h.flagged
  · rw [hc]; exact h.room
  · simp only [hh]; exact h.denom
  · rw [hc]; exact h.vacant
  · rw [hc, hc]; exact h.spare a (hpair _ _ hp)

theorem Allows.change (h : x.Allows k r) : (x.change c f).Allows k r := h.mono rfl rfl id fun _ _ => id

/-- A record that differs in its bucket, its tags and its marks only, flagged where that is due. -/
theorem Allows.sameBody (h : x.Allows c r)
    (hflag : r.present = true → r.role ≠ .retired → x.threshold ≤ r'.bucket → r'.atThreshold = true)
    (hpres : r'.present = r.present := by rfl) (hrole : r'.role = r.role := by rfl) (hden : r'.denom = r.denom := by rfl)
    (hcap : r'.capacity = r.capacity := by rfl) (hsrc : r'.evacSource = r.evacSource := by rfl)
    (hspare : r'.evacSpare = r.evacSpare := by rfl) : x.Allows c r' := by
  refine ⟨?_, ?_, ?_, ?_, ?_, ?_, ?_⟩
  · rw [hpres, hrole]; exact hflag
  · rw [hcap]; exact h.room
  · rw [hden]; exact h.denom
  · rw [hpres]; exact h.vacant
  · rw [hpres]; exact h.unchecked
  · rw [hpres, hsrc]; exact h.source
  · rw [hpres, hspare, hrole, hcap]; exact h.spare

/-- Where no pair is given, the role and the marks of the evacuation are free. -/
theorem Allows.unpaired (h : x.Allows c r) (hnone : x.pair = none)
    (hflag : r.present = true → r'.role ≠ .retired → x.threshold ≤ r'.bucket → r'.atThreshold = true)
    (hpres : r'.present = r.present := by rfl) (hden : r'.denom = r.denom := by rfl)
    (hcap : r'.capacity = r.capacity := by rfl) : x.Allows c r' := by
  refine ⟨?_, ?_, ?_, ?_, ?_, fun b hp => ?_, fun a hp => ?_⟩
  · rw [hpres]; exact hflag
  · rw [hcap]; exact h.room
  · rw [hden]; exact h.denom
  · rw [hpres]; exact h.vacant
  · rw [hpres]; exact h.unchecked
  · rw [hnone] at hp; cases hp
  · rw [hnone] at hp; cases hp

/-- In a slot that is empty and of no pair any record is allowed, where it is flagged when that is due. -/
theorem Allows.of_empty (hcount : x.count c = 0) (hpair : ∀ a b, x.pair = some (a, b) → c ≠ a ∧ c ≠ b)
    (hfresh : x.freshTags.get false (moduleOf c) = true → r.present = false)
    (hflag : r.present = true → r.role ≠ .retired → x.threshold ≤ r.bucket → r.atThreshold = true) : x.Allows c r :=
  ⟨hflag, hcount ▸ Nat.zero_le _, fun _ hd hne => absurd (held_of_count hcount hd) hne, fun _ => hcount, hfresh,
    fun b hp => absurd rfl (hpair c b hp).1, fun a hp => absurd rfl (hpair a c hp).2⟩

/-! ### Lawful changes -/

theorem Lawful.change (h : x.Lawful) (hf : c < 12 → x.Allows c (x.cassette c) → x.Allows c (f (x.cassette c))) :
    (x.change c f).Lawful := by
  refine ⟨h.threshold, fun k hk => ?_, h.pair⟩
  by_cases hck : c = k
  · subst hck
    rw [cassette_change_self hk]
    exact (hf hk (h.allows c hk)).change
  · rw [cassette_change_ne hck]
    exact (h.allows k hk).change

theorem Bounded.change (h : x.Bounded)
    (hf : (x.cassette c).bucket ≤ Config.bucketTop → (f (x.cassette c)).bucket ≤ Config.bucketTop) :
    (x.change c f).Bounded := by
  intro k hk
  by_cases hck : c = k
  · subst hck
    rw [cassette_change_self hk]
    exact hf (h c hk)
  · rw [cassette_change_ne hck]
    exact h k hk

/-- The evacuation's pair ends. -/
theorem Lawful.endPair (h : x.Lawful) : ({ x with pair := none } : Stock).Lawful :=
  ⟨h.threshold, fun c hc => (h.allows c hc).mono rfl rfl id nofun, nofun⟩

/-- The first tag check of a module is done. -/
theorem Lawful.tagsChecked (h : x.Lawful) (m : Nat) :
    ({ x with freshTags := x.freshTags.set m false } : Stock).Lawful := by
  refine ⟨h.threshold, fun c hc => (h.allows c hc).mono rfl rfl (fun hf => ?_) fun _ _ => id, h.pair⟩
  by_cases hm : m = moduleOf c
  · subst hm
    by_cases h2 : moduleOf c < 2
    · rw [Tab.get_set_self _ _ _ _ h2] at hf; cases hf
    · rwa [Tab.set_out _ _ _ (Nat.le_of_not_lt h2)] at hf
  · rwa [Tab.get_set_ne _ _ _ _ _ hm] at hf

/-- The spare takes the source's role and the source, changed by `f`, is retired, R167 and R168. -/
def retire (a b : Nat) (f : CasRec → CasRec) (x : Stock) : Stock :=
  (({ x with pair := none } : Stock).change b fun r => { r with role := (x.cassette a).role, evacSpare := false }).change a f

theorem Lawful.retire (h : x.Lawful) (hp : x.pair = some (a, b)) (hrole : ∀ r, (f r).role = .retired)
    (hpres : ∀ r, (f r).present = r.present := by exact fun _ => rfl)
    (hden : ∀ r, (f r).denom = r.denom := by exact fun _ => rfl)
    (hcap : ∀ r, (f r).capacity = r.capacity := by exact fun _ => rfl) : (x.retire a b f).Lawful := by
  obtain ⟨-, hb, -, -⟩ := h.pair a b hp
  obtain ⟨-, -, hspare, -⟩ := (h.allows b hb).spare a hp
  have hflag := (h.allows b hb).flagged
  have h1 := h.endPair.change (c := b) (f := fun r => { r with role := (x.cassette a).role, evacSpare := false })
    fun _ hall => hall.unpaired rfl fun hpres _ => hflag hpres (by rw [hspare]; decide)
  exact h1.change fun _ hall => hall.unpaired rfl (fun _ hr => absurd (hrole _) hr) (hpres _) (hden _) (hcap _)

/-- A marked source and a marked spare, with room for the notes of both, are given as the pair (R163, R165). -/
theorem Lawful.pairUp (h : x.Lawful) (hne : a ≠ b) (hmod : moduleOf a = moduleOf b) (hpa : (x.cassette a).present = true)
    (hsrc : (x.cassette a).evacSource = true) (hpb : (x.cassette b).present = true)
    (hspare : (x.cassette b).evacSpare = true) (hrole : (x.cassette b).role = .spare)
    (hroom : x.count a + x.count b ≤ (x.cassette b).capacity) : ({ x with pair := some (a, b) } : Stock).Lawful := by
  refine ⟨h.threshold, fun c hc => ?_, fun p q hpq => ?_⟩
  · obtain ⟨hflag, hcap, hden, hvac, hfresh, -, -⟩ := h.allows c hc
    refine ⟨hflag, hcap, hden, hvac, hfresh, fun q hq => ?_, fun p hp => ?_⟩
    · cases hq; exact ⟨hpa, hsrc⟩
    · cases hp; exact ⟨hpb, hspare, hrole, hroom⟩
  · cases hpq; exact ⟨lt_of_present hpa, lt_of_present hpb, hne, hmod⟩

/-- The marks of an evacuation are set on source `a` and spare `b`, which takes the source's denomination (R165). -/
def startPair (a b : Nat) (x : Stock) : Stock :=
  { (x.change b fun r => { r with denom := (x.cassette a).denom, evacSpare := true }).change a
      fun r => { r with evacSource := true } with pair := some (a, b) }

theorem Lawful.startPair (h : x.Lawful) (hnone : x.pair = none) (hne : a ≠ b) (hmod : moduleOf a = moduleOf b)
    (hpa : (x.cassette a).present = true) (hpb : (x.cassette b).present = true) (hrole : (x.cassette b).role = .spare)
    (hzero : x.count b = 0) (hroom : x.count a ≤ (x.cassette b).capacity) : (x.startPair a b).Lawful := by
  have ha := lt_of_present hpa
  have hb := lt_of_present hpb
  have h1 : (x.change b fun r => { r with denom := (x.cassette a).denom, evacSpare := true }).Lawful :=
    h.change fun _ hall => .of_empty hzero (by rw [hnone]; exact nofun) hall.unchecked hall.flagged
  have h2 := h1.change (c := a) (f := fun r => { r with evacSource := true })
    fun _ hall => hall.unpaired hnone hall.flagged
  refine h2.pairUp hne hmod ?_ ?_ ?_ ?_ ?_ ?_
  · rw [cassette_change_self ha, cassette_change_ne hne.symm]; exact hpa
  · rw [cassette_change_self ha]
  all_goals rw [cassette_change_ne hne, cassette_change_self hb]
  · exact hpb
  · exact hrole
  · change x.count a + x.count b ≤ (x.cassette b).capacity
    rw [hzero]; exact hroom

/-- Other counts, where each cassette gains notes of its own denomination within its capacity and the pair within the
spare's. -/
theorem Lawful.withCounts (h : x.Lawful) (n : Tab 12 Counts) (hy : y = { x with counts := n })
    (hroom : ∀ c < 12, y.count c ≤ x.count c ∨ (x.cassette c).present = true ∧ y.count c ≤ (x.cassette c).capacity)
    (hden : ∀ c < 12, ∀ d < 12, y.held c d ≠ 0 → x.held c d ≠ 0 ∨ (x.cassette c).denom = some d)
    (hpair : ∀ a b, x.pair = some (a, b) →
      y.count a + y.count b ≤ x.count a + x.count b ∨ y.count a + y.count b ≤ (x.cassette b).capacity) : y.Lawful := by
  subst hy
  refine ⟨h.threshold, fun c hc => ?_, h.pair⟩
  have hall := h.allows c hc
  refine ⟨hall.flagged, ?_, fun d hd hne => ?_, fun hp => ?_, hall.unchecked, hall.source, fun a ha => ?_⟩
  · exact (hroom c hc).elim (·.trans hall.room) (·.2)
  · exact (hden c hc d hd hne).elim (hall.denom d hd) id
  · obtain hle | ⟨hpres, -⟩ := hroom c hc
    · exact Nat.le_zero.mp (hle.trans_eq (hall.vacant hp))
    · rw [Stock.cassette] at hp hpres
      cases hp.symm.trans hpres
  · obtain ⟨hp, hs, hr, hn⟩ := hall.spare a ha
    exact ⟨hp, hs, hr, (hpair a c ha).elim (·.trans hn) id⟩

end Stock

end Sys2Proof.Machine
end

section
/-! The operations that never touch the stock (R126, R159, R162). -/

-- One theorem at a time: the whole text holds more theorems than the check has room for threads.
set_option Elab.async false

namespace Sys2Proof.Machine

variable {s t : State}

/-- The evacuation has its pair while ACTIVE or PAUSED. -/
theorem evacPair_of_running (h : s.evac.state = .active ∨ s.evac.state = .paused) :
    s.evacPair = s.evac.source.bind fun a => s.evac.spare.map fun b => (a, b) := by
  unfold State.evacPair
  rcases h with h | h <;> rw [h] <;> cases s.evac.source <;> cases s.evac.spare <;> rfl

/-! ### What leaves `stock`: the records of the tables -/

@[simp] theorem setTill_stock (i : Nat) (x : TillRec) (s : State) : (s.setTill i x).stock = s.stock := rfl
@[simp] theorem setBuild_stock (i : Nat) (x : Option Build) (s : State) : (s.setBuild i x).stock = s.stock := rfl
@[simp] theorem setTrayOwner_stock (o : Option Nat) (s : State) : (s.setTrayOwner o).stock = s.stock := rfl
@[simp] theorem setLot_stock (i : Nat) (x : Option LotRec) (s : State) : (s.setLot i x).stock = s.stock := rfl
@[simp] theorem setStation_stock (i : Nat) (x : StationRec) (s : State) : (s.setStation i x).stock = s.stock := rfl
@[simp] theorem setJobs_stock (l : List Nat) (s : State) : (s.setJobs l).stock = s.stock := rfl
@[simp] theorem setModRec_stock (i : Nat) (x : ModRec) (s : State) : (s.setModRec i x).stock = s.stock := rfl
@[simp] theorem setRanges_stock (i : Nat) (x : List Range) (s : State) : (s.setRanges i x).stock = s.stock := rfl
@[simp] theorem setRun_stock (x : Run) (s : State) : (s.setRun x).stock = s.stock := rfl
@[simp] theorem setPurge_stock (x : Option PurgeCycle) (s : State) : (s.setPurge x).stock = s.stock := rfl
@[simp] theorem setContainer_stock (i : Nat) (x : Option ContRec) (s : State) : (s.setContainer i x).stock = s.stock := rfl
@[simp] theorem setConsignment_stock (i : Nat) (x : Option ConsRec) (s : State) : (s.setConsignment i x).stock = s.stock := rfl
@[simp] theorem setSafe_stock (x : Safe) (s : State) : (s.setSafe x).stock = s.stock := rfl
@[simp] theorem setMode_stock (m : Mode) (s : State) : (s.setMode m).stock = s.stock := rfl
@[simp] theorem setClock_stock (n : Nat) (s : State) : (s.setClock n).stock = s.stock := rfl
@[simp] theorem setDoors_stock (x : Doors) (s : State) : (s.setDoors x).stock = s.stock := rfl
@[simp] theorem setDoor_stock (d : Door) (x : DoorRec) (s : State) : (s.setDoor d x).stock = s.stock := by cases d <;> rfl
@[simp] theorem setLine_stock (x : Line) (s : State) : (s.setLine x).stock = s.stock := rfl
@[simp] theorem heard_stock (s : State) : (heard s).stock = s.stock := rfl

@[simp] theorem setArbiter_stock (a : Arbiter) (s : State) : (s.setArbiter a).stock = s.stock := rfl

/-- The stock with the parts that the operations below keep, one by one. -/
theorem stock_eq (hrec : t.recycler.cassettes = s.recycler.cassettes) (hfresh : t.recycler.freshTags = s.recycler.freshTags)
    (hpair : t.evacPair = s.evacPair) (hthr : t.evac.threshold = s.evac.threshold)
    (hcounts : ∀ c < 12, (t.posRec (cassettePos c)).counts = (s.posRec (cassettePos c)).counts) : t.stock = s.stock := by
  have htab : t.stock.counts = s.stock.counts := by
    unfold State.stock Tab.ofFn
    simp only [Tab.mk.injEq]
    exact List.map_congr_left fun c hc => hcounts c (List.mem_range.mp hc)
  unfold State.stock at htab ⊢
  simp only [Stock.mk.injEq]
  exact ⟨hrec, hfresh, hpair, hthr, htab⟩

/-- A new evacuation record of the same pair under the same threshold. -/
theorem setEvac_stock_of_pair {e : Evacuation} (hpair : (s.setEvac e).evacPair = s.evacPair)
    (hthr : e.threshold = s.evac.threshold) : (s.setEvac e).stock = s.stock :=
  stock_eq rfl rfl hpair hthr fun _ _ => rfl

@[simp] theorem setEvac_stock (e : Evacuation) (s : State) (h1 : e.state = s.evac.state) (h2 : e.source = s.evac.source)
    (h3 : e.spare = s.evac.spare) (h4 : e.threshold = s.evac.threshold) : (s.setEvac e).stock = s.stock :=
  setEvac_stock_of_pair (by simp only [State.evacPair, State.setEvac_evac, h1, h2, h3]) h4

/-- A position record with the same counts. -/
@[simp] theorem setPosRec_stock (p : Nat) (x : PosRec) (s : State) (h : x.counts = (s.posRec p).counts) :
    (s.setPosRec p x).stock = s.stock := by
  refine stock_eq rfl rfl rfl rfl fun c _ => ?_
  by_cases hpq : p = cassettePos c
  · subst hpq
    by_cases hp : cassettePos c < 177
    · rw [posRec_setPosRec_self s _ x hp, h]
    · rw [State.setPosRec, Tab.set_out _ _ x (Nat.le_of_not_lt hp)]
  · rw [posRec_setPosRec_ne s p _ x hpq]

/-- A record of a position that is no cassette's (Table 1-2). -/
theorem setPosRec_stock_slot {p : Nat} (hp : 13 ≤ p) (x : PosRec) (s : State) : (s.setPosRec p x).stock = s.stock :=
  stock_eq rfl rfl rfl rfl fun c hc => by rw [posRec_setPosRec_ne s p _ x (by unfold cassettePos; omega)]

/-! ### Shared operations -/

@[simp] theorem notify_stock (b : NoticeBody) (s : State) : (notify b s).stock = s.stock := by unfold notify; split <;> rfl
@[simp] theorem notifyAll_stock (l : List NoticeBody) (s : State) : (notifyAll l s).stock = s.stock := by
  induction l generalizing s with
  | nil => rfl
  | cons b l ih => simp [notifyAll, ih]
@[simp] theorem transmit_stock (s : State) : (transmit s).stock = s.stock := by unfold transmit; split <;> rfl
@[simp] theorem owe_stock (c g : Nat) (s : State) : (owe c g s).stock = s.stock := by
  obtain ⟨l, h⟩ := owe_state c g s; rw [h]; rfl
@[simp] theorem respond_stock (c g : Nat) (x : Reply) (s : State) : (respond c g x s).stock = s.stock := by
  obtain ⟨l, h⟩ := respond_state c g x s; rw [h]; rfl
@[simp] theorem handFault_stock (x : FaultSource) (k : FaultKind) (s : State) : (handFault x k s).stock = s.stock := rfl

/-- A fold of operations that leave the stock. -/
@[simp] theorem each_stock {f : Nat → State → State} (h : ∀ n s, (f n s).stock = s.stock) (l : List Nat) (s : State) :
    (State.each f l s).stock = s.stock :=
  each_keeps (fun t => t.stock = s.stock) f (fun n t ht => (h n t).trans ht) l s rfl

/-! ### The posting queue and reservations -/

@[simp] theorem queueEntry_stock (b : EntryBody) (s : State) : (queueEntry b s).stock = s.stock := by
  unfold queueEntry
  split
  · rfl
  · dsimp only; split
    · simp; rfl
    · rfl
@[simp] theorem dropEntries_stock (n : Nat) (s : State) : (dropEntries n s).stock = s.stock := rfl
@[simp] theorem changeEntry_stock (k : Nat) (f : ResEntry → ResEntry) (s : State) : (changeEntry k f s).stock = s.stock := rfl
@[simp] theorem issueFromEntry_stock (m : Movement) (s : State) : (issueFromEntry m s).stock = s.stock := by
  unfold issueFromEntry; split <;> rfl
@[simp] theorem reserve_stock (k t : Nat) (c : Counts) (s : State) : (reserve k t c s).stock = s.stock := by
  unfold reserve; split <;> rfl
@[simp] theorem releaseEntry_stock (k : Nat) (s : State) : (releaseEntry k s).stock = s.stock := rfl
@[simp] theorem cutEntries_stock (d : Nat) (s : State) : (cutEntries d s).1.stock = s.stock := rfl
@[simp] theorem stampSide_stock (x : Side) (n : Nat) (s : State) : (stampSide x n s).stock = s.stock := by
  cases x <;> simp [stampSide]
@[simp] theorem postSide_stock (x : Side) (m : Movement) (n : Nat) (s : State) : (postSide x m n s).stock = s.stock := by
  cases x with
  | pos p => simp only [postSide]; (repeat' split) <;> simp
  | _ => rfl
@[simp] theorem numberAndPost_stock (m : Movement) (s : State) : (numberAndPost m s).stock = s.stock := by
  simp only [numberAndPost, postSide_stock, stampSide_stock]; rfl
@[simp] theorem noticeFull_stock (c n : Nat) (s : State) : (noticeFull c n s).stock = s.stock := by simp [noticeFull]
@[simp] theorem noticeInto_stock (x : Side) (n : Nat) (s : State) : (noticeInto x n s).stock = s.stock := by
  unfold noticeInto; split <;> simp
@[simp] theorem markInRun_stock (p : Nat) (s : State) : (markInRun p s).stock = s.stock := by simp [markInRun]
@[simp] theorem queueSummary_stock (n : Nat) (s : State) : (queueSummary n s).stock = s.stock := by simp [queueSummary]
@[simp] theorem catchUpTills_stock (l : List Nat) (s : State) : (catchUpTills l s).stock = s.stock := by
  induction l generalizing s with
  | nil => rfl
  | cons n l ih => unfold catchUpTills; (repeat' split) <;> simp [ih]

/-! ### Slots claimed, settled and released -/

@[simp] theorem claimSlot_lot_stock (n : Nat) (s : State) : (claimSlot (lotPos n) s).stock = s.stock :=
  setPosRec_stock_slot (by unfold lotPos; omega) _ s
@[simp] theorem claimSlot_container_stock (n : Nat) (s : State) : (claimSlot (containerPos n) s).stock = s.stock :=
  setPosRec_stock_slot (by unfold containerPos; omega) _ s
@[simp] theorem createLot_stock (n : Nat) (src : LotSource) (sel : Option StationSel) (v : Option Nat) (s : State) :
    (createLot n src sel v s).stock = s.stock := claimSlot_lot_stock n s
@[simp] theorem completeRelease_stock (p : Nat) (s : State) : (completeRelease p s).stock = s.stock := by
  unfold completeRelease; dsimp only; split <;> simp
@[simp] theorem clearMarks_stock (p : Nat) (s : State) : (clearMarks p s).stock = s.stock := by
  unfold clearMarks; dsimp only; split <;> simp
@[simp] theorem settlePosition_stock (p : Nat) (x : SettleReason) (s : State) : (settlePosition p x s).stock = s.stock := by
  unfold settlePosition; split <;> simp
@[simp] theorem tryRelease_stock (p : Nat) (s : State) : (tryRelease p s).stock = s.stock := by
  unfold tryRelease; dsimp only; (repeat' split) <;> simp
@[simp] theorem requestRelease_stock (p : Nat) (s : State) : (requestRelease p s).stock = s.stock := by
  unfold requestRelease; dsimp only; split <;> simp
@[simp] theorem clearInRun_stock (p : Nat) (s : State) : (clearInRun p s).stock = s.stock := by
  unfold clearInRun; dsimp only; split <;> simp
theorem catchUpPositions_stock (l : List Nat) (s : State) : (catchUpPositions l s).1.stock = s.stock := by
  induction l generalizing s with
  | nil => rfl
  | cons p l ih => unfold catchUpPositions; dsimp only; (repeat' split) <;> simp [ih]
@[simp] theorem catchUp_stock (s : State) : (catchUp s).stock = s.stock := by
  have h := catchUpPositions_stock (List.range 177) s
  unfold catchUp
  split <;> next heq => rw [heq] at h; simpa using h

/-! ### The arbiter's requests -/

@[simp] theorem cutRun_stock (s : State) : (cutRun s).stock = s.stock := by unfold cutRun; dsimp only; split <;> simp
@[simp] theorem giveHead_stock (h n : Nat) (s : State) : (giveHead h n s).stock = s.stock := by
  unfold giveHead; dsimp only; split <;> simp
@[simp] theorem dropHead_stock (h n : Nat) (s : State) : (dropHead h n s).stock = s.stock := by
  unfold dropHead; dsimp only; split <;> simp
@[simp] theorem giveTrayReturn_stock (k : Nat) (s : State) : (giveTrayReturn k s).stock = s.stock := by simp [giveTrayReturn]
@[simp] theorem dropTrayReturn_stock (s : State) : (dropTrayReturn s).stock = s.stock := by simp [dropTrayReturn]
@[simp] theorem giveDispense_stock (k d n : Nat) (s : State) : (giveDispense k d n s).stock = s.stock := by simp [giveDispense]
@[simp] theorem dropDispense_stock (s : State) : (dropDispense s).stock = s.stock := by simp [dropDispense]
@[simp] theorem withdrawDispense_stock (s : State) : (withdrawDispense s).stock = s.stock := by
  unfold withdrawDispense; (repeat' split) <;> simp
@[simp] theorem giveEvac_stock (s : State) : (giveEvac s).stock = s.stock := by simp [giveEvac]
@[simp] theorem dropEvac_stock (s : State) : (dropEvac s).stock = s.stock := by simp [dropEvac]
@[simp] theorem withdrawEvac_stock (s : State) : (withdrawEvac s).stock = s.stock := by
  unfold withdrawEvac; (repeat' split) <;> simp
@[simp] theorem entryToTail_stock (e : DepositEntry) (s : State) : (entryToTail e s).stock = s.stock := by
  unfold entryToTail; split <;> simp
@[simp] theorem skipOver_stock (s : State) : (skipOver s).stock = s.stock := by unfold skipOver; split <;> simp
@[simp] theorem accountNote_stock (k : RunKind) (s : State) : (accountNote k s).stock = s.stock := by simp [accountNote]

/-! ### Builds -/

@[simp] theorem withdrawFor_stock (k : Nat) (s : State) : (withdrawFor k s).stock = s.stock := by
  unfold withdrawFor; (repeat' split) <;> simp
@[simp] theorem becomeShort_stock (k : Nat) (c : ShortCause) (d : Nat) (s : State) : (becomeShort k c d s).stock = s.stock := by
  unfold becomeShort; split <;> simp
@[simp] theorem notesDone_stock (k : Nat) (b : Build) (s : State) : (notesDone k b s).stock = s.stock := by
  unfold notesDone; split <;> simp
@[simp] theorem nextDispense_stock (k : Nat) (b : Build) (s : State) : (nextDispense k b s).stock = s.stock := by
  unfold nextDispense; (repeat' split) <;> simp
@[simp] theorem cutReport_stock (d k : Nat) (s : State) : (cutReport d k s).stock = s.stock := by
  unfold cutReport; dsimp only; (repeat' split) <;> simp
@[simp] theorem unservable_stock (k d : Nat) (s : State) : (unservable k d s).stock = s.stock := by
  unfold unservable; (repeat' split) <;> simp
@[simp] theorem freeBuild_stock (k : Nat) (s : State) : (freeBuild k s).stock = s.stock := rfl
@[simp] theorem noteForBuild_stock (k d : Nat) (s : State) : (noteForBuild k d s).stock = s.stock := by
  unfold noteForBuild; split <;> simp
@[simp] theorem trayNotesLeft_stock (c : Counts) (s : State) : (trayNotesLeft c s).stock = s.stock := by
  unfold trayNotesLeft; (repeat' split) <;> simp
@[simp] theorem finishCancel_stock (k : Nat) (b : Build) (s : State) : (finishCancel k b s).stock = s.stock := by
  simp [finishCancel]
@[simp] theorem cutDenom_stock (d : Nat) (s : State) : (cutDenom d s).stock = s.stock := by
  unfold cutDenom; split <;> simp
@[simp] theorem cutDue_stock (s : State) : (cutDue s).stock = s.stock := by simp [cutDue]
@[simp] theorem dispenseClosed_stock (k : Nat) (x : Run) (s : State) : (dispenseClosed k x s).stock = s.stock := by
  unfold dispenseClosed; (repeat' split) <;> simp
@[simp] theorem trayClosed_stock (s : State) : (trayClosed s).stock = s.stock := by
  unfold trayClosed; (repeat' split) <;> simp
theorem trayFreed_stock (h : trayFreed s = some t) : t.stock = s.stock := by
  unfold trayFreed at h; (repeat' split at h) <;> cases h <;> simp
theorem trayTaken_stock (h : trayTaken s = some t) : t.stock = s.stock := by
  unfold trayTaken at h
  split at h <;> cases h
  simp
theorem buildStep_stock {k : Nat} (h : buildStep k s = some t) : t.stock = s.stock := by
  unfold buildStep at h; (repeat' split at h) <;> cases h <;> simp
theorem buildsStep_stock {l : List Nat} (h : buildsStep l s = some t) : t.stock = s.stock := by
  induction l with
  | nil => cases h
  | cons k l ih =>
    unfold buildsStep at h
    split at h
    · cases h; exact buildStep_stock ‹_›
    · exact ih h

end Sys2Proof.Machine
end

section
/-! What never touches the stock, continued: the count unit, the recycler, the bay and the line. -/

-- One theorem at a time: the whole text holds more theorems than the check has room for threads.
set_option Elab.async false

namespace Sys2Proof.Machine

variable {s t : State}

/-! ### Stations and lots -/

@[simp] theorem changeStation_stock (n : Nat) (f : StationRec → StationRec) (s : State) :
    (changeStation n f s).stock = s.stock := by simp [changeStation]
@[simp] theorem noteStation_stock (n : Nat) (s : State) : (noteStation n s).stock = s.stock := by simp [noteStation]
@[simp] theorem withStation_stock (n : Nat) (f : State → State) (s : State) (h : (f s).stock = s.stock) :
    (withStation n f s).stock = s.stock := by unfold withStation; dsimp only; split <;> simp [h]
@[simp] theorem makePending_stock (n : Nat) (c : StationCommand) (s : State) : (makePending n c s).stock = s.stock := by
  simp [makePending]
@[simp] theorem giveStack_stock (n : Nat) (c : StackCommand) (s : State) : (giveStack n c s).stock = s.stock := by
  unfold giveStack; dsimp only; split <;> simp
@[simp] theorem jobToHead_stock (n : Nat) (s : State) : (jobToHead n s).stock = s.stock := by
  unfold jobToHead; split <;> simp
@[simp] theorem jobLeaves_stock (n : Nat) (s : State) : (jobLeaves n s).stock = s.stock := by simp [jobLeaves]
@[simp] theorem recountLot_stock (n : Nat) (b : Bool) (s : State) : (recountLot n b s).stock = s.stock := by
  unfold recountLot; split <;> simp
@[simp] theorem endJob_stock (n : Nat) (c : CountFailure) (s : State) : (endJob n c s).stock = s.stock := by
  unfold endJob; split <;> simp
@[simp] theorem endJobReport_stock (n : Nat) (s : State) : (endJobReport n s).stock = s.stock := by simp [endJobReport]
@[simp] theorem endJobMechanism_stock (n : Nat) (s : State) : (endJobMechanism n s).stock = s.stock := by
  simp [endJobMechanism]
@[simp] theorem interruptLot_stock (n : Nat) (s : State) : (interruptLot n s).stock = s.stock := by
  unfold interruptLot; split <;> simp
@[simp] theorem stackLost_stock (n k : Nat) (s : State) : (stackLost n k s).stock = s.stock := by simp [stackLost]
@[simp] theorem takeReport_stock (n l : Nat) (x : List ItemRecord) (s : State) : (takeReport n l x s).stock = s.stock := by
  unfold takeReport; dsimp only; split <;> simp
@[simp] theorem assignJob_stock (n k : Nat) (s : State) : (assignJob n k s).stock = s.stock := by
  unfold assignJob; dsimp only; split <;> exact (withStation_stock _ _ _ (by simp)).trans rfl
theorem assignStep_stock (h : assignStep s = some t) : t.stock = s.stock := by
  unfold assignStep at h
  split at h
  · obtain ⟨q, -, rfl⟩ := Option.map_eq_some_iff.mp h; simp
  · cases h

@[simp] theorem voidRelease_stock (n : Nat) (s : State) : (voidRelease n s).stock = s.stock := by
  unfold voidRelease; (repeat' split) <;> simp
@[simp] theorem finishLot_stock (n : Nat) (s : State) : (finishLot n s).stock = s.stock := by
  unfold finishLot; split <;> simp
@[simp] theorem depositEnd_stock (i n : Nat) (s : State) : (depositEnd i n s).stock = s.stock := by
  unfold depositEnd; (repeat' split) <;> simp
@[simp] theorem lotStackLeft_stock (n k : Nat) (c : Option StackCommand) (s : State) :
    (lotStackLeft n k c s).stock = s.stock := by unfold lotStackLeft; (repeat' split) <;> simp
@[simp] theorem lotStackGone_stock (n k : Nat) (s : State) : (lotStackGone n k s).stock = s.stock := by
  unfold lotStackGone; (repeat' split) <;> simp

/-! ### Modules, cassettes and the evacuation -/

@[simp] theorem enterModule_stock (m : Nat) (x : ModState) (y : StartStep) (s : State) :
    (enterModule m x y s).stock = s.stock := by unfold enterModule; dsimp only; split <;> simp
@[simp] theorem faultModule_stock (m : Nat) (s : State) : (faultModule m s).stock = s.stock := by
  unfold faultModule; split <;> simp
@[simp] theorem faultBoth_stock (s : State) : (faultBoth s).stock = s.stock := by simp [faultBoth]
@[simp] theorem gradeModule_stock (m : Nat) (s : State) : (gradeModule m s).stock = s.stock := by
  unfold gradeModule; split <;> simp
theorem gradeStep_stock (h : gradeStep s = some t) : t.stock = s.stock := by
  obtain ⟨m, -, rfl⟩ := Option.map_eq_some_iff.mp h; simp
@[simp] theorem startModules_stock (s : State) : (startModules s).stock = s.stock := by
  unfold startModules; exact each_stock (fun m s => by split <;> simp) _ s
@[simp] theorem movePointer_stock (d k i : Nat) (s : State) : (movePointer d k i s).stock = s.stock := rfl
@[simp] theorem rewriteWays_stock (a b : Nat) (s : State) : (rewriteWays a b s).stock = s.stock := rfl
@[simp] theorem leaveSource_stock (a : Nat) (s : State) : (leaveSource a s).stock = s.stock := by
  unfold leaveSource; dsimp only; split <;> simp
theorem pauseStep_stock (h : pauseStep s = some t) : t.stock = s.stock := by
  unfold pauseStep at h
  split at h
  · next hst _ =>
    split at h <;> cases h
    rw [dropEvac_stock]
    exact setEvac_stock_of_pair ((evacPair_of_running (.inr rfl)).trans (evacPair_of_running (.inl hst)).symm) rfl
  · split at h <;> cases h
    simp
  · next hst _ =>
    cases h
    rw [giveEvac_stock]
    exact setEvac_stock_of_pair ((evacPair_of_running (.inl rfl)).trans (evacPair_of_running (.inr hst)).symm) rfl
  · cases h

/-! ### Runs -/

@[simp] theorem tellNote_stock (x : Run) (d : Nat) (s : State) : (tellNote x d s).stock = s.stock := by
  unfold tellNote; split <;> simp
@[simp] theorem escrowNote_stock (d : Nat) (s : State) : (escrowNote d s).stock = s.stock := by simp [escrowNote]
@[simp] theorem foreignNote_stock (s : State) : (foreignNote s).stock = s.stock := by simp [foreignNote]
@[simp] theorem pickNote_stock (n : PathNote) (s : State) : (pickNote n s).stock = s.stock := by simp [pickNote]
@[simp] theorem endRun_stock (c : EndCause) (s : State) : (endRun c s).stock = s.stock := by
  unfold endRun; dsimp only; split <;> simp
theorem chooseStep_stock (h : chooseStep s = some t) : t.stock = s.stock := by
  unfold chooseStep at h; dsimp only at h; (repeat' split at h) <;> cases h <;> simp
theorem causeStep_stock (h : causeStep s = some t) : t.stock = s.stock := by
  unfold causeStep at h
  dsimp only at h
  (repeat' split at h) <;> first | exact chooseStep_stock h | (cases h; try simp)
@[simp] theorem stopRun_stock (c : EndCause) (m : Nat) (s : State) : (stopRun c m s).stock = s.stock := by
  unfold stopRun; dsimp only; split <;> simp
@[simp] theorem faultStill_stock (s : State) : (faultStill s).stock = s.stock := by
  unfold faultStill; exact each_stock (fun m s => by split <;> simp) _ s
@[simp] theorem purgeFailed_stock (c : PurgeCycle) (s : State) : (purgeFailed c s).stock = s.stock := by
  unfold purgeFailed; dsimp only; (repeat' split) <;> simp
@[simp] theorem safeOpened_stock (s : State) : (safeOpened s).stock = s.stock := by
  unfold safeOpened
  dsimp only
  rw [each_stock (fun m s => by split <;> simp)]
  (repeat' split) <;> simp
theorem purgeStart_stock (h : purgeStart s = some t) : t.stock = s.stock := by
  unfold purgeStart at h
  dsimp only at h
  split at h
  · obtain ⟨m, -, rfl⟩ := Option.map_eq_some_iff.mp h; simp
  · cases h
@[simp] theorem grant_stock (g : Grant) (s : State) : (grant g s).stock = s.stock := by
  unfold grant; dsimp only; split <;> simp
theorem grantStep_stock (h : grantStep s = some t) : t.stock = s.stock := by
  unfold grantStep at h
  split at h
  · obtain ⟨g, -, rfl⟩ := Option.map_eq_some_iff.mp h; simp
  · cases h
theorem preemptStep_stock (h : preemptStep s = some t) : t.stock = s.stock := by
  unfold preemptStep at h; dsimp only at h; (repeat' split at h) <;> cases h <;> simp
theorem cutStep_stock (h : cutStep s = some t) : t.stock = s.stock := by
  unfold cutStep at h
  split at h
  · rw [← Option.some.inj h, cutDue_stock]
  · cases h
@[simp] theorem unlockSafe_stock (s : State) : (unlockSafe s).stock = s.stock := by simp [unlockSafe]
theorem safeStep_stock (h : safeStep s = some t) : t.stock = s.stock := by
  unfold safeStep at h; split at h <;> cases h; simp
theorem holdStep_stock (h : holdStep s = some t) : t.stock = s.stock := by
  unfold holdStep at h; split at h <;> cases h; simp

/-! ### The bay -/

@[simp] theorem enterCons_stock (k : Nat) (x : ConsState) (s : State) : (enterCons k x s).stock = s.stock := by
  unfold enterCons; (repeat' split) <;> simp
@[simp] theorem examineWindow_stock (k : Nat) (s : State) : (examineWindow k s).stock = s.stock := by
  unfold examineWindow; (repeat' split) <;> simp
@[simp] theorem examineWindows_stock (s : State) : (examineWindows s).stock = s.stock := by simp [examineWindows]
@[simp] theorem raiseForced_stock (d : Door) (s : State) : (raiseForced d s).stock = s.stock := by
  unfold raiseForced; split <;> simp
@[simp] theorem raiseHeldOpen_stock (d : Door) (s : State) : (raiseHeldOpen d s).stock = s.stock := by
  unfold raiseHeldOpen; split <;> simp
@[simp] theorem checkHeld_stock (d : Door) (s : State) : (checkHeld d s).stock = s.stock := by
  unfold checkHeld; split <;> simp
@[simp] theorem sensorOpened_stock (d : Door) (s : State) : (sensorOpened d s).stock = s.stock := by
  unfold sensorOpened; dsimp only; (repeat' split) <;> simp
@[simp] theorem sensorClosed_stock (d : Door) (s : State) : (sensorClosed d s).stock = s.stock := by
  unfold sensorClosed; dsimp only; split <;> simp
@[simp] theorem unlockDoor_stock (d : Door) (s : State) : (unlockDoor d s).stock = s.stock := by simp [unlockDoor]
@[simp] theorem lockOffice_stock (s : State) : (lockOffice s).stock = s.stock := by
  unfold lockOffice; dsimp only; (repeat' split) <;> simp
@[simp] theorem settleOffice_stock (s : State) : (settleOffice s).stock = s.stock := by
  unfold settleOffice; dsimp only; (repeat' split) <;> simp
@[simp] theorem owedUnlock_stock (s : State) : (owedUnlock s).stock = s.stock := by
  unfold owedUnlock; dsimp only; split <;> simp
@[simp] theorem bayAfter_stock (s : State) : (bayAfter s).stock = s.stock := by simp [bayAfter]
@[simp] theorem lockCourier_stock (s : State) : (lockCourier s).stock = s.stock := by simp [lockCourier]
@[simp] theorem openRetrieval_stock (s : State) : (openRetrieval s).stock = s.stock := by
  unfold openRetrieval; dsimp only; (repeat' split) <;> simp
@[simp] theorem reject_stock (d : Door) (n : Nat) (c : RejectCause) (s : State) : (reject d n c s).stock = s.stock := by
  simp [reject]
@[simp] theorem setItem_stock (k i : Nat) (x : Item) (s : State) : (setItem k i x s).stock = s.stock := by
  unfold setItem; split <;> simp
@[simp] theorem moveContainer_stock (n : Nat) (x : ContState) (l : Location) (s : State) :
    (moveContainer n x l s).stock = s.stock := by unfold moveContainer; split <;> simp
@[simp] theorem loadingRead_stock (c : ConsRec) (n : Nat) (s : State) : (loadingRead c n s).stock = s.stock := by
  unfold loadingRead; (repeat' split) <;> simp
@[simp] theorem retrievalRead_stock (n : Nat) (s : State) : (retrievalRead n s).stock = s.stock := by
  unfold retrievalRead; (repeat' split) <;> simp
@[simp] theorem officeRead_stock (n : Nat) (s : State) : (officeRead n s).stock = s.stock := by
  unfold officeRead; (repeat' split) <;> simp
@[simp] theorem eachContainerOf_stock (k : Nat) (f : ContRec → ContRec) (s : State) :
    (eachContainerOf k f s).stock = s.stock := rfl
@[simp] theorem transferClosed_stock (k : Nat) (c : ConsRec) (s : State) : (transferClosed k c s).stock = s.stock := by
  unfold transferClosed; dsimp only; (repeat' split) <;> simp
@[simp] theorem engageTimedOut_stock (k : Nat) (c : ConsRec) (s : State) : (engageTimedOut k c s).stock = s.stock := by
  simp [engageTimedOut]
@[simp] theorem abortCons_stock (k : Nat) (c : ConsRec) (s : State) : (abortCons k c s).stock = s.stock := by
  unfold abortCons; dsimp only; (repeat' split) <;> simp
@[simp] theorem courierOpens_stock (s : State) : (courierOpens s).stock = s.stock := by
  unfold courierOpens; dsimp only; (repeat' split) <;> simp

/-! ### The station line -/

@[simp] theorem startCycle_stock (s : State) : (startCycle s).stock = s.stock := by unfold startCycle; split <;> simp
@[simp] theorem nextTurn_stock (s : State) : (nextTurn s).stock = s.stock := by
  unfold nextTurn; (repeat' split) <;> simp
@[simp] theorem setPhase_stock (x : Turn) (p : Phase) (s : State) : (setPhase x p s).stock = s.stock := by simp [setPhase]
@[simp] theorem pollDue_stock (s : State) : (pollDue s).stock = s.stock := by unfold pollDue; split <;> simp
@[simp] theorem countLine_stock (n a b : Nat) (s : State) : (countLine n a b s).stock = s.stock := by simp [countLine]
@[simp] theorem thirdMiss_stock (n : Nat) (s : State) : (thirdMiss n s).stock = s.stock := by
  unfold thirdMiss; dsimp only; split <;> simp
@[simp] theorem missTurn_stock (n : Nat) (s : State) : (missTurn n s).stock = s.stock := by
  unfold missTurn; dsimp only; (repeat' split) <;> simp
@[simp] theorem clearMisses_stock (n : Nat) (s : State) : (clearMisses n s).stock = s.stock := by simp [clearMisses]
@[simp] theorem headFailure_stock (n : Nat) (s : State) : (headFailure n s).stock = s.stock := by
  unfold headFailure; split <;> simp
@[simp] theorem headFails_stock (n : Nat) (s : State) : (headFails n s).stock = s.stock := by simp [headFails]
@[simp] theorem reportFails_stock (n : Nat) (s : State) : (reportFails n s).stock = s.stock := by
  unfold reportFails; split <;> simp
@[simp] theorem showState_stock (n : Nat) (m : MechState) (k : Nat) (s : State) : (showState n m k s).stock = s.stock := by
  simp [showState]
@[simp] theorem setStationState_stock (n : Nat) (x : StationState) (s : State) : (setStationState n x s).stock = s.stock := by
  simp [setStationState]
@[simp] theorem strayStack_stock (n : Nat) (s : State) : (strayStack n s).stock = s.stock := by simp [strayStack]
@[simp] theorem busyState_stock (n j : Nat) (m : MechState) (s : State) : (busyState n j m s).stock = s.stock := by
  unfold busyState; split <;> simp
@[simp] theorem commandAnswered_stock (n : Nat) (c : StationCommand) (s : State) :
    (commandAnswered n c s).stock = s.stock := by simp [commandAnswered]
@[simp] theorem fetchState_stock (n : Nat) (m : MechState) (k : Nat) (s : State) : (fetchState n m k s).stock = s.stock := by
  unfold fetchState; dsimp only; (repeat' split) <;> simp
@[simp] theorem fetchSeen_stock (n : Nat) (m : Option MechState) (k : Nat) (s : State) :
    (fetchSeen n m k s).stock = s.stock := by unfold fetchSeen; split <;> simp
@[simp] theorem resetSent_stock (n : Nat) (s : State) : (resetSent n s).stock = s.stock := by simp [resetSent]
@[simp] theorem dropStation_stock (n : Nat) (s : State) : (dropStation n s).stock = s.stock := by
  unfold dropStation; split <;> simp
@[simp] theorem sentRecord_stock (l : List Nat) (x : Turn) (s : State) : (sentRecord l x s).stock = s.stock := by
  unfold sentRecord; dsimp only; (repeat' split) <;> simp
@[simp] theorem noAnswer_stock (x : Turn) (s : State) : (noAnswer x s).stock = s.stock := by
  unfold noAnswer; (repeat' split) <;> simp
@[simp] theorem badRecord_stock (l : List Nat) (x : Turn) (s : State) : (badRecord l x s).stock = s.stock := by
  unfold badRecord; dsimp only; (repeat' split) <;> simp
@[simp] theorem strayReport_stock (x : Turn) (s : State) : (strayReport x s).stock = s.stock := by
  unfold strayReport; split <;> simp
@[simp] theorem goodHead_stock (h : HeadRecord) (x : Turn) (s : State) : (goodHead h x s).stock = s.stock := by
  unfold goodHead; split <;> simp
@[simp] theorem goodItem_stock (i : ItemRecord) (x : Turn) (s : State) : (goodItem i x s).stock = s.stock := by
  unfold goodItem; (repeat' split) <;> simp
@[simp] theorem judgeReport_stock (h : HeadRecord) (l : List ItemRecord) (e : EndRecord) (x : Turn) (s : State) :
    (judgeReport h l e x s).stock = s.stock := by unfold judgeReport; (repeat' split) <;> simp
@[simp] theorem goodEnd_stock (e : EndRecord) (x : Turn) (s : State) : (goodEnd e x s).stock = s.stock := by
  unfold goodEnd; split <;> simp
@[simp] theorem quietOver_stock (x : Turn) (s : State) : (quietOver x s).stock = s.stock := by
  unfold quietOver; split <;> simp
@[simp] theorem recordMissing_stock (x : Turn) (s : State) : (recordMissing x s).stock = s.stock := by
  unfold recordMissing; split <;> simp

@[simp] theorem attachState_stock (n k : Nat) (m : MechState) (s : State) : (attachState n m k s).stock = s.stock := by
  unfold attachState; (repeat' split) <;> simp
@[simp] theorem stackedState_stock (n k : Nat) (m : MechState) (s : State) : (stackedState n m k s).stock = s.stock := by
  unfold stackedState; dsimp only; (repeat' split) <;> simp
@[simp] theorem stateShown_stock (n k : Nat) (m : MechState) (s : State) : (stateShown n m k s).stock = s.stock := by
  unfold stateShown; (repeat' split) <;> simp
@[simp] theorem stateSeen_stock (n k : Nat) (m : Option MechState) (s : State) : (stateSeen n m k s).stock = s.stock := by
  unfold stateSeen; split <;> simp
@[simp] theorem answeredBy_stock (n k : Nat) (x : LineRecord) (m : Option MechState) (s : State) :
    (answeredBy n x m k s).stock = s.stock := by
  unfold answeredBy
  split
  · split <;> simp
  all_goals exact withStation_stock _ _ _ (by simp)
@[simp] theorem goodState_stock (k : Nat) (m : Option MechState) (x : Turn) (s : State) :
    (goodState m k x s).stock = s.stock := by unfold goodState; (repeat' split) <;> simp
theorem fromStation_stock (n : Fin 4) (l : List Nat) {f : Turn → State → State} (hf : ∀ x u, (f x u).stock = u.stock)
    (x : Turn) (s : State) : (fromStation n l f x s).stock = s.stock := by
  unfold fromStation
  split
  · rfl
  · rfl
  all_goals dsimp only; split <;> simp [hf]

/-! ### The mechanism -/

@[simp] theorem leavePoint_stock (p : PickPoint) (s : State) : (leavePoint p s).stock = s.stock := by
  unfold leavePoint; dsimp only; split <;> simp
@[simp] theorem failedPick_stock (p : PickPoint) (s : State) : (failedPick p s).stock = s.stock := by
  unfold failedPick; dsimp only; (repeat' split) <;> simp
@[simp] theorem evacFailure_stock (s : State) : (evacFailure s).stock = s.stock := by simp [evacFailure]
@[simp] theorem evacGivesUp_stock (s : State) : (evacGivesUp s).stock = s.stock := by unfold evacGivesUp; split <;> simp
theorem routeNote_stock {p d g : Nat} (h : routeNote p d g s = some t) : t.stock = s.stock := by
  unfold routeNote at h; (repeat' split at h) <;> cases h <;> simp
@[simp] theorem headNote_stock (n : Nat) (x : Reading) (s : State) : (headNote n x s).stock = s.stock := by
  unfold headNote
  (repeat' split) <;> first | exact (by simp) | exact routeNote_stock ‹_›
@[simp] theorem trayRefused_stock (s : State) : (trayRefused s).stock = s.stock := by
  unfold trayRefused; dsimp only; (repeat' split) <;> simp
@[simp] theorem trayNote_stock (x : Reading) (s : State) : (trayNote x s).stock = s.stock := by
  unfold trayNote
  (repeat' split) <;> first | exact (by simp) | exact routeNote_stock ‹_›
theorem arriving_stock {x : PathDest} {n : PathNote} (h : arriving x s = some (n, t)) : t.stock = s.stock := by
  unfold arriving latePick at h; (repeat' split at h) <;> cases h <;> simp
@[simp] theorem setFault_stock (m : Nat) (f : Bool) (s : State) : (setFault m f s).stock = s.stock := by simp [setFault]
@[simp] theorem faultAt_stock (m : Nat) (s : State) : (faultAt m s).stock = s.stock := by
  unfold faultAt; dsimp only; split <;> simp
@[simp] theorem setHead_stock (h : Nat) (b : Bool) (s : State) : (setHead h b s).stock = s.stock := rfl
end Sys2Proof.Machine
end

section
/-! Movements and notes of a run uphold the laws of the recycler (R126, R138, R165): a cassette gains notes of its own
denomination only, within its capacity, and the evacuating pair within the spare's. -/

-- One theorem at a time: the whole text holds more theorems than the check has room for threads.
set_option Elab.async false

namespace Sys2Proof.Machine

variable {r s t u : State} {m : Movement} {c d k p : Nat}

/-- `t` keeps the laws of the recycler where `s` has them. -/
structure Upholds (s t : State) : Prop where
  lawful : s.stock.Lawful → t.stock.Lawful
  bounded : s.stock.Bounded → t.stock.Bounded

namespace Upholds

theorem refl (s : State) : Upholds s s := ⟨id, id⟩

theorem trans (h1 : Upholds r s) (h2 : Upholds s t) : Upholds r t := ⟨h2.lawful ∘ h1.lawful, h2.bounded ∘ h1.bounded⟩

/-- What leaves the stock may follow. -/
theorem stock (h : Upholds r s) (e : t.stock = s.stock := by simp) : Upholds r t := by
  refine h.trans ⟨fun hl => ?_, fun hb => ?_⟩ <;> rwa [e]

/-- Any condition may decide between two ways on. -/
theorem ite {c : Prop} [Decidable c] {u v : State} (h1 : Upholds r u) (h2 : Upholds r v) :
    Upholds r (if c then u else v) := by
  split
  · exact h1
  · exact h2

/-- A cassette record may change where the laws allow the new one. -/
theorem changeCassette {f : CasRec → CasRec} (h : Upholds r s)
    (hl : c < 12 → s.stock.Lawful → s.stock.Allows c (s.cassette c) → s.stock.Allows c (f (s.cassette c)))
    (hb : (s.cassette c).bucket ≤ Config.bucketTop → (f (s.cassette c)).bucket ≤ Config.bucketTop) :
    Upholds r (changeCassette c f s) :=
  h.trans ⟨fun hs => hs.change (c := c) (f := f) fun hc => hl hc hs, fun hs => hs.change (c := c) (f := f) hb⟩

end Upholds

/-! ### Counts alone -/

theorem cassettePos_inj : cassettePos c = cassettePos k ↔ c = k := by unfold cassettePos; omega

theorem cassettePos_lt (hc : c < 12) : cassettePos c < 177 := by unfold cassettePos; omega

theorem posKind_cassettePos (hc : c < 12) : posKind (cassettePos c) = .cassette c := by
  unfold posKind cassettePos
  rw [if_neg (by omega), if_pos (by omega), Nat.add_sub_cancel_left]

/-- Another book leaves everything of the stock but the counts. -/
theorem stock_of_book {b : Book} (h : t = { s with book := b }) : t.stock = { s.stock with counts := t.stock.counts } := by
  rw [h]; rfl

/-! ### A movement -/

/-- What the cassette conditions of a movement establish (R126, R165). -/
theorem checkInto_none (h : checkInto m s c = none) : (s.cassette c).present = true ∧
    (∀ q ∈ m.pairs, (s.cassette c).denom = some q.denom) ∧
    s.cassetteCount c + pairItems m.pairs ≤ (s.cassette c).capacity ∧ s.pairOver c (pairItems m.pairs) = false := by
  unfold checkInto at h
  dsimp only at h
  split at h
  · cases h
  next hp =>
  split at h
  · cases h
  next hq =>
  split at h
  · cases h
  next hroom =>
  split at h
  · cases h
  next hpair =>
  refine ⟨by simpa using hp, fun q hm => ?_, Nat.le_of_not_lt hroom, by simpa using hpair⟩
  simpa using List.find?_eq_none.mp hq q hm

theorem checkMovement_into {b : Bool} (h : checkMovement m b s = none) (hc : c < 12) (hd : m.dst = .pos (cassettePos c)) :
    checkInto m s c = none := by
  have hdst : m.dst.cassette = some c := by rw [hd, Side.cassette, posKind_cassettePos hc]
  simp only [checkMovement, checkConditions, checkCassettes, orElse'_eq_none] at h
  obtain ⟨-, -, -, -, -, -, ⟨hinto, -⟩, -⟩ := h
  rwa [hdst] at hinto

/-- The pairs of a list come to no more than their items. -/
theorem sum_pairCounts_le (qs : List Pair) : ∑ d ∈ Finset.range 12, Counts.of (pairCounts qs) d ≤ pairItems qs := by
  induction qs with
  | nil => exact (Finset.sum_eq_zero fun d _ => of_zero d).le
  | cons q qs ih =>
    have hone : ∑ d ∈ Finset.range 12, (if q.denom = d then q.count else 0) ≤ q.count := by
      rw [Finset.sum_ite_eq]; split <;> omega
    have hcons : ∑ d ∈ Finset.range 12, Counts.of (pairCounts (q :: qs)) d =
        ∑ d ∈ Finset.range 12, (Counts.of (pairCounts qs) d + if q.denom = d then q.count else 0) :=
      Finset.sum_congr rfl fun d hd => of_pairCounts_cons q qs (Finset.mem_range.mp hd)
    rw [hcons, Finset.sum_add_distrib, pairItems]
    omega

/-- A movement does not raise the counts of a cassette that is not its destination. -/
theorem held_moveCounts_le (hf : m.Fits s) (hc : c < 12) (h : m.dst ≠ .pos (cassettePos c)) {d : Nat} (hd : d < 12) :
    (moveCounts m s).stock.held c d ≤ s.stock.held c d := by
  have := held_moveCounts hf (cassettePos_lt hc) hd
  rw [if_neg h] at this
  rw [stock_held _ hc, stock_held _ hc]
  split at this <;> omega

theorem held_moveCounts_into (hf : m.Fits s) (hc : c < 12) (h : m.dst = .pos (cassettePos c)) {d : Nat} (hd : d < 12) :
    (moveCounts m s).stock.held c d = s.stock.held c d + Counts.of (pairCounts m.pairs) d := by
  have := held_moveCounts hf (cassettePos_lt hc) hd
  rw [if_pos h, if_neg fun hs => hf.apart _ hs h] at this
  rw [stock_held _ hc, stock_held _ hc]
  omega

theorem count_moveCounts_le (hf : m.Fits s) (hc : c < 12) (h : m.dst ≠ .pos (cassettePos c)) :
    (moveCounts m s).stock.count c ≤ s.stock.count c := by
  rw [Stock.count_eq_sum, Stock.count_eq_sum]
  exact Finset.sum_le_sum fun d hd => held_moveCounts_le hf hc h (Finset.mem_range.mp hd)

theorem count_moveCounts_into (hf : m.Fits s) (hc : c < 12) (h : m.dst = .pos (cassettePos c)) :
    (moveCounts m s).stock.count c ≤ s.stock.count c + pairItems m.pairs := by
  rw [Stock.count_eq_sum, Stock.count_eq_sum,
    Finset.sum_congr rfl fun d hd => held_moveCounts_into hf hc h (Finset.mem_range.mp hd), Finset.sum_add_distrib]
  exact Nat.add_le_add_left (sum_pairCounts_le _) _

/-- A checked movement keeps the counts of the cassettes within their laws. -/
theorem lawful_moveCounts {b : Bool} (h : checkMovement m b s = none) (hs : s.stock.Lawful) :
    (moveCounts m s).stock.Lawful := by
  have hf := fits_of_check h
  obtain ⟨bk, hbk⟩ := moveCounts_state s m
  refine hs.withCounts _ (stock_of_book hbk) (fun c hc => ?_) (fun c hc d hd hne => ?_) fun a e hp => ?_
  · by_cases hdst : m.dst = .pos (cassettePos c)
    · obtain ⟨hpres, -, hroom, -⟩ := checkInto_none (checkMovement_into h hc hdst)
      rw [← stock_count s hc] at hroom
      exact .inr ⟨hpres, (count_moveCounts_into hf hc hdst).trans hroom⟩
    · exact .inl (count_moveCounts_le hf hc hdst)
  · by_cases hdst : m.dst = .pos (cassettePos c)
    · obtain ⟨-, hden, -, -⟩ := checkInto_none (checkMovement_into h hc hdst)
      by_cases hz : Counts.of (pairCounts m.pairs) d = 0
      · rw [held_moveCounts_into hf hc hdst hd, hz] at hne
        exact .inl hne
      · by_contra hno
        refine hz (of_pairCounts_eq_zero fun q hq hqd => hno (.inr ?_))
        rw [← hqd]; exact hden q hq
    · have := held_moveCounts_le hf hc hdst hd
      exact .inl (by omega)
  · obtain ⟨ha, he, hne, -⟩ := hs.pair a e hp
    have hover : ∀ c < 12, m.dst = .pos (cassettePos c) → c = a ∨ c = e →
        s.stock.count a + s.stock.count e + pairItems m.pairs ≤ (s.stock.cassette e).capacity := fun c hc hdst hmem => by
      obtain ⟨-, -, -, hpair⟩ := checkInto_none (checkMovement_into h hc hdst)
      rw [stock_count s ha, stock_count s he]
      have hp' : s.evacPair = some (a, e) := hp
      simp only [State.pairOver, hp', Bool.and_eq_false_iff, decide_eq_false_iff_not] at hpair
      obtain hno | hle := hpair
      · exact absurd hmem (by simpa using hno)
      · exact Nat.le_of_not_lt hle
    by_cases hda : m.dst = .pos (cassettePos a)
    · have h1 := hover a ha hda (.inl rfl)
      have h2 := count_moveCounts_into hf ha hda
      have h3 := count_moveCounts_le hf he (by rw [hda]; simpa [cassettePos_inj] using hne)
      omega
    · have h2 := count_moveCounts_le hf ha hda
      by_cases hde : m.dst = .pos (cassettePos e)
      · have h1 := hover e he hde (.inr rfl)
        have h3 := count_moveCounts_into hf he hde
        omega
      · have h3 := count_moveCounts_le hf he hde
        omega

theorem applyMovement_stock (m : Movement) (s : State) : (applyMovement m s).stock = (moveCounts m s).stock := by
  simp [applyMovement]

/-- Counts that change alone leave the buckets. -/
theorem Stock.Bounded.withCounts {x y : Stock} (h : x.Bounded) (n : Tab 12 Counts) (hy : y = { x with counts := n }) :
    y.Bounded := by subst hy; exact h

theorem Upholds.applyMovement {b : Bool} (h : Upholds r s) (hc : checkMovement m b s = none) :
    Upholds r (applyMovement m s) := by
  obtain ⟨bk, hbk⟩ := moveCounts_state s m
  have hmove : Upholds s (moveCounts m s) := ⟨lawful_moveCounts hc, fun hb => hb.withCounts _ (stock_of_book hbk)⟩
  exact (h.trans hmove).stock (applyMovement_stock m s)

theorem Upholds.applyGroup {l : List Movement} (h : Upholds r s) (ht : applyGroup k l s = .ok t) : Upholds r t := by
  induction l generalizing k s with
  | nil => cases ht; exact h
  | cons m l ih =>
    unfold Machine.applyGroup at ht
    split at ht
    · cases ht
    · next hc => exact ih (h.applyMovement hc) ht

/-! ### The closing group of a run -/

theorem foldl_postRunEnd_stock (l : List Movement) (s : State) : (l.foldl postRunEnd s).stock = s.stock := by
  induction l generalizing s with
  | nil => rfl
  | cons m l ih => rw [List.foldl_cons, ih, postRunEnd, numberAndPost_stock]

theorem Upholds.closeMoves {l : List Movement} (h : Upholds r s) (ht : closeMoves l s = some t) : Upholds r t := by
  induction l generalizing s with
  | nil => cases ht; exact h
  | cons m l ih =>
    rw [closeMoves_cons] at ht
    split at ht
    · next hc =>
      refine ih ?_ ht
      unfold closeMove
      dsimp only
      split
      · exact (h.applyMovement hc).stock
      · exact h.applyMovement hc
    · cases ht

theorem Upholds.closingGroup {b : Option Nat} (h : Upholds r s) : Upholds r (closingGroup b s) := by
  unfold Machine.closingGroup
  dsimp only
  have h1 : Upholds r ((s.recycler.run.pairs.map (runEndMove s.recycler.run.kind)).foldl postRunEnd s) :=
    h.stock (foldl_postRunEnd_stock _ s)
  refine Upholds.stock ?_ (each_stock clearInRun_stock _ _)
  cases hm : Machine.closeMoves (s.recycler.run.addedMoves b)
      ((s.recycler.run.pairs.map (runEndMove s.recycler.run.kind)).foldl postRunEnd s) with
  | none => exact h
  | some t => exact h1.closeMoves hm

/-! ### A note of a run -/

/-- A note of denomination `d` goes from position `p` to position `q` in the counts. -/
def moveNote (p q d : Nat) (s : State) : State := giveTo (.pos q) [⟨d, 1⟩] (takeFrom (.pos p) [⟨d, 1⟩] s)

/-- A note taken and given changes the counts of its two positions by one, also where they are one position. -/
theorem held_moveNote {q i e : Nat} (hheld : 0 < s.held p d) (hi : i < 177) (he : e < 12) :
    (moveNote p q d s).held i e + (if p = i ∧ d = e then 1 else 0) = s.held i e + if q = i ∧ d = e then 1 else 0 := by
  have hone : Counts.of (pairCounts [⟨d, 1⟩]) e = if d = e then 1 else 0 := by
    rw [of_pairCounts_cons _ _ he, pairCounts, of_zero, Nat.zero_add]
  have htake : (takeFrom (.pos p) [⟨d, 1⟩] s).held i e + (if p = i ∧ d = e then 1 else 0) = s.held i e := by
    by_cases hp : p = i
    · subst hp
      rw [held_takeFrom hi he, hone]
      by_cases hde : d = e
      · subst hde; simp only [and_self, if_true]; omega
      · simp [hde]
    · rw [State.held, posRec_takeFrom_ne (by simpa using hp), ← State.held, if_neg fun h => hp h.1, Nat.add_zero]
  have hgive : (moveNote p q d s).held i e =
      (takeFrom (.pos p) [⟨d, 1⟩] s).held i e + if q = i ∧ d = e then 1 else 0 := by
    by_cases hq : q = i
    · subst hq
      rw [moveNote, held_giveTo hi he, hone]
      simp
    · rw [moveNote, State.held, posRec_giveTo_ne (by simpa using hq), ← State.held, if_neg fun h => hq h.1, Nat.add_zero]
  omega

theorem denom_lt_of_held (h : 0 < s.held p d) : d < 12 := by
  by_contra hd
  rw [held_out_denom s p (Nat.le_of_not_lt hd)] at h
  exact absurd h (Nat.lt_irrefl 0)

theorem count_moveNote {q : Nat} (hheld : 0 < s.held p d) (hc : c < 12) :
    (moveNote p q d s).stock.count c + (if p = cassettePos c then 1 else 0) =
      s.stock.count c + if q = cassettePos c then 1 else 0 := by
  have hd := denom_lt_of_held hheld
  have hsum : ∀ i : Nat, (if i = cassettePos c then 1 else 0) =
      ∑ e ∈ Finset.range 12, if i = cassettePos c ∧ d = e then 1 else 0 := fun i => by
    by_cases hi : i = cassettePos c
    · simp [hi, hd]
    · simp [hi]
  rw [Stock.count_eq_sum, Stock.count_eq_sum, hsum p, hsum q, ← Finset.sum_add_distrib, ← Finset.sum_add_distrib]
  refine Finset.sum_congr rfl fun e he => ?_
  have he := Finset.mem_range.mp he
  rw [stock_held _ hc, stock_held _ hc]
  exact held_moveNote hheld (cassettePos_lt hc) he

/-- What the book asks of a cassette that takes a note of a run (R126, R162; log entry 20). -/
theorem canBook_cassette {n : PathNote} (h : s.canBook n (cassettePos c) = true) (hc : c < 12) :
    (s.cassette c).present = true ∧ (s.cassette c).denom = some n.denom ∧ s.cassetteCount c < (s.cassette c).capacity ∧
      ∀ a b, s.evacPair = some (a, b) → c = a ∨ c = b → n.src = cassettePos a ∨ n.src = cassettePos b ∨
        s.cassetteCount a + s.cassetteCount b < (s.cassette b).capacity := by
  simp only [State.canBook, posKind_cassettePos hc, State.cassetteTakes, Bool.and_eq_true, decide_eq_true_eq] at h
  obtain ⟨-, ⟨⟨hpres, hden⟩, hroom⟩, hpair⟩ := h
  refine ⟨hpres, hden, hroom, fun a b hp hmem => ?_⟩
  rw [hp] at hpair
  simp only [Bool.or_eq_true, Bool.not_eq_true', decide_eq_true_eq] at hpair
  obtain ((hno | hsrc) | hsrc) | hlt := hpair
  · simp at hno; omega
  · exact .inl hsrc
  · exact .inr (.inl hsrc)
  · exact .inr (.inr hlt)

theorem canBook_held {n : PathNote} {q : Nat} (h : s.canBook n q = true) : 0 < s.held n.src n.denom := by
  simp only [State.canBook, Bool.and_eq_true, decide_eq_true_eq] at h
  obtain ⟨⟨⟨hheld, -⟩, -⟩, -⟩ := h
  exact hheld

theorem moveNote_state (p q d : Nat) (s : State) : ∃ b, moveNote p q d s = { s with book := b } := ⟨_, rfl⟩

/-- A note that the book can take keeps the counts of the cassettes within their laws. -/
theorem lawful_moveNote {n : PathNote} {q : Nat} (h : s.canBook n q = true) (hs : s.stock.Lawful) :
    (moveNote n.src q n.denom s).stock.Lawful := by
  have hheld := canBook_held h
  obtain ⟨bk, hbk⟩ := moveNote_state n.src q n.denom s
  refine hs.withCounts _ (stock_of_book hbk) (fun c hc => ?_) (fun c hc e he hne => ?_) fun a b hp => ?_
  · have hcount := count_moveNote (q := q) hheld hc
    by_cases hq : q = cassettePos c
    · subst hq
      obtain ⟨hpres, -, hroom, -⟩ := canBook_cassette h hc
      rw [← stock_count s hc] at hroom
      refine .inr ⟨hpres, ?_⟩
      change _ ≤ (s.cassette c).capacity
      simp only [if_true] at hcount
      omega
    · rw [if_neg hq] at hcount
      exact .inl (by omega)
  · have hh := held_moveNote (q := q) hheld (cassettePos_lt hc) he
    rw [stock_held _ hc] at hne ⊢
    by_cases hq : q = cassettePos c ∧ n.denom = e
    · obtain ⟨rfl, rfl⟩ := hq
      obtain ⟨-, hden, -, -⟩ := canBook_cassette h hc
      exact .inr hden
    · rw [if_neg hq] at hh
      exact .inl (by omega)
  · obtain ⟨ha, hb, hne, -⟩ := hs.pair a b hp
    have hca := count_moveNote (q := q) hheld ha
    have hcb := count_moveNote (q := q) hheld hb
    have hpos : cassettePos a ≠ cassettePos b := by simpa [cassettePos_inj] using hne
    by_cases hq : q = cassettePos a ∨ q = cassettePos b
    · have hroom : n.src = cassettePos a ∨ n.src = cassettePos b ∨
          s.stock.count a + s.stock.count b < (s.stock.cassette b).capacity := by
        rw [stock_count s ha, stock_count s hb]
        obtain rfl | rfl := hq
        · obtain ⟨-, -, -, hpair⟩ := canBook_cassette h ha
          exact hpair a b hp (.inl rfl)
        · obtain ⟨-, -, -, hpair⟩ := canBook_cassette h hb
          exact hpair a b hp (.inr rfl)
      split at hca <;> split at hca <;> split at hcb <;> split at hcb <;> omega
    · rw [if_neg fun h => hq (.inl h)] at hca
      rw [if_neg fun h => hq (.inr h)] at hcb
      exact .inl (by omega)

theorem Upholds.moveNote {n : PathNote} {q : Nat} (h : Upholds r s) (hb : s.canBook n q = true) :
    Upholds r (moveNote n.src q n.denom s) := by
  obtain ⟨bk, hbk⟩ := moveNote_state n.src q n.denom s
  exact h.trans ⟨lawful_moveNote hb, fun hs => hs.withCounts _ (stock_of_book hbk)⟩

/-- The bucket of a cassette may fall (R158). -/
theorem Upholds.goodNote (h : Upholds r s) : Upholds r (goodNote c s) := by
  refine h.changeCassette (fun _ _ hall => ?_) fun hb => ?_
  · have hflag := hall.flagged
    split
    · exact hall.sameBody fun hp hr hle => hflag hp hr (hle.trans (Nat.sub_le _ _))
    · exact hall.sameBody hflag
  · split
    · exact (Nat.sub_le _ _).trans hb
    · exact hb

theorem Upholds.goodNotes {q : Nat} (h : Upholds r s) : Upholds r (goodNotes p q s) := by
  have hone : ∀ (i : Nat) (u : State), Upholds r u →
      Upholds r (match posKind i with | .cassette c => Machine.goodNote c u | _ => u) := fun i u hu => by
    split
    · exact hu.goodNote
    · exact hu
  exact hone _ _ (hone _ _ h)

theorem counts_markInRun (p q : Nat) (s : State) : ((markInRun p s).posRec q).counts = (s.posRec q).counts := by
  by_cases hpq : p = q
  · subst hpq
    by_cases hp : p < 177
    · rw [markInRun, posRec_setPosRec_self s p _ hp]
    · rw [markInRun, State.setPosRec, Tab.set_out _ _ _ (Nat.le_of_not_lt hp)]
  · rw [markInRun, posRec_setPosRec_ne s p q _ hpq]

theorem canBook_markInRun (p : Nat) (n : PathNote) (q : Nat) (s : State) : (markInRun p s).canBook n q = s.canBook n q := by
  unfold State.canBook State.cassetteTakes State.held
  simp only [counts_markInRun]
  rfl

theorem Upholds.bookNote {n : PathNote} {q : Nat} (h : Upholds r s) (hb : s.canBook n q = true) :
    Upholds r (bookNote n q s) := by
  have hm : Upholds r (markInRun q (markInRun n.src s)) := h.stock
  have h1 : Upholds r (Machine.moveNote n.src q n.denom (markInRun q (markInRun n.src s))) :=
    hm.moveNote (by rw [canBook_markInRun, canBook_markInRun, hb])
  unfold Machine.moveNote at h1
  unfold Machine.bookNote
  dsimp only
  split
  · refine Upholds.stock ?_ (trayNotesLeft_stock ..)
    split <;> exact h1.stock
  · refine Upholds.stock ?_ (tellNote_stock ..)
    refine Upholds.stock (Upholds.goodNotes ?_) (accountNote_stock ..)
    split <;> exact h1.stock

theorem Upholds.arriveNote {n : PathNote} (h : Upholds r s) : Upholds r (arriveNote n s) := by
  have h1 : Upholds r (s.setRun { s.recycler.run with path := s.recycler.run.path.erase n }) := h.stock
  unfold Machine.arriveNote
  dsimp only
  split
  · exact h1.stock
  split
  · next hb => exact h1.bookNote hb
  · exact h1

end Sys2Proof.Machine
end

section
/-! Buckets, tag checks and the evacuation uphold the laws of the recycler, and so does every settling (R128, R158 to R168). -/

-- One theorem at a time: the whole text holds more theorems than the check has room for threads.
set_option Elab.async false

namespace Sys2Proof.Machine

variable {r s t u : State} {m : Movement} {a b c d k p : Nat}

/-! ### Buckets, R158, R159 -/

/-- Two changes of one cassette record leave the stock that both at once leave. -/
theorem changeCassette_twice_stock (c : Nat) (f g : CasRec → CasRec) (s : State) :
    (changeCassette c g (changeCassette c f s)).stock = (changeCassette c (g ∘ f) s).stock :=
  Stock.change_change c f g s.stock

/-- A bucket that rises is flagged where it has reached the threshold. -/
theorem Upholds.raiseBucket {w : Nat} (h : Upholds r s) : Upholds r (raiseBucket c w s) := by
  have hbound : ∀ n : Nat, Nat.min Config.bucketTop n ≤ Config.bucketTop := Nat.min_le_left _
  obtain ⟨-, hu⟩ | ⟨-, n, hu⟩ | ⟨hdue, hu⟩ := raiseBucket_cases c w s <;> rw [hu]
  · exact h
  · have hflag : Upholds r (Machine.changeCassette c
        ((fun q => { q with atThreshold := true }) ∘ fun q =>
          { q with bucket := Nat.min Config.bucketTop (q.bucket + w) }) s) :=
      h.changeCassette (fun _ _ hall => hall.sameBody fun _ _ _ => rfl) fun _ => hbound _
    exact hflag.stock (by rw [notify_stock]; exact changeCassette_twice_stock ..)
  · refine h.changeCassette (fun hc _ hall => hall.sameBody fun _ _ hle => ?_) fun _ => hbound _
    unfold State.thresholdDue at hdue
    rw [Machine.changeCassette, cassette_setCassette_self _ c _ hc] at hdue
    have hthr : s.evac.threshold ≤ Nat.min Config.bucketTop ((s.cassette c).bucket + w) := hle
    simpa [hthr] using hdue

theorem Upholds.misfeedAt {p : PickPoint} (h : Upholds r s) : Upholds r (misfeedAt p s) := by
  unfold Machine.misfeedAt
  dsimp only
  split
  · next c =>
    have h1 := h.raiseBucket (c := c.val) (w := Config.misfeedWeight)
    exact .ite h1.stock h1.stock
  · exact .ite h.stock h.stock

theorem Upholds.doubleAt {p : PickPoint} (h : Upholds r s) : Upholds r (doubleAt p s) := by
  unfold Machine.doubleAt
  split
  · next c =>
    refine (h.raiseBucket (c := c.val) (w := Config.doubleWeight)).stock ?_
    unfold doubleAtCassette
    dsimp only
    (repeat' split) <;> simp
  · exact .ite h.stock h
  · exact h.stock

theorem Upholds.jamAt {p : JamPoint} (h : Upholds r s) : Upholds r (jamAt p s) := by
  have h1 : Upholds r (jamReported p s) := by
    refine Upholds.stock ?_ (handFault_stock ..)
    split
    · exact h.raiseBucket
    · exact h
  unfold Machine.jamAt
  dsimp only
  (repeat' split) <;> exact h1.stock

/-! ### The evacuation, R163 to R168 -/

theorem evacPair_of_idle (h : s.evac.state = .idle) : s.evacPair = none := by unfold State.evacPair; rw [h]

theorem evacPair_of_stranded (h : s.evac.state = .stranded) : s.evacPair = none := by unfold State.evacPair; rw [h]

/-- An evacuation record that is IDLE or STRANDED gives no pair. -/
theorem setEvac_stock_ended {e : Evacuation} (s : State) (he : e.state = .idle ∨ e.state = .stranded)
    (ht : e.threshold = s.evac.threshold) : (s.setEvac e).stock = { s.stock with pair := none } := by
  have hp : (s.setEvac e).evacPair = none :=
    he.elim (evacPair_of_idle (s := s.setEvac e)) (evacPair_of_stranded (s := s.setEvac e))
  unfold State.stock
  rw [hp, State.setEvac_evac, ht]
  rfl

theorem completeEvac_stock (a b : Nat) (s : State) : (completeEvac a b s).stock =
    s.stock.retire a b fun q => { q with role := .retired, evacSource := false, atThreshold := false } := by
  unfold completeEvac
  dsimp only
  rw [notify_stock, dropEvac_stock, setEvac_stock_ended]
  · rfl
  · exact .inl rfl
  · rfl

theorem strandEvac_stock (a b : Nat) (s : State) : (strandEvac a b s).stock =
    s.stock.retire a b fun q => { q with role := .retired, evacSource := false, stranded := true } := by
  unfold strandEvac
  dsimp only
  rw [notify_stock, dropEvac_stock, setEvac_stock_ended]
  · rfl
  · exact .inr rfl
  · rfl

theorem Stock.Bounded.retire {x : Stock} {f : CasRec → CasRec} (h : x.Bounded) (hf : ∀ q, (f q).bucket = q.bucket) :
    (x.retire a b f).Bounded := by
  have h1 : ({ x with pair := none } : Stock).Bounded := h
  exact (h1.change (c := b) id).change fun hb => (hf _).trans_le hb

theorem Stock.Bounded.startPair {x : Stock} (h : x.Bounded) : (x.startPair a b).Bounded := by
  have h1 : (x.change b fun q => { q with denom := (x.cassette a).denom, evacSpare := true }).Bounded := h.change id
  exact h1.change (c := a) (f := fun q => { q with evacSource := true }) id

theorem Upholds.completeEvac (h : Upholds r s) (hp : s.evacPair = some (a, b)) : Upholds r (completeEvac a b s) := by
  refine h.trans ⟨fun hs => ?_, fun hs => ?_⟩ <;> rw [completeEvac_stock]
  · exact hs.retire hp fun _ => rfl
  · exact hs.retire fun _ => rfl

theorem Upholds.strandEvac (h : Upholds r s) (hp : s.evacPair = some (a, b)) : Upholds r (strandEvac a b s) := by
  refine h.trans ⟨fun hs => ?_, fun hs => ?_⟩ <;> rw [strandEvac_stock]
  · exact hs.retire hp fun _ => rfl
  · exact hs.retire fun _ => rfl

theorem Upholds.evacExamine (h : Upholds r s) : Upholds r (evacExamine s) := by
  unfold Machine.evacExamine
  split
  · next hp => exact .ite (h.completeEvac hp) h
  · exact h

theorem Upholds.evacRunClosed {due : Bool} (h : Upholds r s) : Upholds r (evacRunClosed due s) := by
  unfold Machine.evacRunClosed
  split
  · next hp => exact .ite (h.completeEvac hp) (.ite (h.strandEvac hp) h)
  · exact h

theorem moduleOf_of_mem (h : b ∈ moduleCassettes k) : moduleOf b = k := by
  obtain ⟨i, hi, rfl⟩ := List.mem_map.mp h
  have := List.mem_range.mp hi
  unfold moduleOf
  omega

/-- A spare that is found is in its source's module, empty, and takes the source's notes. -/
theorem spareFor_some (h : s.spareFor a = some b) : moduleOf b = moduleOf a ∧ (s.cassette b).present = true ∧
    (s.cassette b).role = .spare ∧ s.cassetteCount b = 0 ∧ s.cassetteCount a ≤ (s.cassette b).capacity := by
  have hq := List.find?_some h
  simp only [State.qualifyingSpare, Bool.and_eq_true, decide_eq_true_eq] at hq
  obtain ⟨⟨⟨⟨hpres, hrole⟩, hzero⟩, -⟩, hroom⟩ := hq
  refine ⟨moduleOf_of_mem (List.mem_of_find?_eq_some h), hpres, hrole, ?_, (Nat.le_add_right _ _).trans hroom⟩
  rw [State.cassetteCount, eq_zero_of_isZero hzero]
  rfl

/-- A start marks the pair, and is then examined. -/
theorem startEvac_eq (a b : Nat) (forced : Bool) (s : State) :
    ∃ u, startEvac a b forced s = evacExamine u ∧ u.stock = s.stock.startPair a b :=
  ⟨_, rfl, by rw [giveEvac_stock, notify_stock, gradeModule_stock, leaveSource_stock]; rfl⟩

/-- An IDLE evacuation may start at a present source that is no spare itself, with the spare found for it. -/
theorem Upholds.startEvac {forced : Bool} (h : Upholds r s) (hidle : s.evac.state = .idle)
    (hpres : (s.cassette a).present = true) (hrole : (s.cassette a).role ≠ .spare) (hb : s.spareFor a = some b) :
    Upholds r (startEvac a b forced s) := by
  obtain ⟨hmod, hpb, hspare, hzero, hroom⟩ := spareFor_some hb
  obtain ⟨u, heq, hu⟩ := startEvac_eq a b forced s
  have hne : a ≠ b := by rintro rfl; exact hrole hspare
  rw [heq]
  refine .evacExamine (h.trans ⟨fun hs => ?_, fun hs => ?_⟩) <;> rw [hu]
  · refine hs.startPair (evacPair_of_idle hidle) hne hmod.symm hpres hpb hspare ?_ ?_
    · rw [stock_count s (Stock.lt_of_present (x := s.stock) hpb), hzero]
    · rw [stock_count s (Stock.lt_of_present (x := s.stock) hpres)]; exact hroom
  · exact hs.startPair

theorem mem_byBucket (s : State) (c k : Nat) (l : List Nat) : k ∈ s.byBucket c l → k = c ∨ k ∈ l := by
  induction l with
  | nil => exact fun h => .inl (List.mem_singleton.mp h)
  | cons x l ih =>
    unfold State.byBucket
    split
    · exact List.mem_cons.mp
    · intro h
      obtain rfl | h := List.mem_cons.mp h
      · exact .inr List.mem_cons_self
      · exact (ih h).imp_right (List.mem_cons_of_mem _)

/-- Every candidate meets the conditions of R163. -/
theorem isCandidate_of_mem (h : c ∈ s.candidates) : s.isCandidate c = true := by
  have hfold : ∀ (l acc : List Nat), c ∈ l.foldl (fun l c => s.byBucket c l) acc → c ∈ l ∨ c ∈ acc := fun l => by
    induction l with
    | nil => exact fun acc h => .inr h
    | cons x l ih =>
      intro acc h
      obtain h | h := ih _ h
      · exact .inl (List.mem_cons_of_mem _ h)
      · obtain rfl | h := mem_byBucket s x c acc h
        · exact .inl List.mem_cons_self
        · exact .inr h
  have hmod : ∀ k, c ∈ s.moduleCandidates k → s.isCandidate c = true := fun k h =>
    (List.mem_filter.mp ((hfold _ _ h).resolve_right List.not_mem_nil)).2
  exact (List.mem_append.mp h).elim (hmod 0) (hmod 1)

theorem Upholds.autoEvac (h : Upholds r s) (ht : autoEvac s = some t) : Upholds r t := by
  unfold Machine.autoEvac at ht
  split at ht
  · next hidle =>
    split at ht
    · next c l hc =>
      obtain ⟨b, hb, rfl⟩ := Option.map_eq_some_iff.mp ht
      have hcand := isCandidate_of_mem (hc ▸ List.mem_cons_self : c ∈ s.candidates)
      simp only [State.isCandidate, Bool.and_eq_true, Bool.or_eq_true, decide_eq_true_eq] at hcand
      obtain ⟨⟨⟨⟨⟨⟨⟨⟨⟨hpres, hrole⟩, -⟩, -⟩, -⟩, -⟩, -⟩, -⟩, -⟩, -⟩ := hcand
      refine h.startEvac hidle.1 hpres (fun hs => ?_) hb
      rw [hs] at hrole
      simp at hrole
    · cases ht
  · cases ht

/-! ### The end of a run and the reactions -/

theorem Upholds.reportEnd {x : Run} (h : Upholds r s) : Upholds r (reportEnd x s) := by
  unfold Machine.reportEnd
  split
  · refine Upholds.stock ?_ (entryToTail_stock _ _)
    split <;> exact h.stock
  · exact h.stock
  · exact h.stock
  · exact h.evacRunClosed
  · exact h

theorem Upholds.recoveredEnd {x : Run} (h : Upholds r s) : Upholds r (recoveredEnd x s) := .ite h.evacRunClosed h

theorem Upholds.closeRun {b : Option Nat} (h : Upholds r s) : Upholds r (closeRun b s) := by
  have h1 : Upholds r ((Machine.closingGroup b s).setRun Run.idle) := h.closingGroup.stock (setRun_stock ..)
  exact .evacExamine (.ite h1.recoveredEnd h1.reportEnd)

theorem Upholds.closeStep (h : Upholds r s) (ht : closeStep s = some t) : Upholds r t := by
  unfold Machine.closeStep at ht
  dsimp only at ht
  split at ht
  · rw [← Option.some.inj ht]; exact h.closeRun
  · cases ht

theorem Upholds.purgeClear {c : PurgeCycle} {n : Nat} (h : Upholds r s) : Upholds r (purgeClear c n s) := by
  unfold Machine.purgeClear
  dsimp only
  have h1 : Upholds r (if c.startUp = true then
      (if (s.setPurge none).faultPresent c.bin = true then enterModule c.bin .faulted .tags (s.setPurge none)
        else enterModule c.bin ((s.setPurge none).serviceState c.bin) .tags (s.setPurge none))
      else if c.closes s.recycler.run = true then faultStill (s.setPurge none) else s.setPurge none) := by
    (repeat' split) <;> exact h.stock
  revert h1
  generalize (if c.startUp = true then _ else _) = u
  intro h1
  have h2 : Upholds r (if c.closes s.recycler.run = true then Machine.closeRun (some c.bin) u else u) := .ite h1.closeRun h1
  exact .ite h2.stock h2

/-- Each change that a block makes of itself upholds the laws. -/
theorem Upholds.reaction {f : State → Option State} (hf : f ∈ reactions) (h : Upholds r s) (ht : f s = some t) :
    Upholds r t := by
  simp only [reactions, firstReactions, lastReactions, List.cons_append, List.nil_append, List.mem_cons, List.not_mem_nil,
    or_false] at hf
  rcases hf with rfl | rfl | rfl | rfl | rfl | rfl | rfl | rfl | rfl | rfl | rfl | rfl | rfl | rfl | rfl
  · exact h.stock (causeStep_stock ht)
  · exact h.closeStep ht
  · exact h.stock (gradeStep_stock ht)
  · exact h.stock (cutStep_stock ht)
  · exact h.stock (trayFreed_stock ht)
  · exact h.stock (trayTaken_stock ht)
  · exact h.stock (buildsStep_stock ht)
  · exact h.stock (pauseStep_stock ht)
  · exact h.autoEvac ht
  · exact h.stock (purgeStart_stock ht)
  · exact h.stock (preemptStep_stock ht)
  · exact h.stock (safeStep_stock ht)
  · exact h.stock (holdStep_stock ht)
  · exact h.stock (assignStep_stock ht)
  · exact h.stock (grantStep_stock ht)

theorem Upholds.settle (h : Upholds r s) : Upholds r (settle s) :=
  settle_keeps (Upholds r) (fun _ hf _ _ h ht => h.reaction hf ht) (fun _ _ h => h.stock) s h

theorem Upholds.settleClear (h : Upholds r s) : Upholds r (settleClear s) :=
  settleClear_keeps (Upholds r) (fun _ hf _ _ h ht => h.reaction (clearReactions_subset hf) ht) (fun _ _ h => h.stock) s h

/-! ### The tag check, R128 -/

/-- Under the laws a slot whose cassette is absent is of no pair. -/
theorem Stock.Allows.not_paired {x : Stock} {q : CasRec} (h : x.Allows c q) (hp : q.present = false) :
    ∀ a b, x.pair = some (a, b) → c ≠ a ∧ c ≠ b := by
  refine fun a b hpair => ⟨?_, ?_⟩
  · rintro rfl
    obtain ⟨hpres, -⟩ := h.source b hpair
    exact Bool.false_ne_true (hp.symm.trans hpres)
  · rintro rfl
    obtain ⟨hpres, -⟩ := h.spare a hpair
    exact Bool.false_ne_true (hp.symm.trans hpres)

theorem present_checkTag {q : CasRec} (h : q.present = true) (x : Option Nat) :
    checkTag q x = { q with sensed := sensedOf x, mismatch := x = none || q.tag ≠ x } := if_pos h

/-- A cassette that a tag check finds in a vacant slot has an empty bucket. -/
theorem bucket_checkTag {q : CasRec} (h : q.present = false) (x : Option Nat) :
    (checkTag q x).present = true → (checkTag q x).bucket = 0 := by
  unfold checkTag
  rw [if_neg (by simp [h])]
  split
  · intro hp; exact absurd (h.symm.trans hp) Bool.false_ne_true
  · split <;> exact fun _ => rfl
  · exact fun _ => rfl

theorem bucket_firstTag {q : CasRec} (h : q.present = false) (x : Option Nat) :
    (firstTag q x).present = true → (firstTag q x).bucket = 0 := by
  unfold firstTag
  split
  · exact fun _ => rfl
  · intro hp; exact absurd (h.symm.trans hp) Bool.false_ne_true

/-- What a tag check makes of a slot is allowed once the check has been made. -/
theorem Stock.Allows.checkTag {x : Stock} {q : CasRec} (h : x.Allows c q) (hthr : 1 ≤ x.threshold)
    (hfresh : x.freshTags.get false (moduleOf c) = false) (n : Option Nat) : x.Allows c (checkTag q n) := by
  by_cases hp : q.present = true
  · rw [present_checkTag hp]
    exact h.sameBody h.flagged
  · have hp : q.present = false := by simpa using hp
    refine .of_empty (h.vacant hp) (h.not_paired hp) (fun hf => ?_) fun hpres _ hle => ?_
    · exact absurd (hfresh.symm.trans hf) Bool.false_ne_true
    · rw [bucket_checkTag hp n hpres] at hle; omega

/-- The first tag check since store loss finds its slots vacant. -/
theorem Stock.Allows.firstTag {x : Stock} {q : CasRec} (h : x.Allows c q) (hthr : 1 ≤ x.threshold)
    (hp : q.present = false) (hfresh : x.freshTags.get false (moduleOf c) = false) (n : Option Nat) :
    x.Allows c (firstTag q n) := by
  refine .of_empty (h.vacant hp) (h.not_paired hp) (fun hf => ?_) fun hpres _ hle => ?_
  · exact absurd (hfresh.symm.trans hf) Bool.false_ne_true
  · rw [bucket_firstTag hp n hpres] at hle; omega

theorem bucket_checkTag_le (q : CasRec) (n : Option Nat) : (checkTag q n).bucket ≤ q.bucket := by
  unfold checkTag
  split
  · exact le_rfl
  · split
    · exact le_rfl
    · split <;> exact Nat.zero_le _
    · exact Nat.zero_le _

theorem bucket_firstTag_le (q : CasRec) (n : Option Nat) : (firstTag q n).bucket ≤ q.bucket := by
  unfold firstTag
  split
  · exact Nat.zero_le _
  · exact le_rfl

/-- The stock under other first-check marks. -/
def Stock.withTags (f : Tab 2 Bool) (x : Stock) : Stock := { x with freshTags := f }

/-- What holds while the slots `l` of module `m` are still to be checked, its first-check mark taken as cleared already. -/
structure Checking (m : Nat) (f : Tab 2 Bool) (fresh : Bool) (l : List Nat) (u : State) : Prop where
  lawful : (u.stock.withTags f).Lawful
  nodup : l.Nodup
  inside : ∀ i ∈ l, i < 6
  vacant : fresh = true → ∀ i ∈ l, (u.cassette (6 * m + i)).present = false

theorem Checking.next {k i : Nat} {f : Tab 2 Bool} {fresh : Bool} {l : List Nat} {n : Option Nat}
    (h : Checking k f fresh (i :: l) u) (hf : f.get false k = false) :
    Checking k f fresh l (changeCassette (6 * k + i) (fun q => if fresh then firstTag q n else checkTag q n) u) := by
  obtain ⟨hlaw, hnd, hin, hvac⟩ := h
  obtain ⟨hi, hnd⟩ := List.nodup_cons.mp hnd
  have hi6 := hin i List.mem_cons_self
  have hmod : moduleOf (6 * k + i) = k := by unfold moduleOf; omega
  refine ⟨?_, hnd, fun j hj => hin j (List.mem_cons_of_mem _ hj), fun hfr j hj => ?_⟩
  · refine hlaw.change (c := 6 * k + i) (f := fun q => if fresh then firstTag q n else checkTag q n) fun _ hall => ?_
    split
    · next hfr => exact hall.firstTag hlaw.threshold (hvac hfr i List.mem_cons_self) (by rw [hmod]; exact hf) n
    · exact hall.checkTag hlaw.threshold (by rw [hmod]; exact hf) n
  · have hne : 6 * k + i ≠ 6 * k + j := fun he => hi (by rwa [Nat.add_left_cancel he])
    rw [changeCassette, cassette_setCassette_ne _ _ _ _ hne]
    exact hvac hfr j (List.mem_cons_of_mem _ hj)

/-- The slots of module `k` after its tag check are within the laws, with its first-check mark cleared. -/
theorem lawful_checkTags {k : Nat} {tags : Tab 6 (Option Nat)} (hk : k < 2) (h : s.stock.Lawful) :
    ((checkTags k tags s).stock.withTags (s.recycler.freshTags.set k false)).Lawful := by
  have hf : (s.recycler.freshTags.set k false).get false k = false := Tab.get_set_self _ _ _ _ hk
  have hstart : Checking k (s.recycler.freshTags.set k false) (s.recycler.freshTags.get false k) (List.range 6) s := by
    refine ⟨h.tagsChecked k, List.nodup_range, fun i hi => List.mem_range.mp hi, fun hfr i hi => ?_⟩
    have hi6 := List.mem_range.mp hi
    have hmod : moduleOf (6 * k + i) = k := by unfold moduleOf; omega
    exact (h.allows (6 * k + i) (by omega)).unchecked (by rw [hmod]; exact hfr)
  have hrun : ∀ (l : List Nat) (u : State),
      Checking k (s.recycler.freshTags.set k false) (s.recycler.freshTags.get false k) l u →
      Checking k (s.recycler.freshTags.set k false) (s.recycler.freshTags.get false k) []
        (State.each (fun i u => changeCassette (6 * k + i) (fun q =>
          if s.recycler.freshTags.get false k then firstTag q (tags.get none i) else checkTag q (tags.get none i)) u) l u) := by
    intro l
    induction l with
    | nil => exact fun u hu => hu
    | cons i l ih => exact fun u hu => ih _ (hu.next hf)
  exact (hrun _ _ hstart).lawful

theorem bounded_checkTags {k : Nat} {tags : Tab 6 (Option Nat)} (h : s.stock.Bounded) :
    (checkTags k tags s).stock.Bounded := by
  refine each_keeps (fun u => u.stock.Bounded) _ (fun i u hu => ?_) _ s h
  refine hu.change (c := 6 * k + i) (f := fun q => if s.recycler.freshTags.get false k then firstTag q (tags.get none i)
    else checkTag q (tags.get none i)) fun hb => ?_
  split
  · exact (bucket_firstTag_le _ _).trans hb
  · exact (bucket_checkTag_le _ _).trans hb

theorem checkTags_freshTags (k : Nat) (tags : Tab 6 (Option Nat)) (s : State) :
    (checkTags k tags s).recycler.freshTags = s.recycler.freshTags := by
  refine each_keeps (fun u => u.recycler.freshTags = s.recycler.freshTags) _ (fun i u hu => ?_) _ s rfl
  exact Eq.trans rfl hu

theorem setFreshTags_stock (f : Tab 2 Bool) (u : State) :
    ({ u with recycler := { u.recycler with freshTags := f } } : State).stock = u.stock.withTags f := rfl

theorem Upholds.tagsRead {k : Nat} {tags : Tab 6 (Option Nat)} (hk : k < 2) (h : Upholds r s) :
    Upholds r (tagsRead k tags s) := by
  have hlaw := lawful_checkTags (s := s) (tags := tags) hk
  have hbound := bounded_checkTags (s := s) (k := k) (tags := tags)
  have hfresh := checkTags_freshTags k tags s
  unfold Machine.tagsRead
  revert hlaw hbound hfresh
  generalize Machine.checkTags k tags s = u
  intro hlaw hbound hfresh
  dsimp only
  refine .ite (Upholds.settle (h.trans ⟨fun hs => ?_, fun hs => ?_⟩)) h <;> rw [setModRec_stock, setFreshTags_stock, hfresh]
  · exact hlaw hs
  · exact hbound hs

/-! ### The threshold, R160 -/

/-- What every operation of a fold keeps and that of `c` brings about holds after a fold over `c`. -/
theorem each_reaches (P : State → Prop) (f : Nat → State → State) (hself : ∀ u, P (f c u))
    (hkeep : ∀ n u, P u → P (f n u))
    {l : List Nat} (hc : c ∈ l) (s : State) : P (State.each f l s) := by
  induction l generalizing s with
  | nil => cases hc
  | cons n l ih =>
    obtain rfl | hc := List.mem_cons.mp hc
    · exact each_keeps P f hkeep l _ (hself s)
    · exact ih hc _

/-- Cassette `c` is flagged where that is due under the threshold `n`. -/
def State.flaggedAt (s : State) (n c : Nat) : Prop :=
  (s.cassette c).present = true → n ≤ (s.cassette c).bucket → (s.cassette c).atThreshold = true

/-- AT_THRESHOLD is set, with a notice, or not due. -/
theorem dueThreshold_cases (c : Nat) (s : State) :
    (dueThreshold c s = s ∧ s.flaggedAt s.evac.threshold c) ∨
      ∃ b, dueThreshold c s = notify b (changeCassette c (fun q => { q with atThreshold := true }) s) := by
  unfold dueThreshold
  split
  · exact .inr ⟨_, rfl⟩
  · next h =>
    refine .inl ⟨rfl, fun hp hle => ?_⟩
    by_contra hno
    exact h ⟨hp, by simpa [State.thresholdDue, hle] using hno⟩

theorem dueThreshold_evac (c : Nat) (s : State) : (dueThreshold c s).evac = s.evac := by
  obtain ⟨h, -⟩ | ⟨b, h⟩ := dueThreshold_cases c s <;> rw [h]
  rw [notify_evac]
  rfl

/-- A flag that is set stays, and no other field of the record changes. -/
theorem flaggedAt_dueThreshold {n : Nat} (k : Nat) (h : s.flaggedAt n c) : (dueThreshold k s).flaggedAt n c := by
  obtain ⟨h', -⟩ | ⟨b, h'⟩ := dueThreshold_cases k s <;> rw [h']
  · exact h
  · unfold State.flaggedAt State.cassette
    rw [notify_recycler, ← State.cassette]
    by_cases hkc : k = c
    · subst hkc
      by_cases hk : k < 12
      · rw [changeCassette, cassette_setCassette_self _ k _ hk]; exact fun _ _ => rfl
      · rw [State.cassette, Tab.get_out _ _ _ (Nat.le_of_not_lt hk)]; exact nofun
    · rw [changeCassette, cassette_setCassette_ne _ k c _ hkc]; exact h

theorem flaggedAt_dueThreshold_self (hc : c < 12) (s : State) : (dueThreshold c s).flaggedAt s.evac.threshold c := by
  obtain ⟨h, hf⟩ | ⟨b, h⟩ := dueThreshold_cases c s <;> rw [h]
  · exact hf
  · unfold State.flaggedAt State.cassette
    rw [notify_recycler, ← State.cassette, changeCassette, cassette_setCassette_self _ c _ hc]
    exact fun _ _ => rfl

/-- The stock under another threshold. -/
def Stock.withThreshold (n : Nat) (x : Stock) : Stock := { x with threshold := n }

/-- Another threshold is lawful where every cassette that has reached it is flagged. -/
theorem Stock.Lawful.withThreshold {x : Stock} {n m : Nat} (h : (x.withThreshold m).Lawful) (hn : 1 ≤ n)
    (hflag : ∀ c < 12, (x.cassette c).present = true → n ≤ (x.cassette c).bucket → (x.cassette c).atThreshold = true) :
    (x.withThreshold n).Lawful := by
  refine ⟨hn, fun c hc => ?_, h.pair⟩
  obtain ⟨-, hroom, hden, hvac, hfresh, hsrc, hspare⟩ := h.allows c hc
  exact ⟨fun hp _ => hflag c hc hp, hroom, hden, hvac, hfresh, hsrc, hspare⟩

/-- A new threshold from 1 up, with AT_THRESHOLD set where it is due (R160). -/
theorem Upholds.setPolicy {e : Evacuation} (h : Upholds r s) (hst : e.state = s.evac.state) (hsrc : e.source = s.evac.source)
    (hsp : e.spare = s.evac.spare) (he : 1 ≤ e.threshold) {l : List Nat} (hl : ∀ c < 12, c ∈ l) :
    Upholds r (State.each dueThreshold l (s.setEvac e)) := by
  have hpair : (s.setEvac e).evacPair = s.evacPair := by simp only [State.evacPair, State.setEvac_evac, hst, hsrc, hsp]
  have hstock : (s.setEvac e).stock = s.stock.withThreshold e.threshold := by
    unfold State.stock; rw [hpair]; rfl
  have hevac := each_keeps (fun u => u.evac = e) dueThreshold (fun n u hu => (dueThreshold_evac n u).trans hu) l
    (s.setEvac e) rfl
  refine h.trans ⟨fun hs => ?_, fun hs => ?_⟩
  · have hold : ((State.each dueThreshold l (s.setEvac e)).stock.withThreshold s.evac.threshold).Lawful := by
      refine each_keeps (fun u => (u.stock.withThreshold s.evac.threshold).Lawful) dueThreshold (fun n u hu => ?_) _ _ ?_
      · obtain ⟨hd, -⟩ | ⟨b, hd⟩ := dueThreshold_cases n u <;> rw [hd]
        · exact hu
        · rw [notify_stock]
          exact hu.change (c := n) (f := fun q => { q with atThreshold := true }) fun _ hall => hall.sameBody fun _ _ _ => rfl
      · rw [hstock]; exact hs
    have hflag : ∀ c < 12, (State.each dueThreshold l (s.setEvac e)).flaggedAt e.threshold c := fun c hc =>
      each_reaches (fun u => u.evac = e → u.flaggedAt e.threshold c) dueThreshold
        (fun u hu => by
          rw [dueThreshold_evac] at hu
          exact hu ▸ flaggedAt_dueThreshold_self hc u)
        (fun n u hu he => flaggedAt_dueThreshold n (hu ((dueThreshold_evac n u).symm.trans he)))
        (hl c hc) _ hevac
    have hnew := hold.withThreshold he hflag
    have hthr : (State.each dueThreshold l (s.setEvac e)).stock.threshold = e.threshold := by
      rw [State.stock, hevac]
    unfold Stock.withThreshold at hnew
    rwa [← hthr] at hnew
  · refine each_keeps (fun u => u.stock.Bounded) dueThreshold (fun n u hu => ?_) _ _ ?_
    · obtain ⟨hd, -⟩ | ⟨b, hd⟩ := dueThreshold_cases n u <;> rw [hd]
      · exact hu
      · rw [notify_stock]
        exact hu.change (c := n) (f := fun q => { q with atThreshold := true }) id
    · rw [hstock]; exact hs

/-! ### Cassettes set, taken out and looked at, R127, R131, R161 -/

/-- An empty cassette of no evacuation may be taken out. -/
theorem Upholds.vacate (h : Upholds r s) (hcount : s.cassetteCount c = 0) (hsrc : (s.cassette c).evacSource = false)
    (hspare : (s.cassette c).evacSpare = false) : Upholds r (vacate c s) := by
  refine h.changeCassette (fun hc _ hall => ?_) fun _ => Nat.zero_le _
  refine .of_empty (by rw [stock_count s hc, hcount]) (fun a b hp => ⟨?_, ?_⟩) (fun _ => rfl) nofun
  · rintro rfl
    obtain ⟨-, hs⟩ := hall.source b hp
    exact Bool.false_ne_true (hsrc.symm.trans hs)
  · rintro rfl
    obtain ⟨-, hs, -⟩ := hall.spare a hp
    exact Bool.false_ne_true (hspare.symm.trans hs)

theorem strandedRemoved_stock (c : Nat) (s : State) : (strandedRemoved c s).stock = s.stock := by
  unfold strandedRemoved
  split
  · next h =>
    have hp : s.stock.pair = none := evacPair_of_stranded h.1
    have hended : s.stock = { s.stock with pair := none } := by rw [← hp]
    exact (setEvac_stock_ended (e := { s.evac with state := .idle, source := none }) s (.inl rfl) rfl).trans hended.symm
  · rfl

theorem applyGroup_cassette {l : List Movement} (ht : applyGroup k l s = .ok t) (c : Nat) : t.cassette c = s.cassette c := by
  induction l generalizing k s with
  | nil => cases ht; rfl
  | cons m l ih =>
    unfold applyGroup at ht
    split at ht
    · cases ht
    · obtain ⟨b, hb⟩ := moveCounts_state s m
      have hcas : (applyMovement m s).stock.cassette c = s.stock.cassette c := by
        rw [applyMovement_stock, stock_of_book hb]; rfl
      exact (ih ht).trans hcas

/-- Clearing a bucket: 0 is below every threshold. -/
theorem Upholds.clearBucket (h : Upholds r s) :
    Upholds r (Machine.changeCassette c (fun q => { q with bucket := 0, good := 0, atThreshold := false }) s) := by
  refine h.changeCassette (fun _ hs hall => hall.sameBody fun _ _ hle => ?_) fun _ => Nat.zero_le _
  have := hs.threshold
  exact absurd (this.trans hle) (Nat.not_succ_le_zero 0)

/-- MISMATCH resolved leaves what the laws read. -/
theorem Upholds.resolveMismatch (h : Upholds r s) : Upholds r (resolveMismatch p s) := by
  unfold Machine.resolveMismatch
  split
  · next c _ =>
    dsimp only
    split
    · next n _ _ =>
      exact h.changeCassette (f := fun q => { q with mismatch := false, tag := some n })
        (fun _ _ hall => hall.sameBody hall.flagged) id
    · exact h
  · exact h

end Sys2Proof.Machine
end

section
/-! The events of the line, the bay, the safe and the mechanism uphold the laws of the recycler. -/

-- One theorem at a time: the whole text holds more theorems than the check has room for threads.
set_option Elab.async false

namespace Sys2Proof.Machine

variable {r s t : State}

/-! ### The frame of an event -/

theorem Upholds.event {f : State → State} (h : Upholds s (f s)) : Upholds s (event f s) := by
  cases hp : s.powered with
  | false => rw [event_off f s hp]; exact .refl s
  | true => rw [event_on f s hp]; exact h.stock

theorem Upholds.inTurn {f : Turn → State → State} (h : Upholds r s) (hf : ∀ x, (f x s).stock = s.stock) :
    Upholds r (inTurn f s) := by
  unfold Machine.inTurn
  split
  · exact (h.stock (hf _)).settle
  · exact h

/-! ### The bay and the safe -/

@[simp] theorem releaseContainer_stock (n : Nat) (s : State) : (releaseContainer n s).stock = s.stock := by
  unfold releaseContainer; split <;> simp

@[simp] theorem unclaim_stock (n : Nat) (s : State) : (unclaim n s).stock = s.stock := requestRelease_stock ..

theorem Upholds.handOut {k i n slot : Nat} {c : ConsRec} {x : Item} (h : Upholds r s) :
    Upholds r (handOut k i n c x slot s) := by
  unfold Machine.handOut
  dsimp only
  split
  · exact h.stock
  split
  · exact h.stock
  · next hc => exact (h.applyMovement hc).stock

theorem Upholds.takeIn {k i n : Nat} {c : ConsRec} {x : Item} (h : Upholds r s) : Upholds r (takeIn k i n c x s) := by
  unfold Machine.takeIn
  split
  · exact h.stock
  · next m _ _ =>
    have h1 : Upholds r (claimSlot (containerPos m) s) := h.stock
    dsimp only
    split
    · exact h1.stock
    · next hc => exact (h1.applyMovement hc).stock

theorem Upholds.courierRead {n : Nat} (h : Upholds r s) : Upholds r (courierRead n s) := by
  unfold Machine.courierRead
  split
  · exact h.stock
  split
  · exact h
  split
  · exact h.stock
  split
  · exact h
  split
  · exact h.stock
  split
  · exact .ite h.handOut h.stock
  · exact h.stock
  · exact h.takeIn

theorem Upholds.courierCloses (h : Upholds r s) : Upholds r (courierCloses s) := by
  unfold Machine.courierCloses
  dsimp only
  split
  · split
    · exact Upholds.settle h.stock
    · exact h.stock
  · have h1 : Upholds r (sensorClosed .courier s) := h.stock
    exact (Upholds.ite (h1.stock (lockCourier_stock _)) h1).stock (bayAfter_stock _)

theorem Upholds.courierLate (h : Upholds r s) : Upholds r (courierLate s) := by
  unfold Machine.courierLate
  split
  · split
    · split
      · exact Upholds.settle h.stock
      · exact h
    · exact h
  · exact h

@[simp] theorem relockSafe_stock (s : State) : (relockSafe s).stock = s.stock := by
  unfold relockSafe; dsimp only; split <;> simp

@[simp] theorem safeForced_stock (s : State) : (safeForced s).stock = s.stock := by simp [safeForced]

@[simp] theorem forcedEnds_stock (s : State) : (forcedEnds s).stock = s.stock := by simp [forcedEnds]

theorem Upholds.relockDue (h : Upholds r s) : Upholds r (relockDue s) := .ite (Upholds.settle h.stock) h

theorem Upholds.safeReadsOpen (h : Upholds r s) : Upholds r (safeReadsOpen s) := by
  unfold Machine.safeReadsOpen
  dsimp only
  split
  · exact Upholds.settle h.stock
  · exact Upholds.settle h.stock
  · exact .ite h (Upholds.settle h.stock)
  · exact .ite h (Upholds.settle h.stock)
  · exact h

theorem Upholds.safeReadsClosed (h : Upholds r s) : Upholds r (safeReadsClosed s) := by
  unfold Machine.safeReadsClosed
  dsimp only
  split
  · exact .ite (Upholds.settle h.stock) h.stock
  · exact .ite (Upholds.settle h.stock) h.stock
  · exact .ite (Upholds.settle h.stock) h.stock
  · exact h
  · exact h

@[simp] theorem tickClock_stock (s : State) : (tickClock s).stock = s.stock := by simp [tickClock]
@[simp] theorem tickTimers_stock (s : State) : (tickTimers s).stock = s.stock := rfl
@[simp] theorem windowOver_stock (s : State) : (windowOver s).stock = s.stock := by unfold windowOver; split <;> simp
@[simp] theorem safeReading_stock (b : Bool) (s : State) : (safeReading b s).stock = s.stock := rfl
@[simp] theorem doorReading_stock (d : Door) (b : Bool) (s : State) : (doorReading d b s).stock = s.stock := by
  simp [doorReading]

/-! ### The mechanism -/

theorem Upholds.readNote {p : ReadPoint} {x : Reading} (h : Upholds r s) : Upholds r (readNote p x s) := by
  unfold Machine.readNote
  split
  · exact h
  split
  · split
    · split
      · exact Upholds.settle h.stock
      · exact h
    · exact h
  · exact .ite (Upholds.settle h.stock) h

theorem Upholds.noteArrives {a : Arrival} (h : Upholds r s) : Upholds r (noteArrives a s) := by
  unfold Machine.noteArrives
  split
  · split
    · next ha => exact (h.stock (arriving_stock ha)).arriveNote.settle
    · exact h
  · exact h

theorem Upholds.headEmpties {i : Fin 2} (h : Upholds r s) : Upholds r (headEmpties i s) := by
  unfold Machine.headEmpties
  dsimp only
  split
  · exact Upholds.settle h.stock
  · exact h.stock

theorem Upholds.purgeOver {b : Bool} {n : Nat} (h : Upholds r s) : Upholds r (purgeOver b n s) := by
  unfold Machine.purgeOver
  split
  · split
    · exact h.purgeClear.settle
    · exact Upholds.settle h.stock
  · exact h

/-- Without an event the controller idles, or a cassette run makes its pick. -/
theorem Upholds.idle (h : Upholds r s) : Upholds r (idle s) := by
  unfold Machine.idle
  split
  · exact h.stock
  · exact h

end Sys2Proof.Machine
end

section
/-! The requests uphold the laws of the recycler. -/

-- One theorem at a time: the whole text holds more theorems than the check has room for threads.
set_option Elab.async false

namespace Sys2Proof.Machine

variable {r s t : State}

/-! ### The gate of a request -/

/-- What a request's block upholds, the request upholds. -/
theorem Upholds.request {α : Type} {c g : Nat} {b : Body α} {f : α → State → Reply × State}
    (hf : ∀ a u, Upholds u (f a u).2) (s : State) : Upholds s (request c g b f s) := by
  have h0 := Upholds.refl s
  obtain ⟨-, e⟩ | ⟨-, -, e⟩ | ⟨-, -, -, e⟩ | ⟨-, -, -, -, e⟩ | ⟨-, -, -, a, -, e⟩ :=
    request_cases c g b f s <;> rw [e]
  · exact h0
  · exact h0.stock
  · exact h0.stock
  · exact h0.stock
  · have h1 : Upholds s (heard s) := h0.stock
    exact (h1.trans (hf a (heard s))).stock (respond_stock ..)

theorem Upholds.pair {x : Reply} (h : Upholds r s) : Upholds r (x, s).2 := h

/-! ### The book -/

theorem doQueryPosition_upholds (q : QueryPositionReq) (s : State) : Upholds s (doQueryPosition q s).2 := by
  unfold doQueryPosition
  dsimp only
  (repeat' split) <;> dsimp only [no, noBook] <;> first
    | with_reducible exact .refl s
    | exact (Upholds.refl s).stock

theorem doPostPosition_upholds (p : Nat) (s : State) : Upholds s (doPostPosition p s).2 := by
  unfold doPostPosition
  dsimp only
  (repeat' split) <;> dsimp only [no, noBook] <;> first
    | with_reducible exact .refl s
    | exact (Upholds.refl s).stock

@[simp] theorem setPostingMode_stock (p : Nat) (m : PostingMode) (s : State) : (Machine.setMode p m s).stock = s.stock := by
  simp [Machine.setMode]

theorem doSetPostingMode_upholds (q : SetPostingModeReq) (s : State) : Upholds s (doSetPostingMode q s).2 := by
  unfold doSetPostingMode
  dsimp only
  (repeat' split) <;> dsimp only [no, noBook] <;> first
    | with_reducible exact .refl s
    | exact (Upholds.refl s).stock

@[simp] theorem markFetched_stock (n : Nat) (s : State) : (markFetched n s).stock = s.stock := rfl

theorem doFetchPostings_upholds (n : Nat) (s : State) : Upholds s (doFetchPostings n s).2 := by
  unfold doFetchPostings
  split <;> exact .refl s

theorem doAdjustPosition_upholds (q : AdjustReq) (s : State) : Upholds s (doAdjustPosition q s).2 := by
  have h := Upholds.refl s
  unfold doAdjustPosition
  split
  · exact h
  split
  · exact h
  split
  · exact h
  split
  · exact .pair <| h.resolveMismatch.settle
  dsimp only
  split
  · exact h
  · next hc => exact .pair <| (h.applyMovement hc).resolveMismatch.evacExamine.settle

/-- The operator check of OPENING writes nothing but the roster. -/
theorem openingCheck_stock {x y : Nat} (h : openingCheck x y s = .ok t) : t.stock = s.stock := by
  unfold openingCheck at h
  (repeat' split at h) <;> cases h <;> rfl

theorem doOpening_upholds (q : OpeningReq) (s : State) : Upholds s (doOpening q s).2 := by
  unfold doOpening
  split
  · exact .refl s
  · next ho =>
    have h := (Upholds.refl s).stock (openingCheck_stock ho)
    dsimp only
    split
    · exact h
    · next hc => exact .pair (h.applyMovement hc).settle

/-! ### The settings -/

@[simp] theorem setDenom_stock (i : Nat) (x : DenomRec) (s : State) : (s.setDenom i x).stock = s.stock := rfl
@[simp] theorem dropTemplateEntries_stock (i : Nat) (s : State) : (dropTemplateEntries i s).stock = s.stock := rfl
@[simp] theorem dropRanges_stock (i : Nat) (s : State) : (dropRanges i s).stock = s.stock := rfl
@[simp] theorem defineDenom_stock (i : Nat) (x : DenomRec) (s : State) : (defineDenom i x s).stock = s.stock := by
  unfold defineDenom; dsimp only; (repeat' split) <;> simp

theorem doSetDenomination_upholds (q : SetDenominationReq) (s : State) : Upholds s (doSetDenomination q s).2 := by
  unfold doSetDenomination
  dsimp only
  (repeat' split) <;> dsimp only [no, noBook] <;> first
    | with_reducible exact .refl s
    | exact (Upholds.refl s).stock

theorem doClearDenomination_upholds (i : Nat) (s : State) : Upholds s (doClearDenomination i s).2 := by
  unfold doClearDenomination
  (repeat' split) <;> dsimp only [no, noBook] <;> first
    | with_reducible exact .refl s
    | exact (Upholds.refl s).stock

theorem doSetTemplate_upholds (q : SetTemplateReq) (s : State) : Upholds s (doSetTemplate q s).2 := by
  unfold doSetTemplate
  (repeat' split) <;> exact (Upholds.refl s).stock rfl

theorem doSetRosterEntry_upholds (q : SetRosterReq) (s : State) : Upholds s (doSetRosterEntry q s).2 := by
  unfold doSetRosterEntry
  (repeat' split) <;> exact (Upholds.refl s).stock rfl

theorem doSetCoinLimit_upholds (v : Nat) (s : State) : Upholds s (doSetCoinLimit v s).2 := by
  unfold doSetCoinLimit
  (repeat' split) <;> exact (Upholds.refl s).stock rfl

theorem doSetLine_upholds (q : SetLineReq) (s : State) : Upholds s (doSetLine q s).2 := by
  have h := Upholds.refl s
  have hset : ∀ l, Upholds s { s with count := { s.count with settings := l } } := fun l => h.stock rfl
  unfold doSetLine
  split
  · exact h
  split
  · exact h
  split
  · exact h
  dsimp only
  split
  · exact (hset _).stock (each_stock dropStation_stock _ _)
  · exact hset _

theorem doSetArbiter_upholds (q : SetArbiterReq) (s : State) : Upholds s (doSetArbiter q s).2 := by
  unfold doSetArbiter
  dsimp only
  (repeat' split) <;> exact (Upholds.refl s).stock rfl

theorem doSetFaultPolicy_upholds (q : SetFaultPolicyReq) (s : State) : Upholds s (doSetFaultPolicy q s).2 := by
  have h := Upholds.refl s
  unfold doSetFaultPolicy
  split
  · exact h
  split
  · exact h
  · next hq =>
    exact .pair <| Upholds.settle (h.setPolicy
      (e := { s.evac with threshold := q.threshold, leakNotes := clamp 50 1000 q.leakNotes })
      rfl rfl rfl (Nat.le_of_not_lt (not_or.mp hq).1) fun _ => List.mem_range.mpr)

theorem doSetEvacuation_upholds (q : SetEvacuationReq) (s : State) : Upholds s (doSetEvacuation q s).2 := by
  unfold doSetEvacuation
  (repeat' split) <;> dsimp only [no, noBook] <;> first
    | with_reducible exact .refl s
    | exact Upholds.settle (Upholds.refl s).stock

theorem doSetDoorLimit_upholds (v : Nat) (s : State) : Upholds s (doSetDoorLimit v s).2 :=
  (Upholds.refl s).stock ((checkHeld_stock ..).trans (checkHeld_stock ..))

theorem doSetSafeRelock_upholds (v : Nat) (s : State) : Upholds s (doSetSafeRelock v s).2 := (Upholds.refl s).stock rfl

/-! ### The till desk -/

theorem doBuildFloat_upholds (q : BuildFloatReq) (s : State) : Upholds s (doBuildFloat q s).2 := by
  have hs : ∀ k t plan total short, Upholds s (startBuildFloat k q t plan total short s) := fun k t plan total short => by
    unfold startBuildFloat noticeWithin
    dsimp only
    split <;> exact (Upholds.refl s).stock
  unfold doBuildFloat
  (repeat' split) <;> dsimp only [no, noBook] <;> first
    | with_reducible exact .refl s
    | exact (hs ..).settle

@[simp] theorem handedOver_stock (k t : Nat) (c : Counts) (s : State) : (handedOver k t c s).stock = s.stock := by
  simp [handedOver]

theorem doFloatHanded_upholds (q : TillOpReq) (s : State) : Upholds s (doFloatHanded q s).2 := by
  have h := Upholds.refl s
  unfold doFloatHanded
  split
  · exact h
  split
  · exact h
  split
  · exact h
  dsimp only
  split
  · exact h
  · next hg => exact .pair <| Upholds.settle ((h.applyGroup hg).stock (handedOver_stock ..))

theorem doAcceptShort_upholds (q : TillOpReq) (s : State) : Upholds s (doAcceptShort q s).2 := by
  have h := Upholds.refl s
  unfold doAcceptShort
  split
  · exact h
  split
  · exact h
  split
  · exact h
  dsimp only
  split
  · exact h
  · next hg => exact .pair <| Upholds.settle ((h.applyGroup hg).stock (handedOver_stock ..))

theorem doRebuild_upholds (n : Nat) (s : State) : Upholds s (doRebuild n s).2 := by
  have hs : ∀ k t plan b p v short, Upholds s (noticeWithin k t p v short ((reserve k t plan s).setBuild k b)) :=
    fun k t plan b p v short => by unfold noticeWithin; split <;> exact (Upholds.refl s).stock
  unfold doRebuild
  (repeat' split) <;> dsimp only [no, noBook] <;> first
    | with_reducible exact .refl s
    | exact (hs ..).settle

theorem doCancelBuild_upholds (n : Nat) (s : State) : Upholds s (doCancelBuild n s).2 := by
  unfold doCancelBuild
  dsimp only
  (repeat' split) <;> dsimp only [no, noBook] <;> first
    | with_reducible exact .refl s
    | exact Upholds.settle ((Upholds.refl s).stock)

@[simp] theorem adviseTill_stock (n : Nat) (s : State) : (adviseTill n s).stock = s.stock := by
  unfold adviseTill; dsimp only; (repeat' split) <;> simp
@[simp] theorem rebandTill_stock (n : Nat) (s : State) : (rebandTill n s).stock = s.stock := by
  unfold rebandTill; dsimp only; split <;> simp
@[simp] theorem salesFollow_stock (n : Nat) (s : State) : (salesFollow n s).stock = s.stock := by
  unfold salesFollow; split <;> simp

theorem doReportSales_upholds (q : ReportSalesReq) (s : State) : Upholds s (doReportSales q s).2 := by
  unfold doReportSales
  dsimp only
  (repeat' split) <;> dsimp only [no, noBook] <;> first
    | with_reducible exact .refl s
    | exact (Upholds.refl s).stock

theorem doAcceptVariance_upholds (q : AcceptVarianceReq) (s : State) : Upholds s (doAcceptVariance q s).2 := by
  unfold doAcceptVariance
  (repeat' split) <;> dsimp only [no, noBook] <;> first
    | with_reducible exact .refl s
    | exact (Upholds.refl s).stock

theorem doCloseTill_upholds (n : Nat) (s : State) : Upholds s (doCloseTill n s).2 := by
  unfold doCloseTill
  (repeat' split) <;> dsimp only [no, noBook] <;> first
    | with_reducible exact .refl s
    | exact (Upholds.refl s).stock

/-! ### The count unit -/

theorem doResetStation_upholds (n : Nat) (s : State) : Upholds s (doResetStation n s).2 := by
  unfold doResetStation
  dsimp only
  (repeat' split) <;> dsimp only [no, noBook] <;> first
    | with_reducible exact .refl s
    | exact Upholds.settle ((Upholds.refl s).stock)

theorem doStationQuery_upholds (n : Nat) (s : State) : Upholds s (doStationQuery n s).2 := by
  unfold doStationQuery
  dsimp only
  split <;> exact (Upholds.refl s).stock (by simp [no])

@[simp] theorem queueJob_stock (n : Nat) (x : StationSel) (s : State) : (queueJob n x s).stock = s.stock := by
  unfold queueJob; split <;> simp
@[simp] theorem sourceStarted_stock (n : Nat) (x : CountSource) (s : State) : (sourceStarted n x s).stock = s.stock := by
  unfold sourceStarted; (repeat' split) <;> simp

theorem doStartCount_upholds (q : StartCountReq) (s : State) : Upholds s (doStartCount q s).2 := by
  have h := Upholds.refl s
  unfold doStartCount
  split
  · exact h
  split
  · exact h
  split
  · exact h
  split
  · exact h
  split
  · exact h
  split
  · exact h
  dsimp only
  split
  · split <;> exact .pair <| Upholds.settle h.stock
  · exact .pair <| Upholds.settle h.stock
  · exact h

theorem doDeclareCoin_upholds (q : DeclareCoinReq) (s : State) : Upholds s (doDeclareCoin q s).2 := by
  unfold doDeclareCoin
  dsimp only
  (repeat' split) <;> dsimp only [no, noBook] <;> first
    | with_reducible exact .refl s
    | exact (Upholds.refl s).stock

@[simp] theorem tillAccepts_stock (l : LotRec) (s : State) : (tillAccepts l s).stock = s.stock := by
  unfold tillAccepts; dsimp only; (repeat' split) <;> simp
@[simp] theorem releaseToHand_stock (k : Option Nat) (s : State) : (releaseToHand k s).stock = s.stock := by
  unfold releaseToHand; split <;> simp
@[simp] theorem returnStackOf_stock (n : Nat) (l : LotRec) (s : State) : (returnStackOf n l s).stock = s.stock := by
  unfold returnStackOf; (repeat' split) <;> simp
@[simp] theorem restoreSource_stock (l : LotRec) (s : State) : (restoreSource l s).stock = s.stock := by
  unfold restoreSource; (repeat' split) <;> simp

@[simp] theorem containerAccepts_stock (l : LotRec) (s : State) : (containerAccepts l s).stock = s.stock := by
  unfold containerAccepts; split <;> simp
@[simp] theorem afterAccept_stock (n : Nat) (d : Disposal) (l : LotRec) (s : State) :
    (afterAccept n d l s).stock = s.stock := by unfold afterAccept; dsimp only; (repeat' split) <;> simp
@[simp] theorem acceptLot_stock (n op : Nat) (d : Disposal) (l : LotRec) (s : State) :
    (acceptLot n op d l s).stock = s.stock := by simp [acceptLot]

theorem doAcceptCount_upholds (q : AcceptCountReq) (s : State) : Upholds s (doAcceptCount q s).2 := by
  have h := Upholds.refl s
  unfold doAcceptCount
  split
  · exact h
  split
  · split
    · exact h
    split
    · exact h
    split
    · exact h
    split
    · exact h
    dsimp only
    split
    · exact h
    · next hg => exact .pair <| Upholds.settle (h.applyGroup hg).stock
  · exact h

theorem doRejectCount_upholds (n : Nat) (s : State) : Upholds s (doRejectCount n s).2 := by
  unfold doRejectCount
  (repeat' split) <;> dsimp only [no, noBook] <;> first
    | with_reducible exact .refl s
    | exact Upholds.settle ((Upholds.refl s).stock)

@[simp] theorem voidLot_stock (n : Nat) (l : LotRec) (s : State) : (voidLot n l s).stock = s.stock := by
  unfold voidLot; dsimp only; rw [voidRelease_stock]; split <;> simp

theorem doVoidLot_upholds (n : Nat) (s : State) : Upholds s (doVoidLot n s).2 := by
  unfold doVoidLot
  (repeat' split) <;> dsimp only [no, noBook] <;> first
    | with_reducible exact .refl s
    | exact Upholds.settle ((Upholds.refl s).stock)

theorem doResumeDisposal_upholds (n : Nat) (s : State) : Upholds s (doResumeDisposal n s).2 := by
  unfold doResumeDisposal
  dsimp only
  (repeat' split) <;> dsimp only [no, noBook] <;> first
    | with_reducible exact .refl s
    | exact Upholds.settle ((Upholds.refl s).stock)

theorem doDisposeLotReserve_upholds (q : DisposeLotReserveReq) (s : State) : Upholds s (doDisposeLotReserve q s).2 := by
  have h := Upholds.refl s
  unfold doDisposeLotReserve
  split
  · exact h
  split
  · exact h
  split
  · exact h
  split
  · exact h
  dsimp only
  split
  · exact h
  · next hc => exact .pair <| Upholds.settle (h.applyMovement hc).stock

/-! ### The recycler controller -/

/-- A cassette is set where its slot is of no evacuation and its notes stay of its denomination and within its capacity. -/
theorem Upholds.setCassette {c cap : Nat} {role : Role} {d : Option Nat} (h : Upholds r s)
    (hbar : (s.cassette c).setBarred = false)
    (hden : s.cassetteCount c ≠ 0 → d = (s.cassette c).denom) (hcap : s.cassetteCount c ≤ cap) :
    Upholds r (s.setCassette c { s.cassette c with role := role, denom := d, capacity := cap }) := by
  simp only [CasRec.setBarred, Bool.or_eq_false_iff, Bool.not_eq_false', decide_eq_false_iff_not] at hbar
  obtain ⟨⟨⟨⟨hpres, hret⟩, -⟩, hsrc⟩, hspare⟩ := hbar
  refine h.changeCassette (f := fun q => { q with role := role, denom := d, capacity := cap }) (fun hc _ hall => ?_) id
  refine ⟨fun hp _ => hall.flagged hp hret, ?_, fun e he hne => ?_, hall.vacant, hall.unchecked, fun b hp => ?_, fun a hp => ?_⟩
  · rw [stock_count s hc]; exact hcap
  · refine (hden fun hz => hne (Stock.held_of_count ?_ he)).trans (hall.denom e he hne)
    rw [stock_count s hc, hz]
  · obtain ⟨-, hs⟩ := hall.source b hp
    exact absurd (hsrc.symm.trans hs) Bool.false_ne_true
  · obtain ⟨-, hs, -⟩ := hall.spare a hp
    exact absurd (hspare.symm.trans hs) Bool.false_ne_true

theorem doSetCassette_upholds (q : SetCassetteReq) (s : State) : Upholds s (doSetCassette q s).2 := by
  have h := Upholds.refl s
  unfold doSetCassette
  split
  · exact h
  split
  · dsimp only
    split
    · exact h
    split
    · exact h
    next hbar =>
    split
    · exact h
    split
    · exact h
    next huse =>
    split
    · exact h
    next hcap =>
    refine .pair <| Upholds.settle (h.setCassette (by simpa using hbar) (fun hne => ?_) (Nat.le_of_not_lt hcap))
    by_contra hden
    exact huse ⟨hne, .inl hden⟩
  · exact h

theorem doInsertCassette_upholds (q : InsertCassetteReq) (s : State) : Upholds s (doInsertCassette q s).2 := by
  have h := Upholds.refl s
  unfold doInsertCassette
  split
  · exact h
  split
  · next c role _ _ =>
    split
    · exact h
    split
    · exact h
    split
    · exact h
    split
    · exact h
    · exact .pair <| h.changeCassette (f := fun x => { x with announced := some ⟨q.tagNumber, role, q.denom, q.capacity⟩ })
        (fun _ _ hall => hall.sameBody hall.flagged) id
  · exact h

/-- A group that takes every note of a cassette out, and none in, leaves it empty. -/
theorem cassetteCount_emptied {c k : Nat} {l : List Movement} (hc : c < 12) (ht : applyGroup k l s = .ok t)
    (hl : ∀ d < 12, (l.map fun m => m.into (cassettePos c) d).sum = -(s.held (cassettePos c) d : Int)) :
    t.cassetteCount c = 0 := by
  rw [← stock_count t hc]
  refine Stock.count_of_held fun d hd => ?_
  have hheld := held_applyGroup ht (cassettePos_lt hc) hd
  rw [hl d hd] at hheld
  rw [stock_held t hc]
  omega

/-- The movement of all of a cassette's notes to another side. -/
theorem into_pairsOf {k : MoveKind} {y : Side} {p d : Nat} {ops : List Nat} {slot : Option Nat} (hd : d < 12)
    (hy : y ≠ .pos p) :
    (⟨k, .pos p, y, pairsOf (s.posRec p).counts, ops, slot⟩ : Movement).into p d = -(s.held p d : Int) := by
  simp only [Movement.into, if_neg hy, if_true, of_pairCounts_pairsOf _ hd]
  exact Int.zero_sub _

theorem removeForCollection_upholds {c : Nat} (hc : c < 12) (hsrc : (s.cassette c).evacSource = false)
    (hspare : (s.cassette c).evacSpare = false) (a b : Nat) : Upholds s (removeForCollection c a b s).2 := by
  have h := Upholds.refl s
  unfold removeForCollection
  dsimp only
  split
  · exact h
  split
  · exact h
  next n _ _ =>
  have hs1 : ((claimSlot (containerPos n) s).setContainer n (some (collectedCassette ((s.cassette c).tag.getD 0)))).stock =
      s.stock := by simp
  revert hs1
  generalize (claimSlot (containerPos n) s).setContainer n _ = u
  intro hu
  have h1 : Upholds s u := h.stock hu
  split
  · exact .pair h1.stock
  next v hg =>
  have hcas : v.cassette c = s.cassette c := (applyGroup_cassette hg c).trans (congrArg (Stock.cassette · c) hu)
  refine .pair <| Upholds.settle ((h1.applyGroup hg).vacate (cassetteCount_emptied hc hg fun d hd => ?_) ?_ ?_)
  · have hne : Side.pos (containerPos n) ≠ .pos (cassettePos c) := by
      simp only [ne_eq, Side.pos.injEq, containerPos, cassettePos]; omega
    have hheld : u.held (cassettePos c) d = s.held (cassettePos c) d := by
      rw [← stock_held u hc, hu, stock_held s hc]
    rw [collectMoves, sum_withPairs fun m hm => into_empty hm _ _, List.map_cons, List.map_cons, List.map_nil,
      List.sum_cons, List.sum_cons, List.sum_nil, into_pairsOf (y := .external .adjustment) hd nofun, hheld]
    simp [Movement.into, hne]
  · rw [hcas]; exact hsrc
  · rw [hcas]; exact hspare

theorem removeStranded_upholds {c : Nat} (hc : c < 12) (hsrc : (s.cassette c).evacSource = false)
    (hspare : (s.cassette c).evacSpare = false) (a b : Nat) : Upholds s (removeStranded c a b s).2 := by
  have h := Upholds.refl s
  unfold removeStranded
  split
  · exact h
  next n _ _ =>
  have hu := createLot_stock n (.stranded c) none none s
  revert hu
  generalize createLot n (.stranded c) none none s = u
  intro hu
  dsimp only
  split
  · exact h
  next v hg =>
  have h1 : Upholds s u := h.stock hu
  have hcas : v.cassette c = s.cassette c := (applyGroup_cassette hg c).trans (congrArg (Stock.cassette · c) hu)
  have hvac : Upholds s (vacate c v) := (h1.applyGroup hg).vacate (cassetteCount_emptied hc hg fun d hd => by
      have hne : Side.pos (lotPos n) ≠ .pos (cassettePos c) := by
        simp only [ne_eq, Side.pos.injEq, lotPos, cassettePos]; omega
      have hheld : u.held (cassettePos c) d = s.held (cassettePos c) d := by
        rw [← stock_held u hc, hu, stock_held s hc]
      rw [sum_withPairs fun m hm => into_empty hm _ _, List.map_cons, List.map_nil, List.sum_cons, List.sum_nil,
        recoveryMove, into_pairsOf hd hne, hheld, add_zero])
    (by rw [hcas]; exact hsrc) (by rw [hcas]; exact hspare)
  exact .pair <| Upholds.settle (hvac.stock (strandedRemoved_stock c _))

theorem doRemoveCassette_upholds (q : RemoveCassetteReq) (s : State) : Upholds s (doRemoveCassette q s).2 := by
  have h := Upholds.refl s
  unfold doRemoveCassette
  split
  · exact h
  split
  · next c o _ _ =>
    split
    · exact h
    split
    · exact h
    dsimp only
    split
    · exact h
    split
    · exact h
    next hfree =>
    split
    · exact h
    next hrem =>
    obtain ⟨hpres, hsrc, hspare⟩ : (s.cassette c).present = true ∧ (s.cassette c).evacSource = false ∧
      (s.cassette c).evacSpare = false := by simpa using hfree
    have hc := Stock.lt_of_present (x := s.stock) hpres
    split
    · have hzero : s.cassetteCount c = 0 := by simpa [State.removable] using hrem
      exact .pair <| Upholds.settle ((h.vacate hzero hsrc hspare).stock (strandedRemoved_stock ..))
    · exact removeForCollection_upholds hc hsrc hspare _ _
    · exact removeStranded_upholds hc hsrc hspare _ _
  · exact h

theorem doSetRoute_upholds (q : SetRouteReq) (s : State) : Upholds s (doSetRoute q s).2 := by
  unfold doSetRoute
  dsimp only
  (repeat' split) <;> dsimp only [no, noBook] <;> first
    | with_reducible exact .refl s
    | exact (Upholds.refl s).stock

@[simp] theorem setWindow_stock (w : Option Nat) (s : State) : (setWindow w s).stock = s.stock := by simp [setWindow]

theorem doOpenFloatWindow_upholds (n : Nat) (s : State) : Upholds s (doOpenFloatWindow n s).2 := by
  unfold doOpenFloatWindow
  (repeat' split) <;> dsimp only [no, noBook] <;> first
    | with_reducible exact .refl s
    | exact Upholds.settle ((Upholds.refl s).stock)

theorem doCloseFloatWindow_upholds (x : Unit) (s : State) : Upholds s (doCloseFloatWindow x s).2 :=
  (Upholds.refl s).stock (setWindow_stock ..)

theorem doClearBucket_upholds (q : SlotOpsReq) (s : State) : Upholds s (doClearBucket q s).2 := by
  unfold doClearBucket
  (repeat' split) <;> dsimp only [no, noBook] <;> first
    | with_reducible exact .refl s
    | exact (Upholds.refl s).clearBucket.settleClear

theorem doStartEvacuation_upholds (q : SlotOpsReq) (s : State) : Upholds s (doStartEvacuation q s).2 := by
  have h := Upholds.refl s
  unfold doStartEvacuation
  split
  · exact h
  next c _ =>
  split
  · exact h
  split
  · exact h
  split
  · exact h
  split
  · exact h
  next hidle =>
  split
  · exact h
  next hsource =>
  split
  · exact h
  split
  · exact h
  next hb =>
  have hsource : (s.cassette c).sourceable = true := by simpa using hsource
  simp only [CasRec.sourceable, Bool.and_eq_true, Bool.or_eq_true, decide_eq_true_eq] at hsource
  obtain ⟨⟨⟨⟨⟨hpres, hrole⟩, -⟩, -⟩, -⟩, -⟩ := hsource
  refine .pair <| (h.startEvac (not_not.mp hidle) hpres (fun hs => ?_) hb).settle
  rw [hs] at hrole
  simp at hrole

/-! ### The bay controller -/

theorem doOpenBag_upholds (n : Nat) (s : State) : Upholds s (doOpenBag n s).2 := by
  unfold doOpenBag
  (repeat' split) <;> dsimp only [no, noBook] <;> first
    | with_reducible exact .refl s
    | exact (Upholds.refl s).stock

theorem doFillBag_upholds (q : FillBagReq) (s : State) : Upholds s (doFillBag q s).2 := by
  unfold doFillBag
  dsimp only
  (repeat' split) <;> dsimp only [no, noBook] <;> first
    | with_reducible exact .refl s
    | exact (Upholds.refl s).applyMovement ‹_›

theorem doCloseBag_upholds (n : Nat) (s : State) : Upholds s (doCloseBag n s).2 := by
  unfold doCloseBag
  (repeat' split) <;> dsimp only [no, noBook] <;> first
    | with_reducible exact .refl s
    | exact (Upholds.refl s).stock

theorem doDiscardContainer_upholds (n : Nat) (s : State) : Upholds s (doDiscardContainer n s).2 := by
  unfold doDiscardContainer
  (repeat' split) <;> dsimp only [no, noBook] <;> first
    | with_reducible exact .refl s
    | exact (Upholds.refl s).stock

theorem doCreateConsignment_upholds (q : CreateConsignmentReq) (s : State) : Upholds s (doCreateConsignment q s).2 := by
  unfold doCreateConsignment
  (repeat' split) <;> dsimp only [no, noBook] <;> first
    | with_reducible exact .refl s
    | exact (Upholds.refl s).stock

theorem doAddItem_upholds (q : AddItemReq) (s : State) : Upholds s (doAddItem q s).2 := by
  unfold doAddItem
  dsimp only
  (repeat' split) <;> dsimp only [no, noBook] <;> first
    | with_reducible exact .refl s
    | exact (Upholds.refl s).stock

theorem doStage_upholds (k : Nat) (s : State) : Upholds s (doStage k s).2 := by
  unfold doStage
  (repeat' split) <;> dsimp only [no, noBook] <;> first
    | with_reducible exact .refl s
    | exact (Upholds.refl s).stock

@[simp] theorem engageCons_stock (k a b : Nat) (c : ConsRec) (s : State) : (engageCons k a b c s).stock = s.stock := by
  simp [engageCons]

theorem doEngage_upholds (q : EngageReq) (s : State) : Upholds s (doEngage q s).2 := by
  unfold doEngage
  (repeat' split) <;> dsimp only [no, noBook] <;> first
    | with_reducible exact .refl s
    | exact (Upholds.refl s).stock

theorem doRetrieve_upholds (x : Unit) (s : State) : Upholds s (doRetrieve x s).2 := by
  unfold doRetrieve
  (repeat' split) <;> dsimp only [no, noBook] <;> first
    | with_reducible exact .refl s
    | exact (Upholds.refl s).stock

theorem doLockBay_upholds (x : Unit) (s : State) : Upholds s (doLockBay x s).2 := by
  unfold doLockBay
  (repeat' split) <;> dsimp only [no, noBook] <;> first
    | with_reducible exact .refl s
    | exact (Upholds.refl s).stock

theorem doAbort_upholds (k : Nat) (s : State) : Upholds s (doAbort k s).2 := by
  unfold doAbort
  (repeat' split) <;> dsimp only [no, noBook] <;> first
    | with_reducible exact .refl s
    | exact Upholds.settle ((Upholds.refl s).stock)

/-! ### Office control and the link -/

theorem doEnterHold_upholds (x : Unit) (s : State) : Upholds s (doEnterHold x s).2 := by
  unfold doEnterHold
  dsimp only
  split
  · exact .refl s
  · exact .refl s
  · exact .pair <| Upholds.settle ((Upholds.refl s).stock)

@[simp] theorem clearOpening_stock (s : State) : (clearOpening s).stock = s.stock := rfl

theorem doLeaveHold_upholds (x : Unit) (s : State) : Upholds s (doLeaveHold x s).2 := by
  unfold doLeaveHold
  split
  · exact .refl s
  · exact .pair <| Upholds.settle ((Upholds.refl s).stock)

theorem doOpenSafe_upholds (q : OpenSafeReq) (s : State) : Upholds s (doOpenSafe q s).2 := by
  unfold doOpenSafe
  (repeat' split) <;> dsimp only [no, noBook] <;> first
    | with_reducible exact .refl s
    | exact Upholds.settle ((Upholds.refl s).stock)

theorem doCloseSafe_upholds (x : Unit) (s : State) : Upholds s (doCloseSafe x s).2 := by
  unfold doCloseSafe
  split
  · exact .refl s
  · exact .pair <| Upholds.settle ((Upholds.refl s).stock)
  · exact .pair <| Upholds.settle ((Upholds.refl s).stock)
  · exact .pair <| Upholds.settle ((Upholds.refl s).stock)
  · exact (Upholds.refl s).stock (setSafe_stock ..)

theorem doSetClock_upholds (v : Nat) (s : State) : Upholds s (doSetClock v s).2 := by
  unfold doSetClock
  (repeat' split) <;> dsimp only [no, noBook] <;> first
    | with_reducible exact .refl s
    | exact (Upholds.refl s).stock

theorem doClearFaultRecord_upholds (x : Unit) (s : State) : Upholds s (doClearFaultRecord x s).2 :=
  (Upholds.refl s).stock rfl

theorem doGetStatus_upholds (x : Unit) (s : State) : Upholds s (doGetStatus x s).2 := (Upholds.refl s).stock rfl

theorem doRestart_upholds (x : Unit) (s : State) : Upholds s (doRestart x s).2 := by
  unfold doRestart
  split <;> exact .refl s

end Sys2Proof.Machine
end

section
/-! Starts uphold the laws of the recycler, and so does every command: O15. -/

-- One theorem at a time: the whole text holds more theorems than the check has room for threads.
set_option Elab.async false

namespace Sys2Proof.Machine

variable {r s t : State}

theorem collect_stock {f : State → State} (hf : ∀ u, (f u).stock = u.stock) (s : State) : (collect f s).1.stock = s.stock :=
  hf _

theorem collectEach_stock {f : Nat → State → State} (hf : ∀ n u, (f n u).stock = u.stock) (l : List Nat) (s : State) :
    (collectEach f l s).1.stock = s.stock := by
  induction l generalizing s with
  | nil => rfl
  | cons n l ih => exact (ih _).trans (collect_stock (hf n) s)

@[simp] theorem startBook_stock (s : State) : (startBook s).stock = s.stock := rfl

@[simp] theorem startLot_stock (n : Nat) (s : State) : (startLot n s).stock = s.stock := by
  unfold startLot; (repeat' split) <;> simp

theorem startCountUnit_stock_lots (s : State) : (collectEach startLot (List.range 64) s).1.stock = s.stock :=
  collectEach_stock startLot_stock _ s

theorem Upholds.startCountUnit (h : Upholds r s) : Upholds r (startCountUnit s).1 := by
  have h1 := h.stock (startCountUnit_stock_lots s)
  unfold Machine.startCountUnit
  dsimp only
  generalize (collectEach startLot (List.range 64) s).1 = u at h1 ⊢
  exact h1.stock (each_stock voidRelease_stock _ _)

@[simp] theorem startRecycler_stock (s : State) : (startRecycler s).stock = s.stock := rfl

/-- A start pauses an ACTIVE evacuation, which keeps its pair (R169). -/
@[simp] theorem startEvacuation_stock (s : State) : (startEvacuation s).stock = s.stock := by
  unfold startEvacuation
  split
  · next hst =>
    exact setEvac_stock_of_pair ((evacPair_of_running (.inr rfl)).trans (evacPair_of_running (.inl hst)).symm) rfl
  · simp
  · rfl
  · rfl

theorem startCuts_stock (l : List Nat) (s : State) : (startCuts l s).1.stock = s.stock := by
  induction l generalizing s with
  | nil => rfl
  | cons d l ih => exact (ih _).trans (cutEntries_stock d s)

@[simp] theorem startBuild_stock (k : Nat) (l : List Nat) (s : State) : (startBuild k l s).stock = s.stock := by
  unfold startBuild
  split
  · rfl
  · dsimp only
    split <;> simp

@[simp] theorem startCancelling_stock (k : Nat) (s : State) : (startCancelling k s).stock = s.stock := by
  unfold startCancelling; (repeat' split) <;> simp

theorem startDesk_stock (s : State) : (startDesk s).1.stock = s.stock := by
  unfold startDesk
  dsimp only
  rw [each_stock startCancelling_stock, setTrayOwner_stock, collectEach_stock fun k u => startBuild_stock k _ u, startCuts_stock]

@[simp] theorem startCons_stock (k : Nat) (s : State) : (startCons k s).stock = s.stock := by
  unfold startCons
  split
  · rfl
  · split
    · split <;> simp
    · split <;> simp
    · split <;> simp
    · simp

@[simp] theorem startDoor_stock (d : Door) (s : State) : (startDoor d s).stock = s.stock := by
  unfold startDoor; split <;> simp

@[simp] theorem startSafe_stock (s : State) : (startSafe s).stock = s.stock := by
  unfold startSafe; dsimp only; split <;> simp

@[simp] theorem startMode_stock (s : State) : (startMode s).stock = s.stock := by unfold startMode; split <;> simp

theorem Upholds.started (h : Upholds r s) : Upholds r (started s) := by
  have h1 : Upholds r (Machine.startCountUnit (startBook s)).1 := (h.stock (startBook_stock s)).startCountUnit
  unfold Machine.started
  generalize (Machine.startCountUnit (startBook s)).1 = u at h1 ⊢
  have h2 : Upholds r (startDesk (Machine.startEvacuation (startRecycler u))).1 :=
    h1.stock (by rw [startDesk_stock, startEvacuation_stock, startRecycler_stock])
  generalize (startDesk (Machine.startEvacuation (startRecycler u))).1 = u2 at h2 ⊢
  have h3 : Upholds r (collectEach startCons consignmentSlots
      (u2.setDoors ⟨u2.doors.office.start, u2.doors.courier.start, false, false, none⟩)).1 :=
    h2.stock (by rw [collectEach_stock startCons_stock, setDoors_stock])
  dsimp only
  generalize (collectEach startCons consignmentSlots _).1 = u3 at h3 ⊢
  have h4 : Upholds r (collect (fun s => startSafe (startDoor .courier (startDoor .office s))) (startMode u3)).1 :=
    h3.stock (by rw [collect_stock (by simp), startMode_stock])
  generalize (collect _ (startMode u3)).1 = u4 at h4 ⊢
  exact h4.stock rfl

/-- Steps 4 to 6 of R209. -/
theorem Upholds.startFrom {a b : Bool} {f : Nat → ModState} (h : Upholds r s) : Upholds r (startFrom a b f s) := by
  obtain ⟨l, e⟩ := startFrom_eq a b f s
  rw [e]
  exact (Upholds.settle (h.started.stock (notifyAll_stock ..))).stock (transmit_stock _)

theorem Upholds.stopLink (h : Upholds r s) : Upholds r (stopLink s) := by
  obtain ⟨-, -, e⟩ | ⟨-, e⟩ := stopLink_cases s <;> rw [e]
  · exact h.startFrom
  · exact h

@[simp] theorem restartSent_stock (c : Nat) (x : Status) (s : State) : (restartSent c x s).stock = s.stock := by
  unfold restartSent; split <;> rfl

theorem Upholds.replySent (h : Upholds r s) : Upholds r (replySent s) := by
  unfold Machine.replySent
  dsimp only
  split
  · split
    · exact h.stock (by rw [catchUp_stock, dropEntries_stock]; rfl)
    · exact h.stock rfl
  · exact h.stock rfl

theorem Upholds.frameDone {f : Frame} (h : Upholds r s) : Upholds r (frameDone f s) := by
  have h1 : Upholds r { s with link := { s.link with onLine := none, lastSent := [f] } } := h.stock rfl
  unfold Machine.frameDone
  revert h1
  generalize ({ s with link := { s.link with onLine := none, lastSent := [f] } } : State) = u
  intro h1
  dsimp only
  split
  · have h2 : ∀ c x, Upholds r (restartSent c x (Machine.replySent u)) := fun c x =>
      h1.replySent.stock (restartSent_stock ..)
    exact (h2 _ _).stopLink
  · have h2 : Upholds r (busySent u) := h1.stock rfl
    exact h2.stopLink
  · exact h1.stock rfl

/-! ### A lost store, R24 -/

/-- Every position of the store-loss book holds nothing. -/

theorem storeLoss_stock (s : State) : (storeLoss s).stock = State.reset.stock := rfl

/-- A start with a lost store begins within the laws, as reset does. -/
theorem powerUp_upholds (good : Bool) (s : State) : Upholds s (powerUp good s) := by
  cases good with
  | true => exact (Upholds.refl s).startFrom
  | false =>
    have hreset : Upholds s (storeLoss s) := by
      refine ⟨fun _ => ?_, fun _ => ?_⟩ <;> rw [storeLoss_stock]
      · exact recyclerLaw_iff.mp recyclerLaw_reset
      · exact bucketLaw_iff.mp bucketLaw_reset
    exact hreset.startFrom

end Sys2Proof.Machine
end

section
/-! The whole command set: every step keeps the laws of the recycler (O15). -/

-- One theorem at a time: the whole text holds more theorems than the check has room for threads.
set_option Elab.async false

namespace Sys2Proof.Machine

variable {r s t : State} {g : Nat}

/-! ### Commands that are not plain requests -/

theorem Upholds.of_state (h : t = s) : Upholds s t := h ▸ .refl s

theorem execFetchPostings_upholds (b : Body Nat) (s : State) : ∃ t, execFetchPostings g b s = .next t ∧ Upholds s t := by
  have h := Upholds.request (c := 22) (g := g) (b := b) doFetchPostings_upholds s
  unfold execFetchPostings
  dsimp only
  (repeat' split) <;> exact ⟨_, rfl, h.stock⟩

theorem unknownRequest_upholds (c : Nat) (s : State) : ∃ t, execUnknownRequest c g s = .next t ∧ Upholds s t := by
  refine ⟨_, rfl, ?_⟩
  split
  · exact .refl s
  · exact Upholds.request (fun _ u => .refl u) s

theorem linkBusy_upholds (c : Nat) (s : State) : ∃ t, execLinkBusy c g s = .next t ∧ Upholds s t := by
  refine ⟨_, rfl, ?_⟩
  split
  · exact (Upholds.refl s).stock
  · exact .refl s

theorem clockTick_upholds (s : State) : ∃ t, execClockTick s = .next t ∧ Upholds s t := by
  refine ⟨_, rfl, ?_⟩
  split <;> exact (Upholds.refl s).stock

/-- A reading of a sensor, kept without power and acted on with it. -/
theorem reading_upholds {f g : State → State} (hf : Upholds s (f s)) (hg : Upholds s (g s)) :
    Upholds s (match s.powered with | false => f s | true => transmit (g s)) := by
  cases s.powered
  · exact hf
  · exact hg.stock

theorem frameSent_upholds (s : State) : ∃ t, execFrameSent s = .next t ∧ Upholds s t := by
  refine ⟨_, rfl, Upholds.event ?_⟩
  split
  · exact (Upholds.refl s).frameDone
  · exact .refl s

theorem powerOn_upholds (b : Bool) (s : State) : ∃ t, execPowerOn b s = .next t ∧ Upholds s t := by
  refine ⟨_, rfl, ?_⟩
  cases s.powered
  · exact powerUp_upholds b s
  · exact .refl s

/-! ### Every command -/

theorem exec_upholds (c : Instr) (s : State) : ∃ t, exec c s = .next t ∧ Upholds s t := by
  have h := Upholds.refl s
  cases c with
  -- Book unit
  | setDenomination tag body => exact ⟨_, rfl, Upholds.request doSetDenomination_upholds s⟩
  | clearDenomination tag body => exact ⟨_, rfl, Upholds.request doClearDenomination_upholds s⟩
  | queryStock tag body => exact ⟨_, rfl, Upholds.request (fun _ u => .refl u) s⟩
  | queryPosition tag body => exact ⟨_, rfl, Upholds.request doQueryPosition_upholds s⟩
  | postPosition tag body => exact ⟨_, rfl, Upholds.request doPostPosition_upholds s⟩
  | setPostingMode tag body => exact ⟨_, rfl, Upholds.request doSetPostingMode_upholds s⟩
  | fetchPostings tag body => exact execFetchPostings_upholds body s
  | adjustPosition tag body => exact ⟨_, rfl, Upholds.request doAdjustPosition_upholds s⟩
  | opening tag body => exact ⟨_, rfl, Upholds.request doOpening_upholds s⟩
  -- Till desk
  | setTemplate tag body => exact ⟨_, rfl, Upholds.request doSetTemplate_upholds s⟩
  | buildFloat tag body => exact ⟨_, rfl, Upholds.request doBuildFloat_upholds s⟩
  | floatHanded tag body => exact ⟨_, rfl, Upholds.request doFloatHanded_upholds s⟩
  | acceptShort tag body => exact ⟨_, rfl, Upholds.request doAcceptShort_upholds s⟩
  | rebuild tag body => exact ⟨_, rfl, Upholds.request doRebuild_upholds s⟩
  | cancelBuild tag body => exact ⟨_, rfl, Upholds.request doCancelBuild_upholds s⟩
  | queryBuilds tag body => exact ⟨_, rfl, Upholds.request (fun _ u => .refl u) s⟩
  | reportSales tag body => exact ⟨_, rfl, Upholds.request doReportSales_upholds s⟩
  | acceptVariance tag body => exact ⟨_, rfl, Upholds.request doAcceptVariance_upholds s⟩
  | closeTill tag body => exact ⟨_, rfl, Upholds.request doCloseTill_upholds s⟩
  | queryTill tag body => exact ⟨_, rfl, Upholds.request (fun q u => .of_state (doQueryTill_state q u)) s⟩
  -- Count unit
  | setLine tag body => exact ⟨_, rfl, Upholds.request doSetLine_upholds s⟩
  | resetStation tag body => exact ⟨_, rfl, Upholds.request doResetStation_upholds s⟩
  | stationQuery tag body => exact ⟨_, rfl, Upholds.request doStationQuery_upholds s⟩
  | startCount tag body => exact ⟨_, rfl, Upholds.request doStartCount_upholds s⟩
  | declareCoin tag body => exact ⟨_, rfl, Upholds.request doDeclareCoin_upholds s⟩
  | setCoinLimit tag body => exact ⟨_, rfl, Upholds.request doSetCoinLimit_upholds s⟩
  | acceptCount tag body => exact ⟨_, rfl, Upholds.request doAcceptCount_upholds s⟩
  | rejectCount tag body => exact ⟨_, rfl, Upholds.request doRejectCount_upholds s⟩
  | voidLot tag body => exact ⟨_, rfl, Upholds.request doVoidLot_upholds s⟩
  | resumeDisposal tag body => exact ⟨_, rfl, Upholds.request doResumeDisposal_upholds s⟩
  | disposeLotReserve tag body => exact ⟨_, rfl, Upholds.request doDisposeLotReserve_upholds s⟩
  | queryLot tag body => exact ⟨_, rfl, Upholds.request (fun q u => .of_state (doQueryLot_state q u)) s⟩
  | queryJobs tag body => exact ⟨_, rfl, Upholds.request (fun _ u => .refl u) s⟩
  -- Recycler controller
  | setCassette tag body => exact ⟨_, rfl, Upholds.request doSetCassette_upholds s⟩
  | insertCassette tag body => exact ⟨_, rfl, Upholds.request doInsertCassette_upholds s⟩
  | removeCassette tag body => exact ⟨_, rfl, Upholds.request doRemoveCassette_upholds s⟩
  | setRoute tag body => exact ⟨_, rfl, Upholds.request doSetRoute_upholds s⟩
  | queryRecycler tag body => exact ⟨_, rfl, Upholds.request (fun _ u => .refl u) s⟩
  | setArbiter tag body => exact ⟨_, rfl, Upholds.request doSetArbiter_upholds s⟩
  | openFloatWindow tag body => exact ⟨_, rfl, Upholds.request doOpenFloatWindow_upholds s⟩
  | closeFloatWindow tag body => exact ⟨_, rfl, Upholds.request doCloseFloatWindow_upholds s⟩
  | queryArbiter tag body => exact ⟨_, rfl, Upholds.request (fun _ u => .refl u) s⟩
  | setFaultPolicy tag body => exact ⟨_, rfl, Upholds.request doSetFaultPolicy_upholds s⟩
  | clearBucket tag body => exact ⟨_, rfl, Upholds.request doClearBucket_upholds s⟩
  | setEvacuation tag body => exact ⟨_, rfl, Upholds.request doSetEvacuation_upholds s⟩
  | startEvacuation tag body => exact ⟨_, rfl, Upholds.request doStartEvacuation_upholds s⟩
  | queryEvacuation tag body => exact ⟨_, rfl, Upholds.request (fun _ u => .refl u) s⟩
  -- Bay controller
  | openBag tag body => exact ⟨_, rfl, Upholds.request doOpenBag_upholds s⟩
  | fillBag tag body => exact ⟨_, rfl, Upholds.request doFillBag_upholds s⟩
  | closeBag tag body => exact ⟨_, rfl, Upholds.request doCloseBag_upholds s⟩
  | discardContainer tag body => exact ⟨_, rfl, Upholds.request doDiscardContainer_upholds s⟩
  | createConsignment tag body => exact ⟨_, rfl, Upholds.request doCreateConsignment_upholds s⟩
  | addItem tag body => exact ⟨_, rfl, Upholds.request doAddItem_upholds s⟩
  | stage tag body => exact ⟨_, rfl, Upholds.request doStage_upholds s⟩
  | engage tag body => exact ⟨_, rfl, Upholds.request doEngage_upholds s⟩
  | retrieve tag body => exact ⟨_, rfl, Upholds.request doRetrieve_upholds s⟩
  | lockBay tag body => exact ⟨_, rfl, Upholds.request doLockBay_upholds s⟩
  | abort tag body => exact ⟨_, rfl, Upholds.request doAbort_upholds s⟩
  | setDoorLimit tag body => exact ⟨_, rfl, Upholds.request doSetDoorLimit_upholds s⟩
  | queryContainer tag body => exact ⟨_, rfl, Upholds.request (fun q u => .of_state (doQueryContainer_state q u)) s⟩
  | queryConsignment tag body => exact ⟨_, rfl, Upholds.request (fun q u => .of_state (doQueryConsignment_state q u)) s⟩
  | queryBay tag body => exact ⟨_, rfl, Upholds.request (fun _ u => .refl u) s⟩
  -- Office control
  | enterHold tag body => exact ⟨_, rfl, Upholds.request doEnterHold_upholds s⟩
  | leaveHold tag body => exact ⟨_, rfl, Upholds.request doLeaveHold_upholds s⟩
  | setRosterEntry tag body => exact ⟨_, rfl, Upholds.request doSetRosterEntry_upholds s⟩
  | openSafe tag body => exact ⟨_, rfl, Upholds.request doOpenSafe_upholds s⟩
  | closeSafe tag body => exact ⟨_, rfl, Upholds.request doCloseSafe_upholds s⟩
  | setSafeRelock tag body => exact ⟨_, rfl, Upholds.request doSetSafeRelock_upholds s⟩
  | setClock tag body => exact ⟨_, rfl, Upholds.request doSetClock_upholds s⟩
  | clearFaultRecord tag body => exact ⟨_, rfl, Upholds.request doClearFaultRecord_upholds s⟩
  -- Link unit
  | getStatus tag body => exact ⟨_, rfl, Upholds.request doGetStatus_upholds s⟩
  | restart tag body => exact ⟨_, rfl, Upholds.request doRestart_upholds s⟩
  | unknownRequest code tag => exact unknownRequest_upholds code s
  | linkBusy code tag => exact linkBusy_upholds code s
  | droppedFrame reason => exact ⟨_, rfl, Upholds.event h.stock⟩
  | byteGapTimeout => exact ⟨_, rfl, Upholds.event h.stock⟩
  | lineBreak => exact ⟨_, rfl, Upholds.event h.stock⟩
  | frameSent => exact frameSent_upholds s
  -- Power and time
  | powerOn storeGood => exact powerOn_upholds storeGood s
  | powerLoss => exact ⟨_, rfl, h.stock rfl⟩
  | clockTick => exact clockTick_upholds s
  | windowOpen consignment => exact ⟨_, rfl, Upholds.event h.stock⟩
  | windowClose consignment => exact ⟨_, rfl, Upholds.event h.stock⟩
  | floatWindowExpiry => exact ⟨_, rfl, Upholds.event h.stock⟩
  | heldOpen door => exact ⟨_, rfl, Upholds.event h.stock⟩
  | courierDoorTimeout => exact ⟨_, rfl, Upholds.event h.courierLate⟩
  | relockTime => exact ⟨_, rfl, Upholds.event h.relockDue⟩
  -- Safe and bay sensors and readers
  | safeSensorOpen => exact ⟨_, rfl, reading_upholds h.stock h.safeReadsOpen⟩
  | safeSensorClosed => exact ⟨_, rfl, reading_upholds h.stock h.safeReadsClosed⟩
  | officeDoorOpened => exact ⟨_, rfl, reading_upholds h.stock h.stock⟩
  | officeDoorClosed =>
    exact ⟨_, rfl, reading_upholds (g := fun u => bayAfter (sensorClosed .office u)) (h.stock (doorReading_stock ..)) h.stock⟩
  | courierDoorOpened => exact ⟨_, rfl, reading_upholds h.stock h.stock⟩
  | courierDoorClosed => exact ⟨_, rfl, reading_upholds h.stock h.courierCloses⟩
  | officeSideRead number => exact ⟨_, rfl, Upholds.event h.stock⟩
  | courierSideRead number => exact ⟨_, rfl, Upholds.event h.courierRead⟩
  -- Station line
  | pollCycle => exact ⟨_, rfl, Upholds.event h.stock⟩
  | attachMark => exact ⟨_, rfl, Upholds.event h.stock⟩
  | recordSent signals => exact ⟨_, rfl, Upholds.event (h.inTurn fun _ => by simp)⟩
  | replyTimeout => exact ⟨_, rfl, Upholds.event (h.inTurn fun _ => by simp)⟩
  | recordGapTimeout signals => exact ⟨_, rfl, Upholds.event (h.inTurn fun _ => by simp)⟩
  | failedRecord signals => exact ⟨_, rfl, Upholds.event (h.inTurn fun _ => by simp)⟩
  | stationState station signals mech stack => exact ⟨_, rfl, Upholds.event (h.inTurn fun x =>
      fromStation_stock _ _ (fun x u => goodState_stock _ _ x u) x s)⟩
  | reportHead station signals head => exact ⟨_, rfl, Upholds.event (h.inTurn fun x =>
      fromStation_stock _ _ (fun _ _ => by simp) x s)⟩
  | reportItem station signals item => exact ⟨_, rfl, Upholds.event (h.inTurn fun x =>
      fromStation_stock _ _ (fun _ _ => by simp) x s)⟩
  | reportEnd station signals last => exact ⟨_, rfl, Upholds.event (h.inTurn fun x =>
      fromStation_stock _ _ (fun _ _ => by simp) x s)⟩
  | reportQuietTimeout => exact ⟨_, rfl, Upholds.event (h.inTurn fun _ => by simp)⟩
  | reportRecordTimeout => exact ⟨_, rfl, Upholds.event (h.inTurn fun _ => by simp)⟩
  -- Recycler mechanism
  | noteRead point reading => exact ⟨_, rfl, Upholds.event h.readNote⟩
  | noteArrived dest => exact ⟨_, rfl, Upholds.event h.noteArrives⟩
  | misfeed point => exact ⟨_, rfl, Upholds.event (.ite h.misfeedAt.settle h)⟩
  | doublePick point => exact ⟨_, rfl, Upholds.event (.ite h.doubleAt.settle h)⟩
  | jam point => exact ⟨_, rfl, Upholds.event h.jamAt.settle⟩
  | moduleFault module => exact ⟨_, rfl, Upholds.event (Upholds.settle h.stock)⟩
  | moduleFaultCleared module => exact ⟨_, rfl, Upholds.event h.stock⟩
  | headEmpty i => exact ⟨_, rfl, Upholds.event h.headEmpties⟩
  | headLoaded i => exact ⟨_, rfl, Upholds.event h.stock⟩
  | tagCheckDone module tags => exact ⟨_, rfl, Upholds.event (h.tagsRead module.isLt)⟩
  | purgeEnded clear notes => exact ⟨_, rfl, Upholds.event h.purgeOver⟩

/-- Every step keeps the laws of the recycler and the bounds of the buckets. -/
theorem step_upholds (ht : step s = .next t) : Upholds s t := by
  unfold step at ht
  split at ht
  · rw [← Host.Outcome.next.inj ht]
    exact (Upholds.refl s).idle
  · next c rest _ =>
    obtain ⟨u, hu, hk⟩ := exec_upholds c { s with pending := rest }
    rw [hu] at ht
    rw [← Host.Outcome.next.inj ht]
    exact ((Upholds.refl s).stock rfl : Upholds s { s with pending := rest }).trans hk

/-! ### Placement, R134, R159 -/

/-- A note is placed into an eligible way. -/
theorem wayEligible_of_placeIn {d k i c n : Nat} {l : List Range} (h : s.placeIn d n l = some (k, i, c)) :
    s.wayEligible d c = true := by
  induction l generalizing n with
  | nil => cases h
  | cons x l ih =>
    unfold State.placeIn at h
    split at h
    · cases h
    split at h
    · next j hj =>
      have hway := List.find?_some hj
      split at h
      · next q hq =>
        cases h
        rw [hq] at hway
        exact hway
      · cases h
    · exact ih h

/-- No note is placed into a cassette whose bucket has reached the threshold: it would carry AT_THRESHOLD. -/
theorem bucket_lt_of_wayEligible {d c : Nat} (hl : s.thresholdLaw) (h : s.wayEligible d c = true) :
    (s.cassette c).bucket < s.evac.threshold := by
  simp only [State.wayEligible, CasRec.noFlags, Bool.and_eq_true, Bool.or_eq_true, decide_eq_true_eq, Bool.not_eq_true'] at h
  obtain ⟨⟨⟨⟨⟨hpres, hrole⟩, -⟩, ⟨⟨⟨hflag, -⟩, -⟩, -⟩, -⟩, -⟩, -⟩ := h
  obtain ⟨-, hlaw⟩ := hl
  by_contra hge
  have hset := hlaw c (Stock.lt_of_present (x := s.stock) hpres) hpres (by rintro hr; rw [hr] at hrole; simp at hrole)
    (Nat.le_of_not_lt hge)
  exact Bool.false_ne_true (hflag.symm.trans hset)

end Sys2Proof.Machine

open Sys2Proof Sys2Proof.Machine

/-- Settles O15: every operation of the model upholds the laws on the stock of the recycler, or leaves that stock. -/
theorem stepKeepsFaultBuckets : Obligations.StepKeepsFaultBuckets := by
  refine ⟨fun s t hs ht => ?_, fun s t hs ht => ?_, fun s d g k i c hs hp => ?_⟩
  · exact bucketLaw_iff.mpr ((step_upholds ht).bounded (bucketLaw_iff.mp hs))
  · exact recyclerLaw_iff.mpr ((step_upholds ht).lawful (recyclerLaw_iff.mp hs))
  · exact bucket_lt_of_wayEligible hs (wayEligible_of_placeIn hp)

end

section
/-! The settings of the arbiter and of the evacuation: what each of their requests stores (O44). -/

-- One theorem at a time: the whole text holds more theorems than the check has room for threads.
set_option Elab.async false

namespace Sys2Proof.Machine

variable {s : State}

/-- Settings within their ranges are stored, the run length clamped and the limit held to the ceiling, and the deposit
account comes down to a lower ceiling. -/
theorem doSetArbiter_stores {q : SetArbiterReq} {p : Preemption} (hm : s.office.mode = .hold) (hp : q.preemption = some p)
    (hq : arbiterOk q = true) :
    let r : ArbSettings := ⟨clamp 10 50 q.runLength, q.ratio, q.decr, Nat.min q.limit q.clip, q.clip, q.patience, p⟩
    doSetArbiter q s = (okReply (settingFields r),
      s.setArbiter { s.arbiter with settings := r, account := Nat.min s.arbiter.account q.clip }) := by
  unfold doSetArbiter
  rw [if_neg (not_not_intro hm), hp]
  dsimp only
  rw [if_neg (by simp [hq])]

theorem doOpenFloatWindow_opens {n : Nat} (h1 : 60 ≤ n) (h2 : n ≤ 7200) :
    doOpenFloatWindow n s = (okReply [], settle (s.setArbiter { s.arbiter with window := some n })) :=
  if_neg (by omega)

/-- A threshold within its range is stored with the clamped leak figure, and AT_THRESHOLD set where it is now due. -/
theorem doSetFaultPolicy_stores {n k : Nat} (hm : s.office.mode = .hold) (h1 : 1 ≤ n) (h2 : n ≤ 255) :
    doSetFaultPolicy ⟨n, k⟩ s = (okReply [u1 n, u2 (clamp 50 1000 k)], settle (State.each dueThreshold allCassettes
      (s.setEvac { s.evac with threshold := n, leakNotes := clamp 50 1000 k }))) := by
  unfold doSetFaultPolicy
  rw [if_neg (not_not_intro hm), if_neg (by dsimp only; omega)]

theorem doSetEvacuation_stores {m : Nat} {e : Bool} (h : m ≤ 1) : doSetEvacuation ⟨m, some e⟩ s =
    (okReply [], settle (s.setEvac { s.evac with enables := s.evac.enables.set m e })) :=
  if_neg (Nat.not_lt.mpr h)

end Sys2Proof.Machine

open Sys2Proof Sys2Proof.Machine

/-- Settles O44: no range check holds the request back, and the stored values are those clamped. -/
theorem spineSettingsAreStored : Obligations.SpineSettingsAreStored := by
  intro tag s hs
  refine ⟨fun q p hm hp h1 h2 h3 h4 h5 h6 => ?_, fun n h1 h2 => ?_, ?_, fun n k hm h1 h2 => ?_, fun m e h => ?_⟩
  · exact exec_ready hs rfl (doSetArbiter_stores (s := heard s) hm hp (by simp [arbiterOk, h1, h2, h3, h4, h5, h6]))
  · exact exec_ready hs rfl (doOpenFloatWindow_opens (s := heard s) h1 h2)
  · exact exec_ready (f := doCloseFloatWindow) hs rfl rfl
  · exact exec_ready hs rfl (doSetFaultPolicy_stores (s := heard s) hm h1 h2)
  · exact exec_ready hs rfl (doSetEvacuation_stores (s := heard s) h)

end

section
/-! The one-second timebase and the times that CLOCK TICK and its own rows end (O53). -/

-- One theorem at a time: the whole text holds more theorems than the check has room for threads.
set_option Elab.async false

namespace Sys2Proof.Machine

variable {s : State}

/-! ### CLOCK TICK, R199 -/

/-- The clock and every open timer one second on. -/
theorem tickTimers_tickClock (s : State) : tickTimers (tickClock s) = { s with
    office := { s.office with
      clock := if s.office.clock ≥ 4294967295 then 0 else s.office.clock + 1
      safe := { s.office.safe with timer := s.office.safe.timer.map (· - 1) } }
    arbiter := { s.arbiter with window := (s.arbiter.window.map (· - 1)).filter (0 < ·) }
    doors := { s.doors with
      office := { s.doors.office with openTime := s.doors.office.openTime.map (· + 1) }
      courier := { s.doors.courier with openTime := s.doors.courier.openTime.map (· + 1) }
      courierTimer := s.doors.courierTimer.map (· - 1) } } := by
  unfold tickClock Config.top32
  rfl

theorem execClockTick_on (hp : s.powered = true) :
    execClockTick s = .next (transmit (examineWindows (tickTimers (tickClock s)))) := by
  rw [execClockTick, hp]

/-! ### Consignment windows, R180 -/

/-- A consignment that takes another state than its own sends CONSIGNMENT_STATE. -/
theorem enterCons_changes {k : Nat} {c : ConsRec} {st : ConsState} (hc : s.consignment k = some c) (h : c.state ≠ st) :
    enterCons k st s = notify (.consignmentState k c.kind c.route st c.state c.items.length c.doneCount)
      (s.setConsignment k (some { c with state := st })) := by
  unfold enterCons
  rw [hc]
  exact if_neg h

theorem examineWindow_free {k : Nat} (hc : s.consignment k = none) : examineWindow k s = s := by
  rw [examineWindow, hc]

section
variable {k : Nat} {c : ConsRec} (hc : s.consignment k = some c)
include hc

theorem examineWindow_expires (hst : c.state = .staged ∨ c.state = .waiting) (hclose : c.windowClose ≤ s.clock) :
    examineWindow k s = notify (.consignmentState k c.kind c.route .expired c.state c.items.length c.doneCount)
      (s.setConsignment k (some { c with state := .expired })) := by
  have hne : c.state ≠ .expired := by rintro h; rw [h] at hst; simp at hst
  unfold examineWindow
  rw [hc]
  dsimp only
  rw [if_pos ⟨hst, hclose⟩, enterCons_changes hc hne]

theorem examineWindow_opens (hst : c.state = .staged) (hopen : c.windowOpen ≤ s.clock) (hclose : s.clock < c.windowClose) :
    examineWindow k s = notify (.consignmentState k c.kind c.route .waiting .staged c.items.length c.doneCount)
      (s.setConsignment k (some { c with state := .waiting })) := by
  have hne : c.state ≠ .waiting := by rw [hst]; decide
  unfold examineWindow
  rw [hc]
  dsimp only
  rw [if_neg fun h => Nat.not_le.mpr hclose h.2, if_pos ⟨hst, hopen⟩, enterCons_changes hc hne, hst]

/-- Where neither end of the window is reached, the examination changes nothing. -/
theorem examineWindow_keeps (h : c.state ≠ .staged ∧ c.state ≠ .waiting ∨
      c.state = .staged ∧ s.clock < c.windowOpen ∧ s.clock < c.windowClose ∨ c.state = .waiting ∧ s.clock < c.windowClose) :
    examineWindow k s = s := by
  have hclosed : ¬((c.state = .staged ∨ c.state = .waiting) ∧ c.windowClose ≤ s.clock) := by
    rintro ⟨hst, hle⟩
    obtain ⟨h1, h2⟩ | ⟨-, -, hlt⟩ | ⟨-, hlt⟩ := h
    · exact hst.elim h1 h2
    · exact Nat.not_le.mpr hlt hle
    · exact Nat.not_le.mpr hlt hle
  have hopened : ¬(c.state = .staged ∧ c.windowOpen ≤ s.clock) := by
    rintro ⟨hst, hle⟩
    obtain ⟨h1, -⟩ | ⟨-, hlt, -⟩ | ⟨hw, -⟩ := h
    · exact h1 hst
    · exact Nat.not_le.mpr hlt hle
    · exact absurd (hst.symm.trans hw) (by decide)
  unfold examineWindow
  rw [hc]
  dsimp only
  rw [if_neg hclosed, if_neg hopened]

end

/-! ### Doors, R182, R185 -/

/-- A door that is shut, or open within the limit, or whose alarm stands already, raises nothing. -/
theorem checkHeld_keeps {d : Door} (h : (s.door d).heldOpen = true ∨ (s.door d).openTime = none ∨
    ∃ n, (s.door d).openTime = some n ∧ n ≤ s.bay.doorLimit) : checkHeld d s = s := by
  unfold checkHeld State.heldTooLong raiseHeldOpen
  obtain h | h | ⟨n, h, hn⟩ := h
  · rw [if_pos h, ite_self]
  · rw [h]; rfl
  · rw [h]
    exact if_neg (by simpa using hn)

theorem checkHeld_raises {d : Door} {n : Nat} (ht : (s.door d).openTime = some n) (hn : s.bay.doorLimit < n)
    (h : (s.door d).heldOpen = false) : checkHeld d s = handFault (doorSource d) .heldOpen
      (notify (.doorAlarm (alarmDoor d) .heldOpen s.clock) (s.setDoor d { s.door d with heldOpen := true })) := by
  have hlong : s.heldTooLong d = true := by simp [State.heldTooLong, ht, hn]
  rw [checkHeld, if_pos hlong, raiseHeldOpen, if_neg (by simp [h])]

/-- A courier door that reads CLOSED locks at once. -/
theorem lockCourier_shut (h : s.doors.courier.sensorOpen = false) : lockCourier s = s.setDoors { s.doors with
    courier := { s.doors.courier with locked := true, lockDue := false }, courierTimer := none } := by
  unfold lockCourier
  dsimp only
  rw [if_neg (by simp [h])]

theorem courierLate_keeps (h : s.doors.courierTimer ≠ some 0 ∨ s.doors.courier.sensorOpen = true ∨
    s.consIn .engaged = none) : courierLate s = s := by
  unfold courierLate
  obtain h | h | h := h
  · exact if_neg fun hc => h hc.1
  · exact if_neg fun hc => by simp [h] at hc
  · rw [h, ite_self]

theorem courierLate_ends {k : Nat} {c : ConsRec} (ht : s.doors.courierTimer = some 0)
    (ho : s.doors.courier.sensorOpen = false) (hk : s.consIn .engaged = some k) (hc : s.consignment k = some c) :
    courierLate s = settle (bayAfter (examineWindow k (enterCons k (c.returnState.getD .waiting) (s.setDoors { s.doors with
      courier := { s.doors.courier with locked := true, lockDue := false }, courierTimer := none })))) := by
  unfold courierLate
  rw [if_pos ⟨ht, by simp [ho]⟩, hk]
  dsimp only
  rw [hc]
  dsimp only
  rw [engageTimedOut, lockCourier_shut ho]

end Sys2Proof.Machine

open Sys2Proof Sys2Proof.Machine

/-- Settles O53: each row finds its time passed in the state, and acts, or not yet. -/
theorem timeEndsWhatItShould : Obligations.TimeEndsWhatItShould := by
  intro s hp
  have hopen := fun (k : Fin 8) (t : State) => exec_event (i := .windowOpen k) (t := t) (examineWindow k) hp rfl
  have hclose := fun (k : Fin 8) (t : State) => exec_event (i := .windowClose k) (t := t) (examineWindow k) hp rfl
  have hwindow := fun t : State => exec_event (i := .floatWindowExpiry) (t := t) windowOver hp rfl
  have hheld := fun (d : Door) (t : State) => exec_event (i := .heldOpen d) (t := t) (checkHeld d) hp rfl
  have hlate := fun t : State => exec_event (i := .courierDoorTimeout) (t := t) courierLate hp rfl
  have hrelock := fun t : State => exec_event (i := .relockTime) (t := t) relockDue hp rfl
  refine ⟨?_, fun k c hc => ⟨fun hst h1 h2 => ?_, fun hst h => ?_, fun h => ?_⟩, fun k hc => ?_, fun h => ?_, fun h => ?_,
    fun d h => ?_, fun d n ht hn h => ?_, fun k c ht ho hk hc => ?_, fun h => ?_, fun h => ?_, fun hst ht => ?_⟩
  · rw [← tickTimers_tickClock]
    exact execClockTick_on hp
  · exact hopen k _ (examineWindow_opens hc hst h1 h2)
  · exact hclose k _ (examineWindow_expires hc hst h)
  · exact ⟨hopen k _ (examineWindow_keeps hc h), hclose k _ (examineWindow_keeps hc h)⟩
  · exact ⟨hopen k _ (examineWindow_free hc), hclose k _ (examineWindow_free hc)⟩
  · exact hwindow _ (if_pos h)
  · exact hwindow _ (if_neg h)
  · exact hheld d _ (checkHeld_keeps h)
  · exact hheld d _ (checkHeld_raises ht hn h)
  · exact hlate _ (courierLate_ends ht ho hk hc)
  · exact hlate _ (courierLate_keeps h)
  · exact hrelock _ (if_neg (by tauto))
  · exact hrelock _ (if_pos ⟨hst, ht⟩)

end

section
/-! The tally of the spine: the deposit account with the settings that bound it (R147, R148), and the state of the evacuation
(R162). Most operations of the model never touch it: said once for each. -/

-- One theorem at a time: the whole text holds more theorems than the check has room for threads.
set_option Elab.async false

namespace Sys2Proof.Machine

variable {s t : State}

/-- The deposit account and the settings of its arithmetic. -/
structure Purse where
  account : Nat
  settings : ArbSettings

/-- The deposit account with its settings, and whether an evacuation is under way. -/
structure Tally where
  purse : Purse
  evac : EvacState

/-- What an operation leaves as it is that neither counts a note, nor sets the arbiter, nor starts or ends an evacuation. -/
def State.tally (s : State) : Tally := ⟨⟨s.arbiter.account, s.arbiter.settings⟩, s.evac.state⟩

/-- The law of the deposit account is about the purse alone. -/
theorem accountLaw_of_purse (h : t.tally.purse = s.tally.purse) (hs : s.accountLaw) : t.accountLaw := by
  have hlaw : s.tally.purse.account ≤ s.tally.purse.settings.clip := hs
  rwa [← h] at hlaw

theorem evac_of_tally (h : t.tally = s.tally) : t.evac.state = s.evac.state := congrArg Tally.evac h

theorem tally_eq (ha : t.arbiter = s.arbiter) (he : t.evac = s.evac) : t.tally = s.tally := by
  rw [State.tally, ha, he]; rfl

/-! ### The records of the tables -/

@[simp] theorem setPosRec_tally (i : Nat) (x : PosRec) (s : State) : (s.setPosRec i x).tally = s.tally := rfl
@[simp] theorem setDenom_tally (i : Nat) (x : DenomRec) (s : State) : (s.setDenom i x).tally = s.tally := rfl
@[simp] theorem setTill_tally (i : Nat) (x : TillRec) (s : State) : (s.setTill i x).tally = s.tally := rfl
@[simp] theorem setBuild_tally (i : Nat) (x : Option Build) (s : State) : (s.setBuild i x).tally = s.tally := rfl
@[simp] theorem setTrayOwner_tally (o : Option Nat) (s : State) : (s.setTrayOwner o).tally = s.tally := rfl
@[simp] theorem setLot_tally (i : Nat) (x : Option LotRec) (s : State) : (s.setLot i x).tally = s.tally := rfl
@[simp] theorem setStation_tally (i : Nat) (x : StationRec) (s : State) : (s.setStation i x).tally = s.tally := rfl
@[simp] theorem setJobs_tally (l : List Nat) (s : State) : (s.setJobs l).tally = s.tally := rfl
@[simp] theorem setModRec_tally (i : Nat) (x : ModRec) (s : State) : (s.setModRec i x).tally = s.tally := rfl
@[simp] theorem setCassette_tally (i : Nat) (x : CasRec) (s : State) : (s.setCassette i x).tally = s.tally := rfl
@[simp] theorem setRanges_tally (i : Nat) (x : List Range) (s : State) : (s.setRanges i x).tally = s.tally := rfl
@[simp] theorem setRun_tally (x : Run) (s : State) : (s.setRun x).tally = s.tally := rfl
@[simp] theorem setPurge_tally (x : Option PurgeCycle) (s : State) : (s.setPurge x).tally = s.tally := rfl
@[simp] theorem setContainer_tally (i : Nat) (x : Option ContRec) (s : State) : (s.setContainer i x).tally = s.tally := rfl
@[simp] theorem setConsignment_tally (i : Nat) (x : Option ConsRec) (s : State) : (s.setConsignment i x).tally = s.tally := rfl
@[simp] theorem setSafe_tally (x : Safe) (s : State) : (s.setSafe x).tally = s.tally := rfl
@[simp] theorem setMode_tally (m : Mode) (s : State) : (s.setMode m).tally = s.tally := rfl
@[simp] theorem setClock_tally (n : Nat) (s : State) : (s.setClock n).tally = s.tally := rfl
@[simp] theorem setDoors_tally (x : Doors) (s : State) : (s.setDoors x).tally = s.tally := rfl
@[simp] theorem setLine_tally (x : Line) (s : State) : (s.setLine x).tally = s.tally := rfl
@[simp] theorem setDoor_tally (d : Door) (x : DoorRec) (s : State) : (s.setDoor d x).tally = s.tally := by cases d <;> rfl
@[simp] theorem heard_tally (s : State) : (heard s).tally = s.tally := rfl

/-- A new arbiter with the same account and settings. -/
@[simp] theorem setArbiter_tally (a : Arbiter) (s : State) (h1 : a.account = s.arbiter.account)
    (h2 : a.settings = s.arbiter.settings) : (s.setArbiter a).tally = s.tally := by
  simp [State.tally, h1, h2]

/-- A new evacuation record in the same state. -/
@[simp] theorem setEvac_tally (e : Evacuation) (s : State) (h : e.state = s.evac.state) : (s.setEvac e).tally = s.tally := by
  simp [State.tally, h]

@[simp] theorem join_account (a : Arbiter) (e : DepositEntry) : (a.join e).account = a.account := by
  unfold Arbiter.join; split <;> rfl
@[simp] theorem leave_account (a : Arbiter) (e : DepositEntry) : (a.leave e).account = a.account := by unfold Arbiter.leave; rfl
@[simp] theorem toTail_account (a : Arbiter) (e : DepositEntry) : (a.toTail e).account = a.account := by simp [Arbiter.toTail]

/-! ### Shared operations -/

@[simp] theorem notify_tally (b : NoticeBody) (s : State) : (notify b s).tally = s.tally := by unfold notify; split <;> rfl
@[simp] theorem notifyAll_tally (l : List NoticeBody) (s : State) : (notifyAll l s).tally = s.tally := by
  induction l generalizing s with
  | nil => rfl
  | cons b l ih => simp [notifyAll, ih]
@[simp] theorem transmit_tally (s : State) : (transmit s).tally = s.tally := by unfold transmit; split <;> rfl
@[simp] theorem owe_tally (c g : Nat) (s : State) : (owe c g s).tally = s.tally := by
  obtain ⟨l, h⟩ := owe_state c g s; rw [h]; rfl
@[simp] theorem respond_tally (c g : Nat) (x : Reply) (s : State) : (respond c g x s).tally = s.tally := by
  obtain ⟨l, h⟩ := respond_state c g x s; rw [h]; rfl
@[simp] theorem handFault_tally (x : FaultSource) (k : FaultKind) (s : State) : (handFault x k s).tally = s.tally := rfl

/-- A fold of operations that leave the stock. -/
@[simp] theorem each_tally {f : Nat → State → State} (h : ∀ n s, (f n s).tally = s.tally) (l : List Nat) (s : State) :
    (State.each f l s).tally = s.tally :=
  each_keeps (fun t => t.tally = s.tally) f (fun n t ht => (h n t).trans ht) l s rfl

/-! ### The posting queue and reservations -/

@[simp] theorem queueEntry_tally (b : EntryBody) (s : State) : (queueEntry b s).tally = s.tally := by
  unfold queueEntry
  split
  · rfl
  · dsimp only; split
    · simp; rfl
    · rfl
@[simp] theorem dropEntries_tally (n : Nat) (s : State) : (dropEntries n s).tally = s.tally := rfl
@[simp] theorem changeEntry_tally (k : Nat) (f : ResEntry → ResEntry) (s : State) : (changeEntry k f s).tally = s.tally := rfl
@[simp] theorem issueFromEntry_tally (m : Movement) (s : State) : (issueFromEntry m s).tally = s.tally := by
  unfold issueFromEntry; split <;> rfl
@[simp] theorem reserve_tally (k t : Nat) (c : Counts) (s : State) : (reserve k t c s).tally = s.tally := by
  unfold reserve; split <;> rfl
@[simp] theorem releaseEntry_tally (k : Nat) (s : State) : (releaseEntry k s).tally = s.tally := rfl
@[simp] theorem cutEntries_tally (d : Nat) (s : State) : (cutEntries d s).1.tally = s.tally := rfl
@[simp] theorem stampSide_tally (x : Side) (n : Nat) (s : State) : (stampSide x n s).tally = s.tally := by
  cases x <;> simp [stampSide]
@[simp] theorem postSide_tally (x : Side) (m : Movement) (n : Nat) (s : State) : (postSide x m n s).tally = s.tally := by
  cases x with
  | pos p => simp only [postSide]; (repeat' split) <;> simp
  | _ => rfl
@[simp] theorem numberAndPost_tally (m : Movement) (s : State) : (numberAndPost m s).tally = s.tally := by
  simp only [numberAndPost, postSide_tally, stampSide_tally]; rfl
@[simp] theorem noticeFull_tally (c n : Nat) (s : State) : (noticeFull c n s).tally = s.tally := by simp [noticeFull]
@[simp] theorem noticeInto_tally (x : Side) (n : Nat) (s : State) : (noticeInto x n s).tally = s.tally := by
  unfold noticeInto; split <;> simp
@[simp] theorem markInRun_tally (p : Nat) (s : State) : (markInRun p s).tally = s.tally := by simp [markInRun]
@[simp] theorem queueSummary_tally (n : Nat) (s : State) : (queueSummary n s).tally = s.tally := by simp [queueSummary]
@[simp] theorem catchUpTills_tally (l : List Nat) (s : State) : (catchUpTills l s).tally = s.tally := by
  induction l generalizing s with
  | nil => rfl
  | cons n l ih => unfold catchUpTills; (repeat' split) <;> simp [ih]

/-! ### Slots claimed, settled and released -/

@[simp] theorem claimSlot_tally (p : Nat) (s : State) : (claimSlot p s).tally = s.tally := rfl
@[simp] theorem createLot_tally (n : Nat) (src : LotSource) (sel : Option StationSel) (v : Option Nat) (s : State) :
    (createLot n src sel v s).tally = s.tally := rfl
@[simp] theorem completeRelease_tally (p : Nat) (s : State) : (completeRelease p s).tally = s.tally := by
  unfold completeRelease; dsimp only; split <;> simp
@[simp] theorem clearMarks_tally (p : Nat) (s : State) : (clearMarks p s).tally = s.tally := by
  unfold clearMarks; dsimp only; split <;> simp
@[simp] theorem settlePosition_tally (p : Nat) (x : SettleReason) (s : State) : (settlePosition p x s).tally = s.tally := by
  unfold settlePosition; split <;> simp
@[simp] theorem tryRelease_tally (p : Nat) (s : State) : (tryRelease p s).tally = s.tally := by
  unfold tryRelease; dsimp only; (repeat' split) <;> simp
@[simp] theorem requestRelease_tally (p : Nat) (s : State) : (requestRelease p s).tally = s.tally := by
  unfold requestRelease; dsimp only; split <;> simp
@[simp] theorem clearInRun_tally (p : Nat) (s : State) : (clearInRun p s).tally = s.tally := by
  unfold clearInRun; dsimp only; split <;> simp
theorem catchUpPositions_tally (l : List Nat) (s : State) : (catchUpPositions l s).1.tally = s.tally := by
  induction l generalizing s with
  | nil => rfl
  | cons p l ih => unfold catchUpPositions; dsimp only; (repeat' split) <;> simp [ih]
@[simp] theorem catchUp_tally (s : State) : (catchUp s).tally = s.tally := by
  have h := catchUpPositions_tally (List.range 177) s
  unfold catchUp
  split <;> next heq => rw [heq] at h; simpa using h

/-! ### The arbiter's requests -/

@[simp] theorem cutRun_tally (s : State) : (cutRun s).tally = s.tally := by unfold cutRun; dsimp only; split <;> simp
@[simp] theorem giveHead_tally (h n : Nat) (s : State) : (giveHead h n s).tally = s.tally := by
  unfold giveHead; dsimp only; split <;> simp
@[simp] theorem dropHead_tally (h n : Nat) (s : State) : (dropHead h n s).tally = s.tally := by
  unfold dropHead; dsimp only; split <;> simp
@[simp] theorem giveTrayReturn_tally (k : Nat) (s : State) : (giveTrayReturn k s).tally = s.tally := by simp [giveTrayReturn]
@[simp] theorem dropTrayReturn_tally (s : State) : (dropTrayReturn s).tally = s.tally := by simp [dropTrayReturn]
@[simp] theorem giveDispense_tally (k d n : Nat) (s : State) : (giveDispense k d n s).tally = s.tally := by simp [giveDispense]
@[simp] theorem dropDispense_tally (s : State) : (dropDispense s).tally = s.tally := by simp [dropDispense]
@[simp] theorem withdrawDispense_tally (s : State) : (withdrawDispense s).tally = s.tally := by
  unfold withdrawDispense; (repeat' split) <;> simp
@[simp] theorem giveEvac_tally (s : State) : (giveEvac s).tally = s.tally := by simp [giveEvac]
@[simp] theorem dropEvac_tally (s : State) : (dropEvac s).tally = s.tally := by simp [dropEvac]
@[simp] theorem withdrawEvac_tally (s : State) : (withdrawEvac s).tally = s.tally := by
  unfold withdrawEvac; (repeat' split) <;> simp
@[simp] theorem entryToTail_tally (e : DepositEntry) (s : State) : (entryToTail e s).tally = s.tally := by
  unfold entryToTail; split <;> simp
@[simp] theorem skipOver_tally (s : State) : (skipOver s).tally = s.tally := by unfold skipOver; split <;> simp
/-! ### Builds -/

@[simp] theorem withdrawFor_tally (k : Nat) (s : State) : (withdrawFor k s).tally = s.tally := by
  unfold withdrawFor; (repeat' split) <;> simp
@[simp] theorem becomeShort_tally (k : Nat) (c : ShortCause) (d : Nat) (s : State) : (becomeShort k c d s).tally = s.tally := by
  unfold becomeShort; split <;> simp
@[simp] theorem notesDone_tally (k : Nat) (b : Build) (s : State) : (notesDone k b s).tally = s.tally := by
  unfold notesDone; split <;> simp
@[simp] theorem nextDispense_tally (k : Nat) (b : Build) (s : State) : (nextDispense k b s).tally = s.tally := by
  unfold nextDispense; (repeat' split) <;> simp
@[simp] theorem cutReport_tally (d k : Nat) (s : State) : (cutReport d k s).tally = s.tally := by
  unfold cutReport; dsimp only; (repeat' split) <;> simp
@[simp] theorem unservable_tally (k d : Nat) (s : State) : (unservable k d s).tally = s.tally := by
  unfold unservable; (repeat' split) <;> simp
@[simp] theorem freeBuild_tally (k : Nat) (s : State) : (freeBuild k s).tally = s.tally := rfl
@[simp] theorem noteForBuild_tally (k d : Nat) (s : State) : (noteForBuild k d s).tally = s.tally := by
  unfold noteForBuild; split <;> simp
@[simp] theorem trayNotesLeft_tally (c : Counts) (s : State) : (trayNotesLeft c s).tally = s.tally := by
  unfold trayNotesLeft; (repeat' split) <;> simp
@[simp] theorem finishCancel_tally (k : Nat) (b : Build) (s : State) : (finishCancel k b s).tally = s.tally := by
  simp [finishCancel]
@[simp] theorem cutDenom_tally (d : Nat) (s : State) : (cutDenom d s).tally = s.tally := by
  unfold cutDenom; split <;> simp
@[simp] theorem cutDue_tally (s : State) : (cutDue s).tally = s.tally := by simp [cutDue]
@[simp] theorem dispenseClosed_tally (k : Nat) (x : Run) (s : State) : (dispenseClosed k x s).tally = s.tally := by
  unfold dispenseClosed; (repeat' split) <;> simp
@[simp] theorem trayClosed_tally (s : State) : (trayClosed s).tally = s.tally := by
  unfold trayClosed; (repeat' split) <;> simp
theorem trayFreed_tally (h : trayFreed s = some t) : t.tally = s.tally := by
  unfold trayFreed at h; (repeat' split at h) <;> cases h <;> simp
theorem trayTaken_tally (h : trayTaken s = some t) : t.tally = s.tally := by
  unfold trayTaken at h
  split at h <;> cases h
  simp
theorem buildStep_tally {k : Nat} (h : buildStep k s = some t) : t.tally = s.tally := by
  unfold buildStep at h; (repeat' split at h) <;> cases h <;> simp
theorem buildsStep_tally {l : List Nat} (h : buildsStep l s = some t) : t.tally = s.tally := by
  induction l with
  | nil => cases h
  | cons k l ih =>
    unfold buildsStep at h
    split at h
    · cases h; exact buildStep_tally ‹_›
    · exact ih h

end Sys2Proof.Machine
end

section
/-! What never touches the tally, continued: the count unit, the recycler, the bay and the line. -/

-- One theorem at a time: the whole text holds more theorems than the check has room for threads.
set_option Elab.async false

namespace Sys2Proof.Machine

variable {s t : State}

/-! ### Stations and lots -/

@[simp] theorem changeStation_tally (n : Nat) (f : StationRec → StationRec) (s : State) :
    (changeStation n f s).tally = s.tally := by simp [changeStation]
@[simp] theorem noteStation_tally (n : Nat) (s : State) : (noteStation n s).tally = s.tally := by simp [noteStation]
@[simp] theorem withStation_tally (n : Nat) (f : State → State) (s : State) (h : (f s).tally = s.tally) :
    (withStation n f s).tally = s.tally := by unfold withStation; dsimp only; split <;> simp [h]
@[simp] theorem makePending_tally (n : Nat) (c : StationCommand) (s : State) : (makePending n c s).tally = s.tally := by
  simp [makePending]
@[simp] theorem giveStack_tally (n : Nat) (c : StackCommand) (s : State) : (giveStack n c s).tally = s.tally := by
  unfold giveStack; dsimp only; split <;> simp
@[simp] theorem jobToHead_tally (n : Nat) (s : State) : (jobToHead n s).tally = s.tally := by
  unfold jobToHead; split <;> simp
@[simp] theorem jobLeaves_tally (n : Nat) (s : State) : (jobLeaves n s).tally = s.tally := by simp [jobLeaves]
@[simp] theorem recountLot_tally (n : Nat) (b : Bool) (s : State) : (recountLot n b s).tally = s.tally := by
  unfold recountLot; split <;> simp
@[simp] theorem endJob_tally (n : Nat) (c : CountFailure) (s : State) : (endJob n c s).tally = s.tally := by
  unfold endJob; split <;> simp
@[simp] theorem endJobReport_tally (n : Nat) (s : State) : (endJobReport n s).tally = s.tally := by simp [endJobReport]
@[simp] theorem endJobMechanism_tally (n : Nat) (s : State) : (endJobMechanism n s).tally = s.tally := by
  simp [endJobMechanism]
@[simp] theorem interruptLot_tally (n : Nat) (s : State) : (interruptLot n s).tally = s.tally := by
  unfold interruptLot; split <;> simp
@[simp] theorem stackLost_tally (n k : Nat) (s : State) : (stackLost n k s).tally = s.tally := by simp [stackLost]
@[simp] theorem takeReport_tally (n l : Nat) (x : List ItemRecord) (s : State) : (takeReport n l x s).tally = s.tally := by
  unfold takeReport; dsimp only; split <;> simp
@[simp] theorem assignJob_tally (n k : Nat) (s : State) : (assignJob n k s).tally = s.tally := by
  unfold assignJob; dsimp only; split <;> exact (withStation_tally _ _ _ (by simp)).trans rfl
theorem assignStep_tally (h : assignStep s = some t) : t.tally = s.tally := by
  unfold assignStep at h
  split at h
  · obtain ⟨q, -, rfl⟩ := Option.map_eq_some_iff.mp h; simp
  · cases h

@[simp] theorem voidRelease_tally (n : Nat) (s : State) : (voidRelease n s).tally = s.tally := by
  unfold voidRelease; (repeat' split) <;> simp
@[simp] theorem finishLot_tally (n : Nat) (s : State) : (finishLot n s).tally = s.tally := by
  unfold finishLot; split <;> simp
@[simp] theorem depositEnd_tally (i n : Nat) (s : State) : (depositEnd i n s).tally = s.tally := by
  unfold depositEnd; (repeat' split) <;> simp
@[simp] theorem lotStackLeft_tally (n k : Nat) (c : Option StackCommand) (s : State) :
    (lotStackLeft n k c s).tally = s.tally := by unfold lotStackLeft; (repeat' split) <;> simp
@[simp] theorem lotStackGone_tally (n k : Nat) (s : State) : (lotStackGone n k s).tally = s.tally := by
  unfold lotStackGone; (repeat' split) <;> simp

/-! ### Modules, cassettes and the evacuation -/

@[simp] theorem enterModule_tally (m : Nat) (x : ModState) (y : StartStep) (s : State) :
    (enterModule m x y s).tally = s.tally := by unfold enterModule; dsimp only; split <;> simp
@[simp] theorem faultModule_tally (m : Nat) (s : State) : (faultModule m s).tally = s.tally := by
  unfold faultModule; split <;> simp
@[simp] theorem faultBoth_tally (s : State) : (faultBoth s).tally = s.tally := by simp [faultBoth]
@[simp] theorem gradeModule_tally (m : Nat) (s : State) : (gradeModule m s).tally = s.tally := by
  unfold gradeModule; split <;> simp
theorem gradeStep_tally (h : gradeStep s = some t) : t.tally = s.tally := by
  obtain ⟨m, -, rfl⟩ := Option.map_eq_some_iff.mp h; simp
@[simp] theorem startModules_tally (s : State) : (startModules s).tally = s.tally := by
  unfold startModules; exact each_tally (fun m s => by split <;> simp) _ s
@[simp] theorem movePointer_tally (d k i : Nat) (s : State) : (movePointer d k i s).tally = s.tally := rfl
@[simp] theorem rewriteWays_tally (a b : Nat) (s : State) : (rewriteWays a b s).tally = s.tally := rfl
@[simp] theorem leaveSource_tally (a : Nat) (s : State) : (leaveSource a s).tally = s.tally := by
  unfold leaveSource; dsimp only; split <;> simp
/-! ### Runs -/

@[simp] theorem tellNote_tally (x : Run) (d : Nat) (s : State) : (tellNote x d s).tally = s.tally := by
  unfold tellNote; split <;> simp
@[simp] theorem pickNote_tally (n : PathNote) (s : State) : (pickNote n s).tally = s.tally := by simp [pickNote]
@[simp] theorem endRun_tally (c : EndCause) (s : State) : (endRun c s).tally = s.tally := by
  unfold endRun; dsimp only; split <;> simp
theorem chooseStep_tally (h : chooseStep s = some t) : t.tally = s.tally := by
  unfold chooseStep at h; dsimp only at h; (repeat' split at h) <;> cases h <;> simp
theorem causeStep_tally (h : causeStep s = some t) : t.tally = s.tally := by
  unfold causeStep at h
  dsimp only at h
  (repeat' split at h) <;> first | exact chooseStep_tally h | (cases h; try simp)
@[simp] theorem stopRun_tally (c : EndCause) (m : Nat) (s : State) : (stopRun c m s).tally = s.tally := by
  unfold stopRun; dsimp only; split <;> simp
@[simp] theorem faultStill_tally (s : State) : (faultStill s).tally = s.tally := by
  unfold faultStill; exact each_tally (fun m s => by split <;> simp) _ s
@[simp] theorem purgeFailed_tally (c : PurgeCycle) (s : State) : (purgeFailed c s).tally = s.tally := by
  unfold purgeFailed; dsimp only; (repeat' split) <;> simp
@[simp] theorem safeOpened_tally (s : State) : (safeOpened s).tally = s.tally := by
  unfold safeOpened
  dsimp only
  rw [each_tally (fun m s => by split <;> simp)]
  (repeat' split) <;> simp
theorem purgeStart_tally (h : purgeStart s = some t) : t.tally = s.tally := by
  unfold purgeStart at h
  dsimp only at h
  split at h
  · obtain ⟨m, -, rfl⟩ := Option.map_eq_some_iff.mp h; simp
  · cases h
@[simp] theorem grant_tally (g : Grant) (s : State) : (grant g s).tally = s.tally := by
  unfold grant; dsimp only; split <;> simp
theorem grantStep_tally (h : grantStep s = some t) : t.tally = s.tally := by
  unfold grantStep at h
  split at h
  · obtain ⟨g, -, rfl⟩ := Option.map_eq_some_iff.mp h; simp
  · cases h
theorem preemptStep_tally (h : preemptStep s = some t) : t.tally = s.tally := by
  unfold preemptStep at h; dsimp only at h; (repeat' split at h) <;> cases h <;> simp
theorem cutStep_tally (h : cutStep s = some t) : t.tally = s.tally := by
  unfold cutStep at h
  split at h
  · rw [← Option.some.inj h, cutDue_tally]
  · cases h
@[simp] theorem unlockSafe_tally (s : State) : (unlockSafe s).tally = s.tally := by simp [unlockSafe]
theorem safeStep_tally (h : safeStep s = some t) : t.tally = s.tally := by
  unfold safeStep at h; split at h <;> cases h; simp
theorem holdStep_tally (h : holdStep s = some t) : t.tally = s.tally := by
  unfold holdStep at h; split at h <;> cases h; simp

/-! ### The bay -/

@[simp] theorem enterCons_tally (k : Nat) (x : ConsState) (s : State) : (enterCons k x s).tally = s.tally := by
  unfold enterCons; (repeat' split) <;> simp
@[simp] theorem examineWindow_tally (k : Nat) (s : State) : (examineWindow k s).tally = s.tally := by
  unfold examineWindow; (repeat' split) <;> simp
@[simp] theorem examineWindows_tally (s : State) : (examineWindows s).tally = s.tally := by simp [examineWindows]
@[simp] theorem raiseForced_tally (d : Door) (s : State) : (raiseForced d s).tally = s.tally := by
  unfold raiseForced; split <;> simp
@[simp] theorem raiseHeldOpen_tally (d : Door) (s : State) : (raiseHeldOpen d s).tally = s.tally := by
  unfold raiseHeldOpen; split <;> simp
@[simp] theorem checkHeld_tally (d : Door) (s : State) : (checkHeld d s).tally = s.tally := by
  unfold checkHeld; split <;> simp
@[simp] theorem sensorOpened_tally (d : Door) (s : State) : (sensorOpened d s).tally = s.tally := by
  unfold sensorOpened; dsimp only; (repeat' split) <;> simp
@[simp] theorem sensorClosed_tally (d : Door) (s : State) : (sensorClosed d s).tally = s.tally := by
  unfold sensorClosed; dsimp only; split <;> simp
@[simp] theorem unlockDoor_tally (d : Door) (s : State) : (unlockDoor d s).tally = s.tally := by simp [unlockDoor]
@[simp] theorem lockOffice_tally (s : State) : (lockOffice s).tally = s.tally := by
  unfold lockOffice; dsimp only; (repeat' split) <;> simp
@[simp] theorem settleOffice_tally (s : State) : (settleOffice s).tally = s.tally := by
  unfold settleOffice; dsimp only; (repeat' split) <;> simp
@[simp] theorem owedUnlock_tally (s : State) : (owedUnlock s).tally = s.tally := by
  unfold owedUnlock; dsimp only; split <;> simp
@[simp] theorem bayAfter_tally (s : State) : (bayAfter s).tally = s.tally := by simp [bayAfter]
@[simp] theorem lockCourier_tally (s : State) : (lockCourier s).tally = s.tally := by simp [lockCourier]
@[simp] theorem openRetrieval_tally (s : State) : (openRetrieval s).tally = s.tally := by
  unfold openRetrieval; dsimp only; (repeat' split) <;> simp
@[simp] theorem reject_tally (d : Door) (n : Nat) (c : RejectCause) (s : State) : (reject d n c s).tally = s.tally := by
  simp [reject]
@[simp] theorem setItem_tally (k i : Nat) (x : Item) (s : State) : (setItem k i x s).tally = s.tally := by
  unfold setItem; split <;> simp
@[simp] theorem moveContainer_tally (n : Nat) (x : ContState) (l : Location) (s : State) :
    (moveContainer n x l s).tally = s.tally := by unfold moveContainer; split <;> simp
@[simp] theorem loadingRead_tally (c : ConsRec) (n : Nat) (s : State) : (loadingRead c n s).tally = s.tally := by
  unfold loadingRead; (repeat' split) <;> simp
@[simp] theorem retrievalRead_tally (n : Nat) (s : State) : (retrievalRead n s).tally = s.tally := by
  unfold retrievalRead; (repeat' split) <;> simp
@[simp] theorem officeRead_tally (n : Nat) (s : State) : (officeRead n s).tally = s.tally := by
  unfold officeRead; (repeat' split) <;> simp
@[simp] theorem eachContainerOf_tally (k : Nat) (f : ContRec → ContRec) (s : State) :
    (eachContainerOf k f s).tally = s.tally := rfl
@[simp] theorem transferClosed_tally (k : Nat) (c : ConsRec) (s : State) : (transferClosed k c s).tally = s.tally := by
  unfold transferClosed; dsimp only; (repeat' split) <;> simp
@[simp] theorem engageTimedOut_tally (k : Nat) (c : ConsRec) (s : State) : (engageTimedOut k c s).tally = s.tally := by
  simp [engageTimedOut]
@[simp] theorem abortCons_tally (k : Nat) (c : ConsRec) (s : State) : (abortCons k c s).tally = s.tally := by
  unfold abortCons; dsimp only; (repeat' split) <;> simp
@[simp] theorem courierOpens_tally (s : State) : (courierOpens s).tally = s.tally := by
  unfold courierOpens; dsimp only; (repeat' split) <;> simp

/-! ### The station line -/

@[simp] theorem startCycle_tally (s : State) : (startCycle s).tally = s.tally := by unfold startCycle; split <;> simp
@[simp] theorem nextTurn_tally (s : State) : (nextTurn s).tally = s.tally := by
  unfold nextTurn; (repeat' split) <;> simp
@[simp] theorem setPhase_tally (x : Turn) (p : Phase) (s : State) : (setPhase x p s).tally = s.tally := by simp [setPhase]
@[simp] theorem pollDue_tally (s : State) : (pollDue s).tally = s.tally := by unfold pollDue; split <;> simp
@[simp] theorem countLine_tally (n a b : Nat) (s : State) : (countLine n a b s).tally = s.tally := by simp [countLine]
@[simp] theorem thirdMiss_tally (n : Nat) (s : State) : (thirdMiss n s).tally = s.tally := by
  unfold thirdMiss; dsimp only; split <;> simp
@[simp] theorem missTurn_tally (n : Nat) (s : State) : (missTurn n s).tally = s.tally := by
  unfold missTurn; dsimp only; (repeat' split) <;> simp
@[simp] theorem clearMisses_tally (n : Nat) (s : State) : (clearMisses n s).tally = s.tally := by simp [clearMisses]
@[simp] theorem headFailure_tally (n : Nat) (s : State) : (headFailure n s).tally = s.tally := by
  unfold headFailure; split <;> simp
@[simp] theorem headFails_tally (n : Nat) (s : State) : (headFails n s).tally = s.tally := by simp [headFails]
@[simp] theorem reportFails_tally (n : Nat) (s : State) : (reportFails n s).tally = s.tally := by
  unfold reportFails; split <;> simp
@[simp] theorem showState_tally (n : Nat) (m : MechState) (k : Nat) (s : State) : (showState n m k s).tally = s.tally := by
  simp [showState]
@[simp] theorem setStationState_tally (n : Nat) (x : StationState) (s : State) : (setStationState n x s).tally = s.tally := by
  simp [setStationState]
@[simp] theorem strayStack_tally (n : Nat) (s : State) : (strayStack n s).tally = s.tally := by simp [strayStack]
@[simp] theorem busyState_tally (n j : Nat) (m : MechState) (s : State) : (busyState n j m s).tally = s.tally := by
  unfold busyState; split <;> simp
@[simp] theorem commandAnswered_tally (n : Nat) (c : StationCommand) (s : State) :
    (commandAnswered n c s).tally = s.tally := by simp [commandAnswered]
@[simp] theorem fetchState_tally (n : Nat) (m : MechState) (k : Nat) (s : State) : (fetchState n m k s).tally = s.tally := by
  unfold fetchState; dsimp only; (repeat' split) <;> simp
@[simp] theorem fetchSeen_tally (n : Nat) (m : Option MechState) (k : Nat) (s : State) :
    (fetchSeen n m k s).tally = s.tally := by unfold fetchSeen; split <;> simp
@[simp] theorem resetSent_tally (n : Nat) (s : State) : (resetSent n s).tally = s.tally := by simp [resetSent]
@[simp] theorem dropStation_tally (n : Nat) (s : State) : (dropStation n s).tally = s.tally := by
  unfold dropStation; split <;> simp
@[simp] theorem sentRecord_tally (l : List Nat) (x : Turn) (s : State) : (sentRecord l x s).tally = s.tally := by
  unfold sentRecord; dsimp only; (repeat' split) <;> simp
@[simp] theorem noAnswer_tally (x : Turn) (s : State) : (noAnswer x s).tally = s.tally := by
  unfold noAnswer; (repeat' split) <;> simp
@[simp] theorem badRecord_tally (l : List Nat) (x : Turn) (s : State) : (badRecord l x s).tally = s.tally := by
  unfold badRecord; dsimp only; (repeat' split) <;> simp
@[simp] theorem strayReport_tally (x : Turn) (s : State) : (strayReport x s).tally = s.tally := by
  unfold strayReport; split <;> simp
@[simp] theorem goodHead_tally (h : HeadRecord) (x : Turn) (s : State) : (goodHead h x s).tally = s.tally := by
  unfold goodHead; split <;> simp
@[simp] theorem goodItem_tally (i : ItemRecord) (x : Turn) (s : State) : (goodItem i x s).tally = s.tally := by
  unfold goodItem; (repeat' split) <;> simp
@[simp] theorem judgeReport_tally (h : HeadRecord) (l : List ItemRecord) (e : EndRecord) (x : Turn) (s : State) :
    (judgeReport h l e x s).tally = s.tally := by unfold judgeReport; (repeat' split) <;> simp
@[simp] theorem goodEnd_tally (e : EndRecord) (x : Turn) (s : State) : (goodEnd e x s).tally = s.tally := by
  unfold goodEnd; split <;> simp
@[simp] theorem quietOver_tally (x : Turn) (s : State) : (quietOver x s).tally = s.tally := by
  unfold quietOver; split <;> simp
@[simp] theorem recordMissing_tally (x : Turn) (s : State) : (recordMissing x s).tally = s.tally := by
  unfold recordMissing; split <;> simp

@[simp] theorem attachState_tally (n k : Nat) (m : MechState) (s : State) : (attachState n m k s).tally = s.tally := by
  unfold attachState; (repeat' split) <;> simp
@[simp] theorem stackedState_tally (n k : Nat) (m : MechState) (s : State) : (stackedState n m k s).tally = s.tally := by
  unfold stackedState; dsimp only; (repeat' split) <;> simp
@[simp] theorem stateShown_tally (n k : Nat) (m : MechState) (s : State) : (stateShown n m k s).tally = s.tally := by
  unfold stateShown; (repeat' split) <;> simp
@[simp] theorem stateSeen_tally (n k : Nat) (m : Option MechState) (s : State) : (stateSeen n m k s).tally = s.tally := by
  unfold stateSeen; split <;> simp
@[simp] theorem answeredBy_tally (n k : Nat) (x : LineRecord) (m : Option MechState) (s : State) :
    (answeredBy n x m k s).tally = s.tally := by
  unfold answeredBy
  split
  · split <;> simp
  all_goals exact withStation_tally _ _ _ (by simp)
@[simp] theorem goodState_tally (k : Nat) (m : Option MechState) (x : Turn) (s : State) :
    (goodState m k x s).tally = s.tally := by unfold goodState; (repeat' split) <;> simp
theorem fromStation_tally (n : Fin 4) (l : List Nat) {f : Turn → State → State} (hf : ∀ x u, (f x u).tally = u.tally)
    (x : Turn) (s : State) : (fromStation n l f x s).tally = s.tally := by
  unfold fromStation
  split
  · rfl
  · rfl
  all_goals dsimp only; split <;> simp [hf]

/-! ### The mechanism -/

@[simp] theorem leavePoint_tally (p : PickPoint) (s : State) : (leavePoint p s).tally = s.tally := by
  unfold leavePoint; dsimp only; split <;> simp
@[simp] theorem failedPick_tally (p : PickPoint) (s : State) : (failedPick p s).tally = s.tally := by
  unfold failedPick; dsimp only; (repeat' split) <;> simp
@[simp] theorem evacFailure_tally (s : State) : (evacFailure s).tally = s.tally := by simp [evacFailure]
@[simp] theorem evacGivesUp_tally (s : State) : (evacGivesUp s).tally = s.tally := by unfold evacGivesUp; split <;> simp
theorem routeNote_tally {p d g : Nat} (h : routeNote p d g s = some t) : t.tally = s.tally := by
  unfold routeNote at h; (repeat' split at h) <;> cases h <;> simp
@[simp] theorem trayRefused_tally (s : State) : (trayRefused s).tally = s.tally := by
  unfold trayRefused; dsimp only; (repeat' split) <;> simp
@[simp] theorem trayNote_tally (x : Reading) (s : State) : (trayNote x s).tally = s.tally := by
  unfold trayNote
  (repeat' split) <;> first | exact (by simp) | exact routeNote_tally ‹_›
@[simp] theorem setFault_tally (m : Nat) (f : Bool) (s : State) : (setFault m f s).tally = s.tally := by simp [setFault]
@[simp] theorem faultAt_tally (m : Nat) (s : State) : (faultAt m s).tally = s.tally := by
  unfold faultAt; dsimp only; split <;> simp
@[simp] theorem setHead_tally (h : Nat) (b : Bool) (s : State) : (setHead h b s).tally = s.tally := rfl
end Sys2Proof.Machine
end

section
/-! Movements, cassettes, runs and reactions: what leaves the tally, and what leaves the purse alone because it may end an
evacuation. -/

-- One theorem at a time: the whole text holds more theorems than the check has room for threads.
set_option Elab.async false

namespace Sys2Proof.Machine

variable {s t : State}

/-! ### Movements, R28, R29 -/

@[simp] theorem takeFrom_tally (x : Side) (qs : List Pair) (s : State) : (takeFrom x qs s).tally = s.tally :=
  tally_eq (takeFrom_arbiter ..) (takeFrom_evac ..)
@[simp] theorem giveTo_tally (x : Side) (qs : List Pair) (s : State) : (giveTo x qs s).tally = s.tally :=
  tally_eq (giveTo_arbiter ..) (giveTo_evac ..)
@[simp] theorem moveCounts_tally (m : Movement) (s : State) : (moveCounts m s).tally = s.tally := by
  obtain ⟨b, h⟩ := moveCounts_state s m
  rw [h]; rfl
@[simp] theorem applyMovement_tally (m : Movement) (s : State) : (applyMovement m s).tally = s.tally := by
  simp [applyMovement]
theorem applyGroup_tally {k : Nat} {l : List Movement} (h : applyGroup k l s = .ok t) : t.tally = s.tally := by
  induction l generalizing k s with
  | nil => cases h; rfl
  | cons m l ih =>
    unfold applyGroup at h
    split at h
    · cases h
    · exact (ih h).trans (applyMovement_tally ..)

/-! ### Cassettes, R126, R158, R160 -/

@[simp] theorem changeCassette_tally (c : Nat) (f : CasRec → CasRec) (s : State) :
    (changeCassette c f s).tally = s.tally := rfl
@[simp] theorem setThreshold_tally (c : Nat) (s : State) : (setThreshold c s).tally = s.tally := by simp [setThreshold]
@[simp] theorem dueThreshold_tally (c : Nat) (s : State) : (dueThreshold c s).tally = s.tally := by
  unfold dueThreshold; split <;> simp
@[simp] theorem raiseBucket_tally (c w : Nat) (s : State) : (raiseBucket c w s).tally = s.tally := by
  unfold raiseBucket; dsimp only; (repeat' split) <;> simp
@[simp] theorem goodNote_tally (c : Nat) (s : State) : (goodNote c s).tally = s.tally := rfl
@[simp] theorem goodNotes_tally (p q : Nat) (s : State) : (goodNotes p q s).tally = s.tally := by
  unfold goodNotes; dsimp only; (repeat' split) <;> simp
@[simp] theorem resolveMismatch_tally (p : Nat) (s : State) : (resolveMismatch p s).tally = s.tally := by
  unfold resolveMismatch; dsimp only; (repeat' split) <;> simp
@[simp] theorem vacate_tally (c : Nat) (s : State) : (vacate c s).tally = s.tally := rfl
@[simp] theorem checkTags_tally (m : Nat) (x : Tab 6 (Option Nat)) (s : State) : (checkTags m x s).tally = s.tally := by
  obtain ⟨y, h⟩ := checkTags_state m x s
  rw [h]; rfl
@[simp] theorem misfeedAt_tally (p : PickPoint) (s : State) : (misfeedAt p s).tally = s.tally := by
  unfold misfeedAt; dsimp only; (repeat' split) <;> simp
@[simp] theorem doubleAtCassette_tally (c : Nat) (s : State) : (doubleAtCassette c s).tally = s.tally := by
  unfold doubleAtCassette; dsimp only; (repeat' split) <;> simp
@[simp] theorem jamReported_tally (p : JamPoint) (s : State) : (jamReported p s).tally = s.tally := by
  unfold jamReported; split <;> simp
@[simp] theorem jamAt_tally (p : JamPoint) (s : State) : (jamAt p s).tally = s.tally := by
  unfold jamAt; dsimp only; (repeat' split) <;> simp
theorem arriving_tally {x : PathDest} {n : PathNote} (h : arriving x s = some (n, t)) : t.tally = s.tally := by
  unfold arriving latePick at h; (repeat' split at h) <;> cases h <;> simp

/-! ### The closing group of a run, R30 -/

@[simp] theorem foldl_postRunEnd_tally (l : List Movement) (s : State) : (l.foldl postRunEnd s).tally = s.tally := by
  induction l generalizing s with
  | nil => rfl
  | cons m l ih => exact (ih _).trans (numberAndPost_tally ..)
@[simp] theorem closeMove_tally (m : Movement) (s : State) : (closeMove m s).tally = s.tally := by
  unfold closeMove; dsimp only; split <;> simp
theorem closeMoves_tally {l : List Movement} (h : closeMoves l s = some t) : t.tally = s.tally := by
  induction l generalizing s with
  | nil => cases h; rfl
  | cons m l ih =>
    unfold closeMoves at h
    split at h
    · cases h
    · exact (ih h).trans (closeMove_tally ..)
@[simp] theorem closingGroup_tally (b : Option Nat) (s : State) : (closingGroup b s).tally = s.tally := by
  unfold closingGroup
  dsimp only
  rw [each_tally clearInRun_tally]
  cases h : closeMoves (s.recycler.run.addedMoves b) ((s.recycler.run.pairs.map (runEndMove s.recycler.run.kind)).foldl
    postRunEnd s) with
  | none => rfl
  | some t => exact (closeMoves_tally h).trans (foldl_postRunEnd_tally ..)

/-! ### The evacuation ends, R166 to R168: the purse stays -/

@[simp] theorem setEvac_purse (e : Evacuation) (s : State) : (s.setEvac e).tally.purse = s.tally.purse := rfl
@[simp] theorem completeEvac_purse (a b : Nat) (s : State) : (completeEvac a b s).tally.purse = s.tally.purse := by
  simp [completeEvac, spareTakesRole]
@[simp] theorem strandEvac_purse (a b : Nat) (s : State) : (strandEvac a b s).tally.purse = s.tally.purse := by
  simp [strandEvac, spareTakesRole]
@[simp] theorem evacExamine_purse (s : State) : (evacExamine s).tally.purse = s.tally.purse := by
  unfold evacExamine; (repeat' split) <;> simp
@[simp] theorem evacRunClosed_purse (b : Bool) (s : State) : (evacRunClosed b s).tally.purse = s.tally.purse := by
  unfold evacRunClosed; (repeat' split) <;> simp
@[simp] theorem startEvac_purse (a b : Nat) (f : Bool) (s : State) : (startEvac a b f s).tally.purse = s.tally.purse := by
  simp [startEvac]
@[simp] theorem strandedRemoved_purse (c : Nat) (s : State) : (strandedRemoved c s).tally.purse = s.tally.purse := by
  unfold strandedRemoved; split <;> simp
@[simp] theorem reportEnd_purse (x : Run) (s : State) : (reportEnd x s).tally.purse = s.tally.purse := by
  unfold reportEnd; (repeat' split) <;> simp
/-- The end of a run that is not of the evacuation leaves the evacuation. -/
theorem reportEnd_tally {x : Run} (h : x.kind ≠ .evacuate) (s : State) : (reportEnd x s).tally = s.tally := by
  unfold reportEnd; (repeat' split) <;> first | contradiction | simp
@[simp] theorem recoveredEnd_purse (x : Run) (s : State) : (recoveredEnd x s).tally.purse = s.tally.purse := by
  unfold recoveredEnd; split <;> simp
@[simp] theorem closeRun_purse (b : Option Nat) (s : State) : (closeRun b s).tally.purse = s.tally.purse := by
  unfold closeRun; dsimp only; rw [evacExamine_purse]; split <;> simp
@[simp] theorem purgeClear_purse (c : PurgeCycle) (n : Nat) (s : State) : (purgeClear c n s).tally.purse = s.tally.purse := by
  unfold purgeClear; dsimp only; (repeat' split) <;> simp

/-! ### Reactions -/

theorem closeStep_purse (h : closeStep s = some t) : t.tally.purse = s.tally.purse := by
  unfold closeStep at h
  dsimp only at h
  split at h <;> cases h
  exact closeRun_purse ..
theorem pauseStep_purse (h : pauseStep s = some t) : t.tally.purse = s.tally.purse := by
  unfold pauseStep at h; (repeat' split at h) <;> cases h <;> simp
theorem autoEvac_purse (h : autoEvac s = some t) : t.tally.purse = s.tally.purse := by
  unfold autoEvac at h
  (repeat' split at h) <;> try cases h
  obtain ⟨b, -, rfl⟩ := Option.map_eq_some_iff.mp h
  exact startEvac_purse ..

/-- No change that a block makes of itself counts a note or sets the arbiter. -/
theorem reaction_purse {f : State → Option State} (hf : f ∈ reactions) (h : f s = some t) :
    t.tally.purse = s.tally.purse := by
  simp only [reactions, firstReactions, lastReactions, List.cons_append, List.nil_append, List.mem_cons, List.not_mem_nil,
    or_false] at hf
  rcases hf with rfl | rfl | rfl | rfl | rfl | rfl | rfl | rfl | rfl | rfl | rfl | rfl | rfl | rfl | rfl
  · rw [causeStep_tally h]
  · exact closeStep_purse h
  · rw [gradeStep_tally h]
  · rw [cutStep_tally h]
  · rw [trayFreed_tally h]
  · rw [trayTaken_tally h]
  · rw [buildsStep_tally h]
  · exact pauseStep_purse h
  · exact autoEvac_purse h
  · rw [purgeStart_tally h]
  · rw [preemptStep_tally h]
  · rw [safeStep_tally h]
  · rw [holdStep_tally h]
  · rw [assignStep_tally h]
  · rw [grantStep_tally h]

@[simp] theorem settle_purse (s : State) : (settle s).tally.purse = s.tally.purse :=
  settle_keeps (fun u => u.tally.purse = s.tally.purse) (fun _ hf _ _ h hu => (reaction_purse hf hu).trans h)
    (fun d u h => by rw [cutDenom_tally, h]) s rfl
@[simp] theorem settleClear_purse (s : State) : (settleClear s).tally.purse = s.tally.purse :=
  settleClear_keeps (fun u => u.tally.purse = s.tally.purse)
    (fun _ hf _ _ h hu => (reaction_purse (clearReactions_subset hf) hu).trans h) (fun d u h => by rw [cutDenom_tally, h]) s rfl

end Sys2Proof.Machine
end

section
/-! How an evacuation starts, ends, pauses and resumes, and what CLEAR BUCKET and START EVACUATION do (O45). -/

-- One theorem at a time: the whole text holds more theorems than the check has room for threads.
set_option Elab.async false

namespace Sys2Proof.Machine

variable {s t : State} {a b : Nat}

/-! ### The end of an evacuation, R166 to R168 -/

/-- What both ends of the evacuation of `a` into `b` leave: the source's record `source`, the spare in its role, the ways
rewritten, the evacuation record `x` without a pair's spare, the request dropped and the notice `n` sent. -/
def evacEnded (a b : Nat) (source : CasRec) (x : Evacuation) (n : NoticeBody) (s : State) : State :=
  notify n { s with
    recycler := { s.recycler with
      cassettes := (s.recycler.cassettes.set b { s.cassette b with
        role := (s.cassette a).role, evacSpare := false }).set a source
      routes := s.recycler.routes.map fun l => l.map (rewriteRange a b) }
    evac := { x with
      spare := none, pause := none, standing := []
      retired := s.evac.retired.set (moduleOf a) (some (a, (s.cassette a).tag)) }
    arbiter := { s.arbiter with evacuate := false, evacuateWithdrawn := false, skips := 0 } }

/-- The source still has its own record when the spare has taken its role. -/
theorem changeCassette_source (h : a ≠ b) (f : CasRec → CasRec) :
    changeCassette a f (rewriteWays a b (spareTakesRole a b s)) =
      (rewriteWays a b (spareTakesRole a b s)).setCassette a (f (s.cassette a)) :=
  congrArg (fun r => (rewriteWays a b (spareTakesRole a b s)).setCassette a (f r)) (cassette_setCassette_ne s b a _ h.symm)

theorem completeEvac_eq (h : a ≠ b) : completeEvac a b s =
    evacEnded a b { s.cassette a with role := .retired, evacSource := false, atThreshold := false }
      { s.evac with state := .idle, source := none, last := some .done }
      (.evacuationDone a b s.evac.atStart s.evac.moved (s.waysNaming a)) s := by
  unfold completeEvac
  dsimp only
  rw [changeCassette_source h]
  rfl

theorem strandEvac_eq (h : a ≠ b) : strandEvac a b s =
    evacEnded a b { s.cassette a with role := .retired, evacSource := false, stranded := true }
      { s.evac with state := .stranded, last := some .stranded }
      (.evacuationStranded a b s.evac.moved (s.posRec (cassettePos a)).counts.items) s := by
  unfold strandEvac
  dsimp only
  rw [changeCassette_source h]
  rfl

/-- A run of the evacuation is in service: RUNNING or PURGING, and not cut off by power loss. -/
theorem evacRunInService_iff : s.evacRunInService = true ↔ s.recycler.run.kind = .evacuate ∧
    (s.recycler.run.state = .running ∨ s.recycler.run.state = .purging) ∧ s.recycler.run.interrupted = false := by
  simp [State.evacRunInService, Run.inProgress]

section
variable (hp : s.evacPair = some (a, b))
include hp

/-- An empty source completes the evacuation where no run of it is in service. -/
theorem evacExamine_completes (he : (s.posRec (cassettePos a)).counts.isZero = true) (hr : s.evacRunInService ≠ true) :
    evacExamine s = completeEvac a b s := by
  rw [evacExamine, hp]
  exact if_pos ⟨he, by simpa using hr⟩

theorem evacExamine_keeps (h : (s.posRec (cassettePos a)).counts.isZero ≠ true ∨ s.evacRunInService = true) :
    evacExamine s = s := by
  rw [evacExamine, hp]
  refine if_neg fun ⟨he, hr⟩ => h.elim (fun h => h he) fun h => ?_
  simp [h] at hr

theorem evacRunClosed_completes (due : Bool) (he : (s.posRec (cassettePos a)).counts.isZero = true) :
    evacRunClosed due s = completeEvac a b s := by
  rw [evacRunClosed, hp]
  exact if_pos he

theorem evacRunClosed_strands {due : Bool} (he : (s.posRec (cassettePos a)).counts.isZero ≠ true)
    (h : due = true ∨ 3 ≤ s.evac.failures) : evacRunClosed due s = strandEvac a b s := by
  rw [evacRunClosed, hp]
  exact (if_neg he).trans (if_pos (by rwa [Bool.or_eq_true, decide_eq_true_eq]))

theorem evacRunClosed_goesOn {due : Bool} (he : (s.posRec (cassettePos a)).counts.isZero ≠ true) (hd : due = false)
    (hf : s.evac.failures < 3) : evacRunClosed due s = s := by
  rw [evacRunClosed, hp]
  exact (if_neg he).trans (if_neg (by rw [hd, Bool.false_or, decide_eq_true_eq]; exact Nat.not_le.mpr hf))

end

/-- The end of a run of the evacuation is reported to the evacuation, whoever its requester. -/
theorem reportEnd_evacuate {r : Run} (h : r.kind = .evacuate) :
    reportEnd r s = evacRunClosed s.arbiter.evacuateWithdrawn s := by
  rw [reportEnd, h]

/-! ### The ways that name the source, R167 -/

theorem rewriteRange_unnamed (b : Nat) {r : Range} (h : a ∉ r.ways) : rewriteRange a b r = r := if_pos (by simpa using h)

theorem rewriteRange_renames {r : Range} (ha : a ∈ r.ways) (hb : b ∉ r.ways) :
    rewriteRange a b r = { r with ways := r.ways.map fun c => if c = a then b else c } :=
  (if_neg (by simpa using ha)).trans (if_neg (by simpa using hb))

/-- A range that names the spare already loses the way, and its pointer stays on the way it pointed to. -/
theorem rewriteRange_removes {r : Range} (ha : a ∈ r.ways) (hb : b ∈ r.ways) :
    let k := if r.ways.idxOf a < r.next then r.next - 1 else r.next
    let ways := r.ways.filter fun c => c ≠ a
    rewriteRange a b r = { r with ways := ways, next := if k = ways.length then 0 else k } :=
  (if_neg (by simpa using ha)).trans (if_pos (by simpa using hb))

/-! ### Pause and resumption, R166 -/

/-- No cause of Table 8-3 stands for the pair. -/
def State.evacClear (s : State) (a b : Nat) : Prop :=
  s.evac.enables.get false (moduleOf a) = true ∧ s.office.mode = .trading ∧ s.inService (moduleOf a) = true ∧
    (s.cassette b).atThreshold = false

/-- The first cause of Table 8-3 that stands for the pair of source `a`, where one does. -/
def State.firstCause (s : State) (a : Nat) : PauseCause :=
  if s.evac.enables.get false (moduleOf a) = false then .disabled
  else if s.office.mode ≠ .trading then .hold
  else if s.inService (moduleOf a) = false then .module else .spareFault

section
variable (ha : s.evac.source = some a) (hb : s.evac.spare = some b)
include ha hb

theorem pauseCauses_clear (h : s.evacClear a b) : s.pauseCauses = [] := by
  obtain ⟨he, hm, hs, ht⟩ := h
  simp [State.pauseCauses, ha, hb, he, hm, hs, ht]

theorem pauseCauses_first (h : ¬s.evacClear a b) : ∃ l, s.pauseCauses = s.firstCause a :: l := by
  have hcauses : s.pauseCauses = (if s.evac.enables.get false (moduleOf a) then [] else [.disabled])
      ++ (if s.office.mode = .trading then [] else [.hold]) ++ (if s.inService (moduleOf a) then [] else [.module])
      ++ (if (s.cassette b).atThreshold then [.spareFault] else []) := by
    rw [State.pauseCauses, ha, hb]
  rw [hcauses, State.firstCause]
  by_cases he : s.evac.enables.get false (moduleOf a) = true
  case neg => exact ⟨_, by simp [he]; rfl⟩
  by_cases hm : s.office.mode = .trading
  case neg => exact ⟨_, by simp [he, hm]; rfl⟩
  by_cases hs : s.inService (moduleOf a) = true
  case neg => exact ⟨_, by simp [he, hm, hs]; rfl⟩
  have ht : (s.cassette b).atThreshold = true := by
    by_contra ht
    exact h ⟨he, hm, hs, by simpa using ht⟩
  exact ⟨[], by simp [he, hm, hs, ht]⟩

end

theorem pauseStep_active_clear (hst : s.evac.state = .active) (hc : s.pauseCauses = []) : pauseStep s = none := by
  rw [pauseStep, hst, hc]

theorem pauseStep_resumes (hst : s.evac.state = .paused) (hc : s.pauseCauses = []) :
    pauseStep s = some (giveEvac (s.setEvac { s.evac with state := .active, pause := none, standing := [] })) := by
  rw [pauseStep, hst, hc]

section
variable {c : PauseCause} {l : List PauseCause} (hc : s.pauseCauses = c :: l)
include hc

theorem pauseStep_active_busy (hst : s.evac.state = .active) (h : s.evacRunInService = true) : pauseStep s = none := by
  rw [pauseStep, hst, hc]
  exact if_pos (by simp [h])

theorem pauseStep_pauses (hst : s.evac.state = .active) (hr : s.evacRunInService ≠ true) (hd : s.strandDue ≠ true) :
    pauseStep s = some (dropEvac (s.setEvac { s.evac with state := .paused, pause := some c, standing := c :: l })) := by
  rw [pauseStep, hst, hc]
  exact if_neg (by simp [hr, hd])

theorem pauseStep_paused (hst : s.evac.state = .paused) (h : pauseStep s = some t) :
    t = s.setEvac { s.evac with pause := s.evac.causeNow (c :: l), standing := c :: l } := by
  rw [pauseStep, hst, hc] at h
  dsimp only at h
  split at h
  · cases h
  · exact (Option.some.inj h).symm

end

/-- A cause that takes the place of the recorded one comes before it in Table 8-3. -/
theorem causeNow_cases (e : Evacuation) (l : List PauseCause) : e.causeNow l = e.pause ∨
    ∃ x y, e.causeNow l = some x ∧ e.pause = some y ∧ x.place < y.place := by
  unfold Evacuation.causeNow
  cases hp : e.pause with
  | none => exact .inl rfl
  | some p =>
    dsimp only
    cases hx : l.find? fun c => !e.standing.contains c && c.place < p.place with
    | none => exact .inl rfl
    | some x =>
      have hlt := List.find?_some hx
      exact .inr ⟨x, p, rfl, rfl, of_decide_eq_true (Bool.and_eq_true_iff.mp hlt).2⟩

/-! ### CLEAR BUCKET, R161 -/

theorem evacExamine_idle (h : s.evac.state = .idle) : evacExamine s = s := by rw [evacExamine, evacPair_of_idle h]

theorem evacRunClosed_idle (due : Bool) (h : s.evac.state = .idle) : evacRunClosed due s = s := by
  rw [evacRunClosed, evacPair_of_idle h]

/-- Without a pair a run's end concerns no evacuation. -/
theorem closeRun_idle (x : Option Nat) (h : s.evac.state = .idle) : (closeRun x s).evac.state = .idle := by
  have hu : ((closingGroup x s).setRun Run.idle).evac.state = .idle :=
    (evac_of_tally ((setRun_tally ..).trans (closingGroup_tally x s))).trans h
  unfold closeRun
  dsimp only
  revert hu
  generalize (closingGroup x s).setRun Run.idle = u
  intro hu
  have hend : (if s.recycler.run.interrupted = true then recoveredEnd s.recycler.run u
      else reportEnd s.recycler.run u).evac.state = .idle := by
    by_cases hk : s.recycler.run.kind = .evacuate
    · rw [recoveredEnd, if_pos hk, reportEnd_evacuate hk, evacRunClosed_idle _ hu, evacRunClosed_idle _ hu, ite_self, hu]
    · rw [recoveredEnd, if_neg hk]
      split
      · exact hu
      · exact (evac_of_tally (reportEnd_tally hk u)).trans hu
  rw [evacExamine_idle hend, hend]

/-- The changes that follow CLEAR BUCKET start no evacuation. -/
theorem clearReaction_idle {f : State → Option State} (hf : f ∈ clearReactions) (hs : s.evac.state = .idle)
    (h : f s = some t) : t.evac.state = .idle := by
  have hkeep : t.tally = s.tally → t.evac.state = .idle := fun e => (evac_of_tally e).trans hs
  simp only [clearReactions, firstReactions, lastReactions, List.cons_append, List.nil_append, List.mem_cons,
    List.not_mem_nil, or_false] at hf
  rcases hf with rfl | rfl | rfl | rfl | rfl | rfl | rfl | rfl | rfl | rfl | rfl | rfl | rfl | rfl
  · exact hkeep (causeStep_tally h)
  · unfold closeStep at h
    dsimp only at h
    split at h <;> cases h
    exact closeRun_idle none hs
  · exact hkeep (gradeStep_tally h)
  · exact hkeep (cutStep_tally h)
  · exact hkeep (trayFreed_tally h)
  · exact hkeep (trayTaken_tally h)
  · exact hkeep (buildsStep_tally h)
  · simp [pauseStep, hs] at h
  · exact hkeep (purgeStart_tally h)
  · exact hkeep (preemptStep_tally h)
  · exact hkeep (safeStep_tally h)
  · exact hkeep (holdStep_tally h)
  · exact hkeep (assignStep_tally h)
  · exact hkeep (grantStep_tally h)

theorem settleClear_idle (h : s.evac.state = .idle) : (settleClear s).evac.state = .idle :=
  settleClear_keeps (fun u => u.evac.state = .idle) (fun _ hf _ _ hs ht => clearReaction_idle hf hs ht)
    (fun d u hu => (evac_of_tally (cutDenom_tally d u)).trans hu) s h

section
variable {x : SlotAddr} {c : Nat} (hc : slotIndex x = some c) (ha : opOk a = true) (hb : opOk b = true)
  (hops : s.dualControl .supervisor a b = none)
include hc ha hb hops

theorem doClearBucket_clears (hp : (s.cassette c).present = true) : doClearBucket ⟨x, a, b⟩ s =
    (okReply [], settleClear (s.setCassette c { s.cassette c with bucket := 0, good := 0, atThreshold := false })) := by
  unfold doClearBucket
  rw [hc]
  dsimp only
  rw [if_neg (by simp [ha, hb]), hops]
  exact if_neg (by simp [hp])

/-! ### START EVACUATION, R164, R165 -/

theorem doStartEvacuation_starts {k : Nat} (hm : s.office.mode = .trading) (hi : s.evac.state = .idle)
    (hsrc : (s.cassette c).sourceable = true) (hs : s.inService (moduleOf c) = true)
    (he : s.evac.enables.get false (moduleOf c) = true) (hk : s.spareFor c = some k) :
    doStartEvacuation ⟨x, a, b⟩ s = (okReply (slotFields k), settle (startEvac c k true s)) := by
  unfold doStartEvacuation
  rw [hc]
  dsimp only
  rw [if_neg (by simp [ha, hb]), if_neg (not_not_intro hm), hops]
  dsimp only
  rw [if_neg (not_not_intro hi), if_neg (by simp [hsrc]), if_neg (by simp [hs, he]), hk]

end

/-- A spare is of another role than any source. -/
theorem spareFor_ne {c k : Nat} (hsrc : (s.cassette c).sourceable = true) (hk : s.spareFor c = some k) : k ≠ c := by
  obtain ⟨-, -, hspare, -, -⟩ := spareFor_some hk
  rintro rfl
  simp [CasRec.sourceable, hspare] at hsrc

theorem leaveSource_eq (c : Nat) (s : State) :
    let r := s.recycler.run
    leaveSource c s = if r.state = .running ∧ r.interrupted = false ∧ r.kind = .dispense ∧ r.cause = none ∧ r.pick = some c
      then s.setRun { r with left := r.left ++ [c], pick := none, failed := 0 } else s :=
  if_congr (by simp [Run.live, and_assoc]) rfl rfl

/-- An evacuation that starts marks its pair, leaves the run that picks from the source without a pick, and asks for a run. -/
theorem startEvac_starts {c k : Nat} {forced : Bool} (h : k ≠ c) :
    let n := (s.posRec (cassettePos c)).counts.items
    let u := (s.setCassette k { s.cassette k with denom := (s.cassette c).denom, evacSpare := true }).setCassette c
      { s.cassette c with evacSource := true }
    let v := u.setEvac { s.evac with
      state := .active, source := some c, spare := some k, forced := forced, atStart := n, moved := 0, failures := 0,
      pause := none, standing := [] }
    startEvac c k forced s = evacExamine (giveEvac (notify (.evacuationStarted c k (s.cassette c).denom n forced)
      (gradeModule (moduleOf c) (leaveSource c v)))) := by
  intro n u v
  have hu : changeCassette c (fun r => { r with evacSource := true })
      (changeCassette k (fun r => { r with denom := (s.cassette c).denom, evacSpare := true }) s) = u :=
    congrArg (fun r : CasRec => (changeCassette k (fun r => { r with denom := (s.cassette c).denom, evacSpare := true })
      s).setCassette c { r with evacSource := true }) (cassette_setCassette_ne s k c _ h)
  unfold startEvac
  dsimp only
  rw [hu]
  rfl

end Sys2Proof.Machine

open Sys2Proof Sys2Proof.Machine

/-- Settles O45: the pair's two ends, the ways, the causes of Table 8-3, and the two requests with their checks. -/
theorem supervisorsClearAndEvacuate : Obligations.SupervisorsClearAndEvacuate := by
  refine ⟨fun s a b ha hb hst hab => ?_, fun tag c a b x s hs hc h1 h2 hops hpres => ⟨?_, fun t hi ht => ?_, ?_⟩⟩
  · have hp : s.evacPair = some (a, b) := by rw [evacPair_of_running hst, ha, hb]; rfl
    intro e run ended done strand empty serving clear first asks
    have hserve : s.evacRunInService = true ↔ serving := evacRunInService_iff
    have hdone : completeEvac a b s = done := completeEvac_eq hab
    have hstrand : strandEvac a b s = strand := strandEvac_eq hab
    refine ⟨fun he => ⟨fun hn => ?_, fun r hr => ?_⟩, fun he => ⟨?_, fun r hr => ⟨fun h => ?_, fun h hf => ?_⟩⟩, fun h => ?_,
      fun r => ⟨rewriteRange_unnamed b, rewriteRange_renames, rewriteRange_removes⟩, fun h hst => ?_, fun h hst => ?_,
      fun h hst => ⟨fun hn => ?_, fun hn hd => ?_⟩, fun h hst t ht => ?_⟩
    · exact (evacExamine_completes hp he fun h => hn (hserve.mp h)).trans hdone
    · exact (reportEnd_evacuate hr).trans ((evacRunClosed_completes hp _ he).trans hdone)
    · exact evacExamine_keeps hp (.inl he)
    · exact (reportEnd_evacuate hr).trans ((evacRunClosed_strands hp he h).trans hstrand)
    · exact (reportEnd_evacuate hr).trans (evacRunClosed_goesOn hp he h hf)
    · exact evacExamine_keeps hp (.inr (hserve.mpr h))
    · exact pauseStep_active_clear hst (pauseCauses_clear ha hb h)
    · exact pauseStep_resumes hst (pauseCauses_clear ha hb h)
    · obtain ⟨l, hl⟩ := pauseCauses_first ha hb h
      exact pauseStep_active_busy hl hst (hserve.mpr hn)
    · obtain ⟨l, hl⟩ := pauseCauses_first ha hb h
      refine ⟨_, pauseStep_pauses hl hst (fun h => hn (hserve.mp h)) fun hdue => hd ?_⟩
      simpa [State.strandDue, State.evacRunOpen] using hdue
    · obtain ⟨l, hl⟩ := pauseCauses_first ha hb h
      exact ⟨_, _, pauseStep_paused hl hst ht, causeNow_cases ..⟩
  · exact exec_ready hs rfl (doClearBucket_clears (s := heard s) hc h1 h2 hops hpres)
  · rw [exec_ready hs rfl (doClearBucket_clears (s := heard s) hc h1 h2 hops hpres)] at ht
    rw [← Host.Outcome.next.inj ht]
    exact (evac_of_tally (respond_tally ..)).trans (settleClear_idle hi)
  · intro k hm hi hsrc hserve he hk n u v r w
    have hw : leaveSource c v = w := leaveSource_eq c v
    have hstart : startEvac c k true (heard s) = _ := startEvac_starts (s := heard s) (spareFor_ne hsrc hk)
    rw [← hw]
    exact exec_ready hs rfl ((doStartEvacuation_starts (s := heard s) hc h1 h2 hops hm hi hsrc hserve he hk).trans
      (congrArg (fun u => (okReply (slotFields k), settle u)) hstart))

end

section
/-! The deposit account over events and requests: which of them count a note, and that no other changes the account or the
settings of its arithmetic (R148). -/

-- One theorem at a time: the whole text holds more theorems than the check has room for threads.
set_option Elab.async false

namespace Sys2Proof.Machine

variable {s t : State}

/-! ### A note counted in notes moved, R148 -/

/-- The account after one note of a run of kind `k`. -/
def Purse.noted (k : RunKind) (p : Purse) : Purse :=
  { p with account :=
      (if k = .deposit then Nat.min p.settings.clip (p.account + p.settings.ratio) else p.account) - p.settings.decr }

/-- From `s` to `t` at most one note was counted. -/
def NotesOne (s t : State) : Prop := t.tally.purse = s.tally.purse ∨ ∃ k, t.tally.purse = s.tally.purse.noted k

@[simp] theorem accountNote_purse (k : RunKind) (s : State) : (accountNote k s).tally.purse = s.tally.purse.noted k := rfl

theorem NotesOne.accountLaw (h : NotesOne s t) (hs : s.accountLaw) : t.accountLaw := by
  obtain h | ⟨k, h⟩ := h
  · exact accountLaw_of_purse h hs
  · exact accountLaw_of_purse (s := accountNote k s) h (accountNote_le s k hs)

/-- What leaves the purse may follow. -/
theorem NotesOne.purse {u : State} (h : NotesOne s t) (e : u.tally.purse = t.tally.purse) : NotesOne s u := by
  unfold NotesOne
  rwa [e]

@[simp] theorem escrowNote_purse (d : Nat) (s : State) :
    (escrowNote d s).tally.purse = s.tally.purse.noted s.recycler.run.kind := rfl

@[simp] theorem foreignNote_purse (s : State) : (foreignNote s).tally.purse = s.tally.purse.noted s.recycler.run.kind := rfl

theorem bookNote_purge {x : PathNote} {p : Nat} (h : isPurgePos p = true) (s : State) : (bookNote x p s).tally = s.tally := by
  unfold bookNote
  dsimp only
  rw [if_pos h, trayNotesLeft_tally]
  split <;> simp

theorem bookNote_purse {x : PathNote} {p : Nat} (h : isPurgePos p = false) (s : State) :
    (bookNote x p s).tally.purse = s.tally.purse.noted s.recycler.run.kind := by
  unfold bookNote
  dsimp only
  rw [if_neg (by simp [h])]
  split <;> simp

/-- A note that arrives in escrow, or is booked elsewhere than in a purge bin, counts. -/
theorem arriveNote_counts {x : PathNote} (h : x.dest = .escrow ∨
    ∃ p, x.dest = .pos p ∧ isPurgePos p = false ∧ s.canBook x p = true) :
    (arriveNote x s).tally.purse = s.tally.purse.noted s.recycler.run.kind := by
  unfold arriveNote
  obtain h | ⟨p, h, hp, hc⟩ := h
  · rw [h]; rfl
  · rw [h]
    dsimp only
    rw [if_pos hc, bookNote_purse hp]
    rfl

/-- A note into a purge bin, and one that the book cannot take, leave the account. -/
theorem arriveNote_keeps {x : PathNote} {p : Nat} (h : x.dest = .pos p)
    (hp : isPurgePos p = true ∨ s.canBook x p = false) : (arriveNote x s).tally.purse = s.tally.purse := by
  unfold arriveNote
  rw [h]
  dsimp only
  split
  · next hc => rw [bookNote_purge (hp.resolve_right (by simp [hc]))]; rfl
  · rfl

theorem arriveNote_notes (x : PathNote) (s : State) : NotesOne s (arriveNote x s) := by
  cases hx : x.dest with
  | escrow => exact .inr ⟨_, arriveNote_counts (.inl hx)⟩
  | pos p =>
    cases hp : isPurgePos p with
    | true => exact .inl (arriveNote_keeps hx (.inl hp))
    | false =>
      cases hc : s.canBook x p with
      | true => exact .inr ⟨_, arriveNote_counts (.inr ⟨p, hx, hp, hc⟩)⟩
      | false => exact .inl (arriveNote_keeps hx (.inr hc))

theorem headNote_notes (n : Nat) (x : Reading) (s : State) : NotesOne s (headNote n x s) := by
  have hforeign : NotesOne s (foreignNote s) := .inr ⟨_, foreignNote_purse s⟩
  unfold headNote
  split
  · exact hforeign
  · split
    · exact hforeign
    · split
      · next hr => exact .inl (by rw [routeNote_tally hr])
      · exact hforeign

theorem doubleAt_notes (p : PickPoint) (s : State) : NotesOne s (doubleAt p s) := by
  unfold doubleAt
  split
  · exact .inl (by simp)
  · split
    · exact .inr ⟨_, foreignNote_purse s⟩
    · exact .inl rfl
  · exact .inl (by simp)

/-! ### Events of the mechanism -/

theorem readNote_notes (p : ReadPoint) (x : Reading) (s : State) : NotesOne s (readNote p x s) := by
  unfold readNote
  split
  · exact .inl rfl
  split
  · split
    · split
      · exact (headNote_notes ..).purse (settle_purse _)
      · exact .inl rfl
    · exact .inl rfl
  · exact .inl (by split <;> simp)

theorem noteArrives_notes (a : Arrival) (s : State) : NotesOne s (noteArrives a s) := by
  unfold noteArrives
  split
  · split
    · next n u h =>
      have hu : u.tally.purse = s.tally.purse := by rw [arriving_tally h]
      have hn : NotesOne s (arriveNote n u) := by
        have hn := arriveNote_notes n u
        unfold NotesOne at hn ⊢
        rwa [hu] at hn
      exact hn.purse (settle_purse _)
    · exact .inl rfl
  · exact .inl rfl

theorem event_notes {f : State → State} (h : NotesOne s (f s)) : NotesOne s (event f s) := by
  cases hp : s.powered with
  | false => rw [event_off f s hp]; exact .inl rfl
  | true => rw [event_on f s hp]; exact h.purse (by simp)

theorem event_purse {f : State → State} (h : (f s).tally.purse = s.tally.purse) :
    (event f s).tally.purse = s.tally.purse := by
  cases hp : s.powered with
  | false => rw [event_off f s hp]
  | true => rw [event_on f s hp, transmit_tally, h]

@[simp] theorem headEmpties_purse (h : Fin 2) (s : State) : (headEmpties h s).tally.purse = s.tally.purse := by
  unfold headEmpties; dsimp only; split <;> simp
@[simp] theorem tagsRead_purse (m : Nat) (x : Tab 6 (Option Nat)) (s : State) :
    (tagsRead m x s).tally.purse = s.tally.purse := by
  unfold tagsRead
  dsimp only
  split
  · rw [settle_purse, setModRec_tally]
    exact congrArg Tally.purse (checkTags_tally m x s)
  · rfl
@[simp] theorem purgeOver_purse (b : Bool) (n : Nat) (s : State) : (purgeOver b n s).tally.purse = s.tally.purse := by
  unfold purgeOver; (repeat' split) <;> simp

/-! ### Events of the station line, the bay, the safe and the clock -/

theorem inTurn_purse {f : Turn → State → State} (hf : ∀ x u, (f x u).tally = u.tally) (s : State) :
    (inTurn f s).tally.purse = s.tally.purse := by
  unfold inTurn; split <;> simp [hf]
@[simp] theorem releaseContainer_tally (n : Nat) (s : State) : (releaseContainer n s).tally = s.tally := by
  unfold releaseContainer; split <;> simp
@[simp] theorem unclaim_tally (n : Nat) (s : State) : (unclaim n s).tally = s.tally := requestRelease_tally ..
@[simp] theorem handOut_tally (k i n m : Nat) (c : ConsRec) (x : Item) (s : State) :
    (handOut k i n c x m s).tally = s.tally := by unfold handOut; dsimp only; (repeat' split) <;> simp
@[simp] theorem takeIn_tally (k i n : Nat) (c : ConsRec) (x : Item) (s : State) : (takeIn k i n c x s).tally = s.tally := by
  unfold takeIn; dsimp only; (repeat' split) <;> simp
@[simp] theorem courierRead_tally (n : Nat) (s : State) : (courierRead n s).tally = s.tally := by
  unfold courierRead; (repeat' split) <;> simp
@[simp] theorem courierCloses_purse (s : State) : (courierCloses s).tally.purse = s.tally.purse := by
  unfold courierCloses; dsimp only; (repeat' split) <;> simp
@[simp] theorem courierLate_purse (s : State) : (courierLate s).tally.purse = s.tally.purse := by
  unfold courierLate; (repeat' split) <;> simp
@[simp] theorem relockSafe_tally (s : State) : (relockSafe s).tally = s.tally := by
  unfold relockSafe; dsimp only; split <;> simp
@[simp] theorem safeForced_tally (s : State) : (safeForced s).tally = s.tally := by simp [safeForced]
@[simp] theorem forcedEnds_tally (s : State) : (forcedEnds s).tally = s.tally := by simp [forcedEnds]
@[simp] theorem relockDue_purse (s : State) : (relockDue s).tally.purse = s.tally.purse := by
  unfold relockDue; dsimp only; split <;> simp
@[simp] theorem safeReadsOpen_purse (s : State) : (safeReadsOpen s).tally.purse = s.tally.purse := by
  unfold safeReadsOpen; dsimp only; (repeat' split) <;> simp
@[simp] theorem safeReadsClosed_purse (s : State) : (safeReadsClosed s).tally.purse = s.tally.purse := by
  unfold safeReadsClosed; dsimp only; (repeat' split) <;> simp
@[simp] theorem tickClock_tally (s : State) : (tickClock s).tally = s.tally := rfl
@[simp] theorem tickTimers_tally (s : State) : (tickTimers s).tally = s.tally := rfl
@[simp] theorem windowOver_tally (s : State) : (windowOver s).tally = s.tally := by unfold windowOver; split <;> simp
@[simp] theorem safeReading_tally (b : Bool) (s : State) : (safeReading b s).tally = s.tally := rfl
@[simp] theorem doorReading_tally (d : Door) (b : Bool) (s : State) : (doorReading d b s).tally = s.tally := by
  simp [doorReading]

/-- A reading of a sensor, kept without power and acted on with it. -/
theorem reading_purse {f g : State → State} (hf : (f s).tally = s.tally) (hg : (g s).tally.purse = s.tally.purse) :
    (match s.powered with | false => f s | true => transmit (g s)).tally.purse = s.tally.purse := by
  cases s.powered
  · exact congrArg Tally.purse hf
  · exact (congrArg Tally.purse (transmit_tally _)).trans hg

end Sys2Proof.Machine
end

section
/-! The deposit account over the requests: none but SET ARBITER touches it (R147, R148). -/

-- One theorem at a time: the whole text holds more theorems than the check has room for threads.
set_option Elab.async false

namespace Sys2Proof.Machine

variable {s t : State}

/-- The block of a request leaves the deposit account and its settings. -/
def KeepsPurse {α : Type} (f : α → State → Reply × State) : Prop := ∀ q s, (f q s).2.tally.purse = s.tally.purse

/-- Whatever becomes of a request at the gate, it leaves what its block leaves. -/
theorem request_purse {α : Type} {c g : Nat} {b : Body α} {f : α → State → Reply × State}
    (hf : KeepsPurse f) (s : State) :
    (request c g b f s).tally.purse = s.tally.purse := by
  obtain ⟨-, e⟩ | ⟨-, -, e⟩ | ⟨-, -, -, e⟩ | ⟨-, -, -, -, e⟩ | ⟨-, -, -, a, -, e⟩ :=
    request_cases c g b f s <;> rw [e]
  · simp
  · simp
  · simp
  · rw [respond_tally, hf, heard_tally]

@[simp] theorem no_state (x : Status) (s : State) : (no x s).2 = s := rfl
@[simp] theorem noBook_state (x : Refused) (s : State) : (noBook x s).2 = s := rfl

/-! ### What the requests use -/

@[simp] theorem setPostingMode_tally (p : Nat) (m : PostingMode) (s : State) : (Machine.setMode p m s).tally = s.tally := by
  simp [Machine.setMode]
@[simp] theorem markFetched_tally (n : Nat) (s : State) : (markFetched n s).tally = s.tally := rfl
/-- The operator check of OPENING writes nothing but the roster. -/
theorem openingCheck_tally {x y : Nat} (h : openingCheck x y s = .ok t) : t.tally = s.tally := by
  unfold openingCheck at h
  (repeat' split at h) <;> cases h <;> rfl
@[simp] theorem dropTemplateEntries_tally (i : Nat) (s : State) : (dropTemplateEntries i s).tally = s.tally := rfl
@[simp] theorem dropRanges_tally (i : Nat) (s : State) : (dropRanges i s).tally = s.tally := rfl
@[simp] theorem defineDenom_tally (i : Nat) (x : DenomRec) (s : State) : (defineDenom i x s).tally = s.tally := by
  unfold defineDenom; dsimp only; (repeat' split) <;> simp
@[simp] theorem noticeWithin_tally (k n a b c : Nat) (s : State) : (noticeWithin k n a b c s).tally = s.tally := by
  unfold noticeWithin; split <;> simp
@[simp] theorem startBuildFloat_tally (k a b : Nat) (q : BuildFloatReq) (x : Template) (c : Counts) (s : State) :
    (startBuildFloat k q x c a b s).tally = s.tally := by simp [startBuildFloat]
@[simp] theorem handedOver_tally (k n : Nat) (c : Counts) (s : State) : (handedOver k n c s).tally = s.tally := by
  simp [handedOver]
@[simp] theorem adviseTill_tally (n : Nat) (s : State) : (adviseTill n s).tally = s.tally := by
  unfold adviseTill; dsimp only; (repeat' split) <;> simp
@[simp] theorem rebandTill_tally (n : Nat) (s : State) : (rebandTill n s).tally = s.tally := by
  unfold rebandTill; dsimp only; split <;> simp
@[simp] theorem salesFollow_tally (n : Nat) (s : State) : (salesFollow n s).tally = s.tally := by
  unfold salesFollow; split <;> simp
@[simp] theorem queueJob_tally (n : Nat) (x : StationSel) (s : State) : (queueJob n x s).tally = s.tally := by
  unfold queueJob; split <;> simp
@[simp] theorem sourceStarted_tally (n : Nat) (x : CountSource) (s : State) : (sourceStarted n x s).tally = s.tally := by
  unfold sourceStarted; (repeat' split) <;> simp
@[simp] theorem tillAccepts_tally (l : LotRec) (s : State) : (tillAccepts l s).tally = s.tally := by
  unfold tillAccepts; dsimp only; (repeat' split) <;> simp
@[simp] theorem releaseToHand_tally (k : Option Nat) (s : State) : (releaseToHand k s).tally = s.tally := by
  unfold releaseToHand; split <;> simp
@[simp] theorem returnStackOf_tally (n : Nat) (l : LotRec) (s : State) : (returnStackOf n l s).tally = s.tally := by
  unfold returnStackOf; (repeat' split) <;> simp
@[simp] theorem restoreSource_tally (l : LotRec) (s : State) : (restoreSource l s).tally = s.tally := by
  unfold restoreSource; (repeat' split) <;> simp
@[simp] theorem containerAccepts_tally (l : LotRec) (s : State) : (containerAccepts l s).tally = s.tally := by
  unfold containerAccepts; split <;> simp
@[simp] theorem afterAccept_tally (n : Nat) (d : Disposal) (l : LotRec) (s : State) :
    (afterAccept n d l s).tally = s.tally := by unfold afterAccept; dsimp only; (repeat' split) <;> simp
@[simp] theorem acceptLot_tally (n op : Nat) (d : Disposal) (l : LotRec) (s : State) :
    (acceptLot n op d l s).tally = s.tally := by simp [acceptLot]
@[simp] theorem voidLot_tally (n : Nat) (l : LotRec) (s : State) : (voidLot n l s).tally = s.tally := by
  unfold voidLot; dsimp only; rw [voidRelease_tally]; split <;> simp
@[simp] theorem setWindow_tally (w : Option Nat) (s : State) : (setWindow w s).tally = s.tally := by simp [setWindow]
@[simp] theorem engageCons_tally (k a b : Nat) (c : ConsRec) (s : State) : (engageCons k a b c s).tally = s.tally := by
  simp [engageCons]
@[simp] theorem clearOpening_tally (s : State) : (clearOpening s).tally = s.tally := rfl

/-! ### The requests -/

theorem doSetDenomination_purse : KeepsPurse doSetDenomination := by
  intro q s
  unfold doSetDenomination
  dsimp only
  (repeat' split) <;> simp

theorem doClearDenomination_purse : KeepsPurse doClearDenomination := by
  intro q s
  unfold doClearDenomination
  (repeat' split) <;> simp

theorem doQueryPosition_purse : KeepsPurse doQueryPosition := by
  intro q s
  unfold doQueryPosition
  dsimp only
  (repeat' split) <;> simp

theorem doPostPosition_purse : KeepsPurse doPostPosition := by
  intro q s
  unfold doPostPosition
  dsimp only
  (repeat' split) <;> simp

theorem doSetPostingMode_purse : KeepsPurse doSetPostingMode := by
  intro q s
  unfold doSetPostingMode
  dsimp only
  (repeat' split) <;> simp

theorem doFetchPostings_purse : KeepsPurse doFetchPostings := by
  intro q s
  unfold doFetchPostings
  (repeat' split) <;> simp

theorem doAdjustPosition_purse : KeepsPurse doAdjustPosition := by
  intro q s
  unfold doAdjustPosition
  dsimp only
  (repeat' split) <;> simp

theorem doOpening_purse : KeepsPurse doOpening := by
  intro q s
  unfold doOpening
  split
  · rfl
  · next ho =>
    dsimp only
    split <;> simp [openingCheck_tally ho]

theorem doSetTemplate_purse : KeepsPurse doSetTemplate := by
  intro q s
  unfold doSetTemplate
  (repeat' split) <;> rfl

theorem doBuildFloat_purse : KeepsPurse doBuildFloat := by
  intro q s
  unfold doBuildFloat
  (repeat' split) <;> simp

theorem doFloatHanded_purse : KeepsPurse doFloatHanded := by
  intro q s
  unfold doFloatHanded
  dsimp only
  (repeat' split) <;> first
    | next hg => simp [applyGroup_tally hg]
    | simp

theorem doAcceptShort_purse : KeepsPurse doAcceptShort := by
  intro q s
  unfold doAcceptShort
  dsimp only
  (repeat' split) <;> first
    | next hg => simp [applyGroup_tally hg]
    | simp

theorem doRebuild_purse : KeepsPurse doRebuild := by
  intro q s
  unfold doRebuild
  dsimp only
  (repeat' split) <;> simp

theorem doCancelBuild_purse : KeepsPurse doCancelBuild := by
  intro q s
  unfold doCancelBuild
  (repeat' split) <;> simp

theorem doReportSales_purse : KeepsPurse doReportSales := by
  intro q s
  unfold doReportSales
  (repeat' split) <;> simp

theorem doAcceptVariance_purse : KeepsPurse doAcceptVariance := by
  intro q s
  unfold doAcceptVariance
  (repeat' split) <;> simp

theorem doCloseTill_purse : KeepsPurse doCloseTill := by
  intro q s
  unfold doCloseTill
  (repeat' split) <;> simp

theorem doQueryTill_purse : KeepsPurse doQueryTill := by
  intro q s
  unfold doQueryTill
  (repeat' split) <;> simp

theorem doSetLine_purse : KeepsPurse doSetLine := by
  intro q s
  have hset : ∀ l, ({ s with count := { s.count with settings := l } } : State).tally = s.tally := fun _ => rfl
  unfold doSetLine
  dsimp only
  (repeat' split) <;> simp [hset]

theorem doResetStation_purse : KeepsPurse doResetStation := by
  intro q s
  unfold doResetStation
  (repeat' split) <;> simp

theorem doStationQuery_purse : KeepsPurse doStationQuery := by
  intro q s
  unfold doStationQuery
  (repeat' split) <;> simp

theorem doStartCount_purse : KeepsPurse doStartCount := by
  intro q s
  unfold doStartCount
  (repeat' split) <;> simp

theorem doDeclareCoin_purse : KeepsPurse doDeclareCoin := by
  intro q s
  unfold doDeclareCoin
  dsimp only
  (repeat' split) <;> simp

theorem doSetCoinLimit_purse : KeepsPurse doSetCoinLimit := by
  intro q s
  unfold doSetCoinLimit
  (repeat' split) <;> rfl

theorem doAcceptCount_purse : KeepsPurse doAcceptCount := by
  intro q s
  unfold doAcceptCount
  split
  · rfl
  split
  · split
    · rfl
    split
    · rfl
    split
    · rfl
    split
    · rfl
    dsimp only
    split
    · rfl
    · next hg => simp [applyGroup_tally hg]
  · rfl

theorem doRejectCount_purse : KeepsPurse doRejectCount := by
  intro q s
  unfold doRejectCount
  (repeat' split) <;> simp

theorem doVoidLot_purse : KeepsPurse doVoidLot := by
  intro q s
  unfold doVoidLot
  (repeat' split) <;> simp

theorem doResumeDisposal_purse : KeepsPurse doResumeDisposal := by
  intro q s
  unfold doResumeDisposal
  (repeat' split) <;> simp

theorem doDisposeLotReserve_purse : KeepsPurse doDisposeLotReserve := by
  intro q s
  unfold doDisposeLotReserve
  dsimp only
  (repeat' split) <;> simp

theorem doQueryLot_purse : KeepsPurse doQueryLot := by
  intro q s
  unfold doQueryLot
  (repeat' split) <;> simp

theorem doSetCassette_purse : KeepsPurse doSetCassette := by
  intro q s
  unfold doSetCassette
  dsimp only
  (repeat' split) <;> simp

theorem doInsertCassette_purse : KeepsPurse doInsertCassette := by
  intro q s
  unfold doInsertCassette
  (repeat' split) <;> simp

theorem removeForCollection_purse (c a b : Nat) (s : State) :
    (removeForCollection c a b s).2.tally.purse = s.tally.purse := by
  unfold removeForCollection
  dsimp only
  (repeat' split) <;> first
    | next hg => simp [applyGroup_tally hg]
    | simp

theorem removeStranded_purse (c a b : Nat) (s : State) : (removeStranded c a b s).2.tally.purse = s.tally.purse := by
  unfold removeStranded
  dsimp only
  (repeat' split) <;> first
    | next hg => simp [applyGroup_tally hg]
    | simp

theorem doRemoveCassette_purse : KeepsPurse doRemoveCassette := by
  intro q s
  unfold doRemoveCassette
  split
  · rfl
  split
  · split
    · rfl
    split
    · rfl
    dsimp only
    split
    · rfl
    split
    · rfl
    split
    · rfl
    split
    · simp
    · exact removeForCollection_purse ..
    · exact removeStranded_purse ..
  · rfl

theorem doSetRoute_purse : KeepsPurse doSetRoute := by
  intro q s
  unfold doSetRoute
  dsimp only
  (repeat' split) <;> simp

theorem doOpenFloatWindow_purse : KeepsPurse doOpenFloatWindow := by
  intro q s
  unfold doOpenFloatWindow
  (repeat' split) <;> simp

theorem doCloseFloatWindow_purse : KeepsPurse doCloseFloatWindow := fun _ s => congrArg Tally.purse (setWindow_tally none s)

theorem doSetFaultPolicy_purse : KeepsPurse doSetFaultPolicy := by
  intro q s
  unfold doSetFaultPolicy
  (repeat' split) <;> simp

theorem doClearBucket_purse : KeepsPurse doClearBucket := by
  intro q s
  unfold doClearBucket
  (repeat' split) <;> simp

theorem doSetEvacuation_purse : KeepsPurse doSetEvacuation := by
  intro q s
  unfold doSetEvacuation
  (repeat' split) <;> simp

theorem doStartEvacuation_purse : KeepsPurse doStartEvacuation := by
  intro q s
  unfold doStartEvacuation
  (repeat' split) <;> simp

theorem doOpenBag_purse : KeepsPurse doOpenBag := by
  intro q s
  unfold doOpenBag
  (repeat' split) <;> simp

theorem doFillBag_purse : KeepsPurse doFillBag := by
  intro q s
  unfold doFillBag
  dsimp only
  (repeat' split) <;> simp

theorem doCloseBag_purse : KeepsPurse doCloseBag := by
  intro q s
  unfold doCloseBag
  (repeat' split) <;> simp

theorem doDiscardContainer_purse : KeepsPurse doDiscardContainer := by
  intro q s
  unfold doDiscardContainer
  (repeat' split) <;> simp

theorem doCreateConsignment_purse : KeepsPurse doCreateConsignment := by
  intro q s
  unfold doCreateConsignment
  (repeat' split) <;> simp

theorem doAddItem_purse : KeepsPurse doAddItem := by
  intro q s
  unfold doAddItem
  (repeat' split) <;> simp

theorem doStage_purse : KeepsPurse doStage := by
  intro q s
  unfold doStage
  (repeat' split) <;> simp

theorem doEngage_purse : KeepsPurse doEngage := by
  intro q s
  unfold doEngage
  (repeat' split) <;> simp

theorem doRetrieve_purse : KeepsPurse doRetrieve := by
  intro q s
  unfold doRetrieve
  (repeat' split) <;> simp

theorem doLockBay_purse : KeepsPurse doLockBay := by
  intro q s
  unfold doLockBay
  (repeat' split) <;> simp

theorem doAbort_purse : KeepsPurse doAbort := by
  intro q s
  unfold doAbort
  (repeat' split) <;> simp

theorem doSetDoorLimit_purse : KeepsPurse doSetDoorLimit := fun _ _ =>
  congrArg Tally.purse ((checkHeld_tally ..).trans (checkHeld_tally ..))

theorem doQueryContainer_purse : KeepsPurse doQueryContainer := by
  intro q s
  unfold doQueryContainer
  (repeat' split) <;> simp

theorem doQueryConsignment_purse : KeepsPurse doQueryConsignment := by
  intro q s
  unfold doQueryConsignment
  (repeat' split) <;> simp

theorem doEnterHold_purse : KeepsPurse doEnterHold := by
  intro q s
  unfold doEnterHold
  (repeat' split) <;> simp

theorem doLeaveHold_purse : KeepsPurse doLeaveHold := by
  intro q s
  unfold doLeaveHold
  (repeat' split) <;> simp

theorem doSetRosterEntry_purse : KeepsPurse doSetRosterEntry := by
  intro q s
  unfold doSetRosterEntry
  (repeat' split) <;> rfl

theorem doOpenSafe_purse : KeepsPurse doOpenSafe := by
  intro q s
  unfold doOpenSafe
  (repeat' split) <;> simp

theorem doCloseSafe_purse : KeepsPurse doCloseSafe := by
  intro q s
  unfold doCloseSafe
  (repeat' split) <;> simp

theorem doSetSafeRelock_purse : KeepsPurse doSetSafeRelock := fun _ _ => rfl

theorem doSetClock_purse : KeepsPurse doSetClock := by
  intro q s
  unfold doSetClock
  (repeat' split) <;> simp

theorem doClearFaultRecord_purse : KeepsPurse doClearFaultRecord := fun _ _ => rfl

theorem doGetStatus_purse : KeepsPurse doGetStatus := fun _ _ => rfl

theorem doRestart_purse : KeepsPurse doRestart := by
  intro q s
  unfold doRestart
  (repeat' split) <;> simp

end Sys2Proof.Machine
end

section
/-! Starts clear the deposit account, and every step keeps it within its ceiling (O14). -/

-- One theorem at a time: the whole text holds more theorems than the check has room for threads.
set_option Elab.async false

namespace Sys2Proof.Machine

variable {s t : State} {g : Nat}

/-! ### A start, R148 -/

theorem collect_tally {f : State → State} (hf : ∀ u, (f u).tally = u.tally) (s : State) : (collect f s).1.tally = s.tally :=
  hf _

theorem collectEach_tally {f : Nat → State → State} (hf : ∀ n u, (f n u).tally = u.tally) (l : List Nat) (s : State) :
    (collectEach f l s).1.tally = s.tally := by
  induction l generalizing s with
  | nil => rfl
  | cons n l ih => exact (ih _).trans (collect_tally (hf n) s)

theorem startEvacuation_purse (s : State) : (startEvacuation s).tally.purse = s.tally.purse := by
  unfold startEvacuation; split <;> rfl

theorem startCuts_tally (l : List Nat) (s : State) : (startCuts l s).1.tally = s.tally := by
  induction l generalizing s with
  | nil => rfl
  | cons d l ih => exact (ih _).trans (cutEntries_tally d s)

theorem startBuild_tally (k : Nat) (l : List Nat) (s : State) : (startBuild k l s).tally = s.tally := by
  unfold startBuild
  split
  · rfl
  · dsimp only
    split <;> simp

theorem startCancelling_tally (k : Nat) (s : State) : (startCancelling k s).tally = s.tally := by
  unfold startCancelling; (repeat' split) <;> simp

theorem startDesk_tally (s : State) : (startDesk s).1.tally = s.tally := by
  unfold startDesk
  dsimp only
  rw [each_tally startCancelling_tally, setTrayOwner_tally,
    collectEach_tally fun k u => startBuild_tally k _ u, startCuts_tally]

theorem startCons_tally (k : Nat) (s : State) : (startCons k s).tally = s.tally := by
  unfold startCons
  split
  · rfl
  · split
    · split <;> simp
    · split <;> simp
    · split <;> simp
    · simp

@[simp] theorem startDoor_tally (d : Door) (s : State) : (startDoor d s).tally = s.tally := by
  unfold startDoor; split <;> simp

@[simp] theorem startSafe_tally (s : State) : (startSafe s).tally = s.tally := by
  unfold startSafe; dsimp only; split <;> simp

theorem startMode_tally (s : State) : (startMode s).tally = s.tally := by unfold startMode; split <;> simp

theorem startRecycler_account (s : State) : (startRecycler s).arbiter.account = 0 := rfl

/-- The recycler's step of a start sets the deposit account to 0; what follows it leaves the account. -/
theorem started_accountLaw (s : State) : (started s).accountLaw := by
  unfold started
  generalize (startCountUnit (startBook s)).1 = u
  have hclear : (startEvacuation (startRecycler u)).accountLaw := by
    refine accountLaw_of_purse (startEvacuation_purse _) ?_
    rw [State.accountLaw, startRecycler_account]
    exact Nat.zero_le _
  generalize startEvacuation (startRecycler u) = u at hclear ⊢
  have hdesk := startDesk_tally u
  generalize (startDesk u).1 = v at hdesk ⊢
  have hcons : (collectEach startCons consignmentSlots
      (v.setDoors ⟨v.doors.office.start, v.doors.courier.start, false, false, none⟩)).1.tally = u.tally := by
    rw [collectEach_tally startCons_tally, setDoors_tally, hdesk]
  dsimp only
  generalize (collectEach startCons consignmentSlots _).1 = v at hcons ⊢
  have hdoors : (collect (fun s => startSafe (startDoor .courier (startDoor .office s))) (startMode v)).1.tally = u.tally := by
    rw [collect_tally (by simp), startMode_tally, hcons]
  exact accountLaw_of_purse (congrArg Tally.purse hdoors) hclear

/-- Steps 4 to 6 of R209. -/
theorem startFrom_accountLaw (a b : Bool) (f : Nat → ModState) (s : State) : (startFrom a b f s).accountLaw := by
  obtain ⟨l, e⟩ := startFrom_eq a b f s
  exact accountLaw_of_purse (by simp [e]) (started_accountLaw s)

theorem powerOn_accountLaw (b : Bool) (hs : s.accountLaw) : ∃ t, execPowerOn b s = .next t ∧ t.accountLaw := by
  refine ⟨_, rfl, ?_⟩
  cases s.powered
  · exact startFrom_accountLaw ..
  · exact hs

/-! ### The commands that are not plain requests or events -/

theorem stopLink_accountLaw (hs : s.accountLaw) : (stopLink s).accountLaw := by
  obtain ⟨-, -, e⟩ | ⟨-, e⟩ := stopLink_cases s <;> rw [e]
  · exact startFrom_accountLaw ..
  · exact hs

theorem restartSent_tally (c : Nat) (x : Status) (s : State) : (restartSent c x s).tally = s.tally := by
  unfold restartSent; split <;> rfl

theorem replySent_tally (s : State) : (replySent s).tally = s.tally := by
  unfold replySent
  dsimp only
  split
  · split
    · rw [catchUp_tally, dropEntries_tally]; rfl
    · rfl
  · rfl

theorem frameDone_accountLaw (f : Frame) (hs : s.accountLaw) : (frameDone f s).accountLaw := by
  have kept {t : State} (h : t.tally = s.tally) : t.accountLaw := accountLaw_of_purse (congrArg Tally.purse h) hs
  unfold frameDone
  dsimp only
  split
  · exact stopLink_accountLaw (kept ((restartSent_tally ..).trans (replySent_tally _)))
  · exact stopLink_accountLaw (kept rfl)
  · exact kept rfl

theorem execFrameSent_accountLaw (hs : s.accountLaw) : ∃ t, execFrameSent s = .next t ∧ t.accountLaw := by
  refine ⟨_, rfl, ?_⟩
  cases hp : s.powered with
  | false => rwa [event_off _ s hp]
  | true =>
    rw [event_on _ s hp]
    refine accountLaw_of_purse (congrArg Tally.purse (transmit_tally _)) ?_
    split
    · exact frameDone_accountLaw _ hs
    · exact hs

theorem execFetchPostings_accountLaw (b : Body Nat) (hs : s.accountLaw) :
    ∃ t, execFetchPostings g b s = .next t ∧ t.accountLaw := by
  have hreq := request_purse (c := 22) (g := g) (b := b) doFetchPostings_purse s
  unfold execFetchPostings
  dsimp only
  (repeat' split) <;> exact ⟨_, rfl, accountLaw_of_purse (by simp [hreq]) hs⟩

theorem execUnknownRequest_accountLaw (c : Nat) (hs : s.accountLaw) :
    ∃ t, execUnknownRequest c g s = .next t ∧ t.accountLaw := by
  refine ⟨_, rfl, ?_⟩
  split
  · exact hs
  · exact accountLaw_of_purse (request_purse (fun _ _ => rfl) s) hs

theorem execLinkBusy_accountLaw (c : Nat) (hs : s.accountLaw) : ∃ t, execLinkBusy c g s = .next t ∧ t.accountLaw := by
  refine ⟨_, rfl, ?_⟩
  split
  · exact accountLaw_of_purse (by simp) hs
  · exact hs

theorem execClockTick_accountLaw (hs : s.accountLaw) : ∃ t, execClockTick s = .next t ∧ t.accountLaw := by
  refine ⟨_, rfl, accountLaw_of_purse ?_ hs⟩
  split
  · rfl
  · simp

/-- SET ARBITER brings the account down to the new ceiling (R147). -/
theorem doSetArbiter_accountLaw (q : SetArbiterReq) (hs : s.accountLaw) : (doSetArbiter q s).2.accountLaw := by
  unfold doSetArbiter
  split
  · exact hs
  split
  · exact hs
  split
  · exact hs
  · exact Nat.min_le_right ..

theorem execSetArbiter_accountLaw (b : Body SetArbiterReq) (hs : s.accountLaw) :
    (request 69 g b doSetArbiter s).accountLaw := by
  obtain ⟨-, e⟩ | ⟨-, -, e⟩ | ⟨-, -, -, e⟩ | ⟨-, -, -, -, e⟩ | ⟨-, -, -, a, -, e⟩ :=
    request_cases 69 g b doSetArbiter s <;> rw [e]
  · exact hs
  · exact accountLaw_of_purse (by simp) hs
  · exact hs
  · exact accountLaw_of_purse (by simp) hs
  · exact accountLaw_of_purse (congrArg Tally.purse (respond_tally ..)) (doSetArbiter_accountLaw (s := heard s) a hs)

theorem doublePicked_notes (p : PickPoint) (s : State) :
    NotesOne s (if s.picksFrom p then settle (doubleAt p s) else s) := by
  split
  · exact (doubleAt_notes p s).purse (settle_purse _)
  · exact .inl rfl

/-! ### Every command -/

theorem exec_accountLaw (c : Instr) (hs : s.accountLaw) : ∃ t, exec c s = .next t ∧ t.accountLaw := by
  have keep {t : State} (h : t.tally.purse = s.tally.purse) : t.accountLaw := accountLaw_of_purse h hs
  cases c with
  -- Book unit
  | setDenomination tag body => exact ⟨_, rfl, keep (request_purse doSetDenomination_purse s)⟩
  | clearDenomination tag body => exact ⟨_, rfl, keep (request_purse doClearDenomination_purse s)⟩
  | queryStock tag body => exact ⟨_, rfl, keep (request_purse (fun _ _ => rfl) s)⟩
  | queryPosition tag body => exact ⟨_, rfl, keep (request_purse doQueryPosition_purse s)⟩
  | postPosition tag body => exact ⟨_, rfl, keep (request_purse doPostPosition_purse s)⟩
  | setPostingMode tag body => exact ⟨_, rfl, keep (request_purse doSetPostingMode_purse s)⟩
  | fetchPostings tag body => exact execFetchPostings_accountLaw body hs
  | adjustPosition tag body => exact ⟨_, rfl, keep (request_purse doAdjustPosition_purse s)⟩
  | opening tag body => exact ⟨_, rfl, keep (request_purse doOpening_purse s)⟩
  -- Till desk
  | setTemplate tag body => exact ⟨_, rfl, keep (request_purse doSetTemplate_purse s)⟩
  | buildFloat tag body => exact ⟨_, rfl, keep (request_purse doBuildFloat_purse s)⟩
  | floatHanded tag body => exact ⟨_, rfl, keep (request_purse doFloatHanded_purse s)⟩
  | acceptShort tag body => exact ⟨_, rfl, keep (request_purse doAcceptShort_purse s)⟩
  | rebuild tag body => exact ⟨_, rfl, keep (request_purse doRebuild_purse s)⟩
  | cancelBuild tag body => exact ⟨_, rfl, keep (request_purse doCancelBuild_purse s)⟩
  | queryBuilds tag body => exact ⟨_, rfl, keep (request_purse (fun _ _ => rfl) s)⟩
  | reportSales tag body => exact ⟨_, rfl, keep (request_purse doReportSales_purse s)⟩
  | acceptVariance tag body => exact ⟨_, rfl, keep (request_purse doAcceptVariance_purse s)⟩
  | closeTill tag body => exact ⟨_, rfl, keep (request_purse doCloseTill_purse s)⟩
  | queryTill tag body => exact ⟨_, rfl, keep (request_purse doQueryTill_purse s)⟩
  -- Count unit
  | setLine tag body => exact ⟨_, rfl, keep (request_purse doSetLine_purse s)⟩
  | resetStation tag body => exact ⟨_, rfl, keep (request_purse doResetStation_purse s)⟩
  | stationQuery tag body => exact ⟨_, rfl, keep (request_purse doStationQuery_purse s)⟩
  | startCount tag body => exact ⟨_, rfl, keep (request_purse doStartCount_purse s)⟩
  | declareCoin tag body => exact ⟨_, rfl, keep (request_purse doDeclareCoin_purse s)⟩
  | setCoinLimit tag body => exact ⟨_, rfl, keep (request_purse doSetCoinLimit_purse s)⟩
  | acceptCount tag body => exact ⟨_, rfl, keep (request_purse doAcceptCount_purse s)⟩
  | rejectCount tag body => exact ⟨_, rfl, keep (request_purse doRejectCount_purse s)⟩
  | voidLot tag body => exact ⟨_, rfl, keep (request_purse doVoidLot_purse s)⟩
  | resumeDisposal tag body => exact ⟨_, rfl, keep (request_purse doResumeDisposal_purse s)⟩
  | disposeLotReserve tag body => exact ⟨_, rfl, keep (request_purse doDisposeLotReserve_purse s)⟩
  | queryLot tag body => exact ⟨_, rfl, keep (request_purse doQueryLot_purse s)⟩
  | queryJobs tag body => exact ⟨_, rfl, keep (request_purse (fun _ _ => rfl) s)⟩
  -- Recycler controller
  | setCassette tag body => exact ⟨_, rfl, keep (request_purse doSetCassette_purse s)⟩
  | insertCassette tag body => exact ⟨_, rfl, keep (request_purse doInsertCassette_purse s)⟩
  | removeCassette tag body => exact ⟨_, rfl, keep (request_purse doRemoveCassette_purse s)⟩
  | setRoute tag body => exact ⟨_, rfl, keep (request_purse doSetRoute_purse s)⟩
  | queryRecycler tag body => exact ⟨_, rfl, keep (request_purse (fun _ _ => rfl) s)⟩
  | setArbiter tag body => exact ⟨_, rfl, execSetArbiter_accountLaw body hs⟩
  | openFloatWindow tag body => exact ⟨_, rfl, keep (request_purse doOpenFloatWindow_purse s)⟩
  | closeFloatWindow tag body => exact ⟨_, rfl, keep (request_purse doCloseFloatWindow_purse s)⟩
  | queryArbiter tag body => exact ⟨_, rfl, keep (request_purse (fun _ _ => rfl) s)⟩
  | setFaultPolicy tag body => exact ⟨_, rfl, keep (request_purse doSetFaultPolicy_purse s)⟩
  | clearBucket tag body => exact ⟨_, rfl, keep (request_purse doClearBucket_purse s)⟩
  | setEvacuation tag body => exact ⟨_, rfl, keep (request_purse doSetEvacuation_purse s)⟩
  | startEvacuation tag body => exact ⟨_, rfl, keep (request_purse doStartEvacuation_purse s)⟩
  | queryEvacuation tag body => exact ⟨_, rfl, keep (request_purse (fun _ _ => rfl) s)⟩
  -- Bay controller
  | openBag tag body => exact ⟨_, rfl, keep (request_purse doOpenBag_purse s)⟩
  | fillBag tag body => exact ⟨_, rfl, keep (request_purse doFillBag_purse s)⟩
  | closeBag tag body => exact ⟨_, rfl, keep (request_purse doCloseBag_purse s)⟩
  | discardContainer tag body => exact ⟨_, rfl, keep (request_purse doDiscardContainer_purse s)⟩
  | createConsignment tag body => exact ⟨_, rfl, keep (request_purse doCreateConsignment_purse s)⟩
  | addItem tag body => exact ⟨_, rfl, keep (request_purse doAddItem_purse s)⟩
  | stage tag body => exact ⟨_, rfl, keep (request_purse doStage_purse s)⟩
  | engage tag body => exact ⟨_, rfl, keep (request_purse doEngage_purse s)⟩
  | retrieve tag body => exact ⟨_, rfl, keep (request_purse doRetrieve_purse s)⟩
  | lockBay tag body => exact ⟨_, rfl, keep (request_purse doLockBay_purse s)⟩
  | abort tag body => exact ⟨_, rfl, keep (request_purse doAbort_purse s)⟩
  | setDoorLimit tag body => exact ⟨_, rfl, keep (request_purse doSetDoorLimit_purse s)⟩
  | queryContainer tag body => exact ⟨_, rfl, keep (request_purse doQueryContainer_purse s)⟩
  | queryConsignment tag body => exact ⟨_, rfl, keep (request_purse doQueryConsignment_purse s)⟩
  | queryBay tag body => exact ⟨_, rfl, keep (request_purse (fun _ _ => rfl) s)⟩
  -- Office control
  | enterHold tag body => exact ⟨_, rfl, keep (request_purse doEnterHold_purse s)⟩
  | leaveHold tag body => exact ⟨_, rfl, keep (request_purse doLeaveHold_purse s)⟩
  | setRosterEntry tag body => exact ⟨_, rfl, keep (request_purse doSetRosterEntry_purse s)⟩
  | openSafe tag body => exact ⟨_, rfl, keep (request_purse doOpenSafe_purse s)⟩
  | closeSafe tag body => exact ⟨_, rfl, keep (request_purse doCloseSafe_purse s)⟩
  | setSafeRelock tag body => exact ⟨_, rfl, keep (request_purse doSetSafeRelock_purse s)⟩
  | setClock tag body => exact ⟨_, rfl, keep (request_purse doSetClock_purse s)⟩
  | clearFaultRecord tag body => exact ⟨_, rfl, keep (request_purse doClearFaultRecord_purse s)⟩
  -- Link unit
  | getStatus tag body => exact ⟨_, rfl, keep (request_purse doGetStatus_purse s)⟩
  | restart tag body => exact ⟨_, rfl, keep (request_purse doRestart_purse s)⟩
  | unknownRequest code tag => exact execUnknownRequest_accountLaw code hs
  | linkBusy code tag => exact execLinkBusy_accountLaw code hs
  | droppedFrame reason => exact ⟨_, rfl, keep (event_purse rfl)⟩
  | byteGapTimeout => exact ⟨_, rfl, keep (event_purse rfl)⟩
  | lineBreak => exact ⟨_, rfl, keep (event_purse rfl)⟩
  | frameSent => exact execFrameSent_accountLaw hs
  -- Power and time
  | powerOn storeGood => exact powerOn_accountLaw storeGood hs
  | powerLoss => exact ⟨_, rfl, keep rfl⟩
  | clockTick => exact execClockTick_accountLaw hs
  | windowOpen consignment => exact ⟨_, rfl, keep (event_purse (by simp))⟩
  | windowClose consignment => exact ⟨_, rfl, keep (event_purse (by simp))⟩
  | floatWindowExpiry => exact ⟨_, rfl, keep (event_purse (by simp))⟩
  | heldOpen door => exact ⟨_, rfl, keep (event_purse (by simp))⟩
  | courierDoorTimeout => exact ⟨_, rfl, keep (event_purse (courierLate_purse s))⟩
  | relockTime => exact ⟨_, rfl, keep (event_purse (relockDue_purse s))⟩
  -- Safe and bay sensors and readers
  | safeSensorOpen => exact ⟨_, rfl, keep (reading_purse (safeReading_tally true s) (safeReadsOpen_purse s))⟩
  | safeSensorClosed => exact ⟨_, rfl, keep (reading_purse (safeReading_tally false s) (safeReadsClosed_purse s))⟩
  | officeDoorOpened => exact ⟨_, rfl, keep (reading_purse (doorReading_tally .office true s) (by simp))⟩
  | officeDoorClosed =>
    exact ⟨_, rfl, keep (reading_purse (g := fun u => bayAfter (sensorClosed .office u))
      (doorReading_tally .office false s) (by simp))⟩
  | courierDoorOpened => exact ⟨_, rfl, keep (reading_purse (doorReading_tally .courier true s) (by simp))⟩
  | courierDoorClosed => exact ⟨_, rfl, keep (reading_purse (doorReading_tally .courier false s) (courierCloses_purse s))⟩
  | officeSideRead number => exact ⟨_, rfl, keep (event_purse (by simp))⟩
  | courierSideRead number => exact ⟨_, rfl, keep (event_purse (by simp))⟩
  -- Station line
  | pollCycle => exact ⟨_, rfl, keep (event_purse (by simp))⟩
  | attachMark => exact ⟨_, rfl, keep (event_purse rfl)⟩
  | recordSent signals => exact ⟨_, rfl, keep (event_purse (inTurn_purse (fun _ _ => by simp) s))⟩
  | replyTimeout => exact ⟨_, rfl, keep (event_purse (inTurn_purse (fun _ _ => by simp) s))⟩
  | recordGapTimeout signals => exact ⟨_, rfl, keep (event_purse (inTurn_purse (fun _ _ => by simp) s))⟩
  | failedRecord signals => exact ⟨_, rfl, keep (event_purse (inTurn_purse (fun _ _ => by simp) s))⟩
  | stationState station signals mech stack =>
    exact ⟨_, rfl, keep (event_purse (inTurn_purse (fun x u => fromStation_tally _ _ (fun _ _ => by simp) x u) s))⟩
  | reportHead station signals head =>
    exact ⟨_, rfl, keep (event_purse (inTurn_purse (fun x u => fromStation_tally _ _ (fun _ _ => by simp) x u) s))⟩
  | reportItem station signals item =>
    exact ⟨_, rfl, keep (event_purse (inTurn_purse (fun x u => fromStation_tally _ _ (fun _ _ => by simp) x u) s))⟩
  | reportEnd station signals last =>
    exact ⟨_, rfl, keep (event_purse (inTurn_purse (fun x u => fromStation_tally _ _ (fun _ _ => by simp) x u) s))⟩
  | reportQuietTimeout => exact ⟨_, rfl, keep (event_purse (inTurn_purse (fun _ _ => by simp) s))⟩
  | reportRecordTimeout => exact ⟨_, rfl, keep (event_purse (inTurn_purse (fun _ _ => by simp) s))⟩
  -- Recycler mechanism
  | noteRead point reading => exact ⟨_, rfl, (event_notes (readNote_notes point reading s)).accountLaw hs⟩
  | noteArrived dest => exact ⟨_, rfl, (event_notes (noteArrives_notes dest s)).accountLaw hs⟩
  | misfeed point => exact ⟨_, rfl, keep (event_purse (by split <;> simp))⟩
  | doublePick point => exact ⟨_, rfl, (event_notes (doublePicked_notes point s)).accountLaw hs⟩
  | jam point => exact ⟨_, rfl, keep (event_purse (by simp))⟩
  | moduleFault module => exact ⟨_, rfl, keep (event_purse (by simp))⟩
  | moduleFaultCleared module => exact ⟨_, rfl, keep (event_purse (by simp))⟩
  | headEmpty i => exact ⟨_, rfl, keep (event_purse (headEmpties_purse i s))⟩
  | headLoaded i => exact ⟨_, rfl, keep (event_purse rfl)⟩
  | tagCheckDone module tags => exact ⟨_, rfl, keep (event_purse (tagsRead_purse _ tags s))⟩
  | purgeEnded clear notes => exact ⟨_, rfl, keep (event_purse (purgeOver_purse clear notes s))⟩

theorem idle_tally (s : State) : (idle s).tally = s.tally := by
  unfold idle; split <;> simp

/-- Every step keeps the deposit account within its ceiling. -/
theorem step_accountLaw (hs : s.accountLaw) (ht : step s = .next t) : t.accountLaw := by
  unfold step at ht
  split at ht
  · rw [← Host.Outcome.next.inj ht]
    exact accountLaw_of_purse (congrArg Tally.purse (idle_tally s)) hs
  · next c rest _ =>
    obtain ⟨u, hu, hk⟩ := exec_accountLaw c (s := { s with pending := rest }) hs
    rw [hu] at ht
    rwa [← Host.Outcome.next.inj ht]

/-! ### A note that arrives and a foreign note at an intake head, R148 -/

theorem account_of_purse {k : RunKind} (h : t.tally.purse = s.tally.purse.noted k) :
    t.arbiter.account = (if k = .deposit then Nat.min s.arbiter.settings.clip (s.arbiter.account + s.arbiter.settings.ratio)
      else s.arbiter.account) - s.arbiter.settings.decr :=
  congrArg Purse.account h

/-- What NOTE ARRIVED makes of the purse is what the arrival of the note does. -/
theorem noteArrived_purse {a : Arrival} {x : PathNote} (hp : s.powered = true) (hlive : s.recycler.run.live = true)
    (hx : s.recycler.run.path.find? (fun x => x.dest = arrivalDest a) = some x) (ht : exec (.noteArrived a) s = .next t) :
    t.tally.purse = (arriveNote x s).tally.purse := by
  rw [exec_event (noteArrives a) hp rfl (noteArrives_found hlive hx)] at ht
  rw [← Host.Outcome.next.inj ht, transmit_tally, settle_purse]

/-- A reading that is no note's at an intake head counts one foreign note. -/
theorem foreignRead_purse {h : Fin 2} {n : Nat} (hp : s.powered = true) (hroom : s.recycler.run.roomToPick = true)
    (hpick : s.picksFrom (.head h) = true) (hlot : s.recycler.run.lot = some n)
    (ht : exec (.noteRead (.head h) .noRead) s = .next t) : t.tally.purse = s.tally.purse.noted .deposit := by
  rw [exec_noteRead_head .noRead hp hroom hpick hlot] at ht
  rw [← Host.Outcome.next.inj ht, transmit_tally, settle_purse, ← kind_of_picksFrom_head hpick]
  exact foreignNote_purse s

end Sys2Proof.Machine

open Sys2Proof Sys2Proof.Machine

/-- Settles O14: a step changes the account by SET ARBITER, which brings it below its new ceiling, by a start, which clears it,
or by at most one note, whose arithmetic R148 bounds. -/
theorem stepKeepsDepositAccount : Obligations.StepKeepsDepositAccount := by
  unfold Obligations.StepKeepsDepositAccount
  refine ⟨fun s t hs ht => step_accountLaw hs ht,
    fun s t a x hp hlive hx ht => ⟨fun hcounts => ?_, fun p hdest hpurge => ?_⟩,
    fun s t h n hp hroom hpick hlot ht => ?_⟩
  · exact account_of_purse ((noteArrived_purse hp hlive hx ht).trans (arriveNote_counts hcounts))
  · exact congrArg Purse.account ((noteArrived_purse hp hlive hx ht).trans (arriveNote_keeps hdest (.inl hpurge)))
  · exact account_of_purse (foreignRead_purse hp hroom hpick hlot ht)

end

section
/-! The bag's requests (O46), the consignments' (O47), the bay doors' (O48) and office control's settings (O50). -/

-- One theorem at a time: the whole text holds more theorems than the check has room for threads.
set_option Elab.async false

namespace Sys2Proof.Machine

variable {s : State}

/-! ### Bags, R173 to R175 -/

theorem doOpenBag_opens {n k : Nat} (h1 : 1 ≤ n) (h2 : n ≤ 999999999) (hfree : s.numberTaken n = false)
    (hroom : s.slotsReserved < s.freeContainers.length) (hk : s.freeContainers.head? = some k) :
    doOpenBag n s = (okReply [u1 k],
      (claimSlot (containerPos k) s).setContainer k (some ⟨.opened, n, .bag, .office, none, none, none⟩)) := by
  obtain ⟨l, hl⟩ := List.head?_eq_some_iff.mp hk
  have hn : bagNumberOk n = true := by simp [bagNumberOk, Config.maxBagNumber, h1, h2]
  unfold doOpenBag
  rw [if_neg (by simp [hn]), if_neg (by simp [hfree]), if_neg (Nat.not_le.mpr hroom), hl]
  rfl

section
variable {n : Nat} {r : ContRec} (hn : n ≤ 95) (hr : s.container n = some r)
include hn hr

/-- The checks of FILL BAG before the book's own (R174). -/
theorem doFillBag_checked {src : FillSource} {qs : List Pair} {op : Nat} (hop : opOk op = true) (hst : r.state = .opened)
    (hrole : s.oneOperator op = true) :
    let m : Movement := ⟨.fill, .pos (fillPos src), .pos (containerPos n), qs, [op], none⟩
    doFillBag ⟨n, some src, qs, op⟩ s =
      (checkMovement m false s).elim (okReply [u4 s.nextMove], applyMovement m s) fun f => noBook f s := by
  have hopen : s.bagOpen n = true := by simp [State.bagOpen, hr, hst]
  have hrange : ¬(95 < n ∨ (!opOk op) = true) := by simp [hop, hn]
  unfold doFillBag
  dsimp only
  rw [if_neg hrange, if_neg (by simp [hopen]), if_neg (by simp [hrole])]
  split
  · next h => rw [h]; rfl
  · next h => rw [h]; rfl

theorem doCloseBag_closes (hst : r.state = .opened) (hfull : s.containerEmpty n = false) :
    doCloseBag n s = (okReply [], s.setContainer n (some { r with state := .closed })) := by
  unfold doCloseBag
  rw [if_neg (Nat.not_lt.mpr hn), hr]
  dsimp only
  rw [if_neg (by simp [hst, hfull])]

theorem doDiscardContainer_releases (hst : r.state = .opened ∨ r.state = .closed) (hempty : s.containerEmpty n = true)
    (hcons : r.consignment = none) (hlot : r.countLot = none) :
    doDiscardContainer n s = (okReply [], bayAfter (requestRelease (containerPos n)
      (s.setContainer n (some { r with state := .releasing, declared := none })))) := by
  have hpass : ¬((r.state ≠ .opened ∧ r.state ≠ .closed) ∨ (!s.containerEmpty n) = true ∨ r.consignment ≠ none ∨
      r.countLot ≠ none) := by simp [hempty, hcons, hlot]; tauto
  unfold doDiscardContainer releaseContainer
  rw [if_neg (Nat.not_lt.mpr hn), hr]
  dsimp only
  rw [if_neg hpass, hcons, hlot]

end

/-! ### Consignments, R178, R179 -/

/-- A creation that passes every check takes its slot, and its window is examined. -/
theorem doCreateConsignment_takes {q : CreateConsignmentReq} {kind : ConsKind} {n : Nat} (hkind : q.kind = some kind)
    (hok : s.createOk q kind = true) (hclock : s.clock < q.windowClose) (hdef : s.itemsDefined q.items = true)
    (hdistinct : (q.items.map DeliveryItemReq.number).Nodup) (hfree : ∀ i ∈ q.items, s.numberTaken i.number = false)
    (hslot : s.consSlot = some n) :
    doCreateConsignment q s = (okReply [u1 n], examineWindow n (s.setConsignment n (some (newCons q kind)))) := by
  have hnumbers : ¬((!distinct (q.items.map DeliveryItemReq.number)) = true ∨
      (q.items.any fun i => s.numberTaken i.number) = true) := by
    rintro (h | h)
    · simp [(distinct_iff_nodup _).mpr hdistinct] at h
    · obtain ⟨i, hi, htaken⟩ := List.any_eq_true.mp h
      simp [hfree i hi] at htaken
  unfold doCreateConsignment
  rw [hkind]
  dsimp only
  rw [if_neg (by simp [hok]), if_neg (Nat.not_le.mpr hclock), if_neg (by simp [hdef]), if_neg hnumbers, hslot]

section
variable {k n : Nat} {c : ConsRec} (hk : k ≤ 7) (hn : n ≤ 95) (hc : s.consignment k = some c)
  (hkind : c.kind = .collection) (hst : c.state = .draft ∨ c.state = .loading)
include hk hn hc hkind hst

theorem doAddItem_full (hfull : 16 ≤ c.items.length) : doAddItem ⟨k, n⟩ s = (refusal .noSlot, s) := by
  unfold doAddItem
  dsimp only
  rw [if_neg (by omega), hc]
  dsimp only
  rw [if_neg (by rw [hkind]; tauto)]
  exact if_pos hfull

theorem doAddItem_adds {r : ContRec} (hr : s.container n = some r) (hroom : c.items.length < 16)
    (hclosed : r.state = .closed) (hloc : r.location = .office) (hlot : r.countLot = none)
    (hfull : s.containerEmpty n = false) :
    doAddItem ⟨k, n⟩ s = (okReply [], bayAfter
      ((s.setContainer n (some { r with state := .assigned, consignment := some k })).setConsignment k
        (some { c with items := c.items ++ [⟨some n, r.number, 0, [], false⟩] }))) := by
  have hadd : s.addable n = some r := by simp [State.addable, hr, hclosed, hloc, hlot, hfull]
  unfold doAddItem
  dsimp only
  rw [if_neg (by omega), hc]
  dsimp only
  rw [if_neg (by rw [hkind]; tauto), if_neg (show ¬Config.consignmentItems ≤ _ from Nat.not_le.mpr hroom), hadd]

end

/-! ### STAGE, ENGAGE, RETRIEVE, LOCK BAY, ABORT, R183, R184, R188, R189 -/

section
variable {k : Nat} {c : ConsRec} (hk : k ≤ 7) (hc : s.consignment k = some c)
include hk hc

/-- STAGE comes down to the check of the other door (R181, R183). -/
theorem doStage_checked (hmode : s.office.mode = .trading) (hstage : s.stageable c = true)
    (hclock : s.clock < c.windowClose) (hheld : s.bayHeldByOther k = false) (hbay : s.strangerInBay k = false) :
    doStage k s = if s.doors.courier.secure = true then (okReply [], bayAfter (enterCons k .loading (unlockDoor .office s)))
      else (refusal .wrongState, s) := by
  unfold doStage
  rw [if_neg (Nat.not_lt.mpr hk), if_neg (not_not_intro hmode), hc]
  dsimp only
  rw [if_neg (by simp [hstage]), if_neg (Nat.not_le.mpr hclock), if_neg (by simp [hheld, hbay])]
  cases h : s.doors.courier.secure <;> simp [State.mayUnlock, State.door, otherDoor, h, no]

/-- ENGAGE comes down to the check of the other door (R181, R184). -/
theorem doEngage_checked {a b : Nat} (ha : opOk a = true) (hb : opOk b = true) (h1 : 1 ≤ c.route) (h2 : c.route ≤ 65535)
    (hmode : s.office.mode = .trading) (hdual : s.dualControl .custodian a b = none)
    (hst : c.state = .waiting ∨ c.state = .partly ∨ c.state = .interrupted) (hopen : c.windowOpen ≤ s.clock)
    (hclose : s.clock < c.windowClose) (hbar : s.deliveryBarred k c = none) :
    doEngage ⟨k, c.route, a, b⟩ s = if s.doors.office.secure = true then (okReply [], engageCons k a b c s)
      else (refusal .wrongState, s) := by
  have hrange : engageInRange ⟨k, c.route, a, b⟩ = true := by simp [engageInRange, hk, h1, h2, ha, hb]
  have heng : c.engageable = true := by simpa [ConsRec.engageable, or_assoc] using hst
  unfold doEngage
  dsimp only
  rw [if_neg (by simp [hrange]), if_neg (not_not_intro hmode), hdual]
  dsimp only
  rw [hc]
  dsimp only
  rw [if_neg (by simp [heng]), if_neg (not_not_intro rfl), if_neg (by omega), hbar]
  cases h : s.doors.office.secure <;> simp [State.mayUnlock, State.door, otherDoor, h, no]

theorem doAbort_keeps (hst : c.state = .complete ∨ c.state = .aborted) : doAbort k s = (okReply [], s) := by
  unfold doAbort
  rw [if_neg (Nat.not_lt.mpr hk), hc]
  dsimp only
  obtain h | h := hst <;> rw [h]

theorem doAbort_aborts (h1 : c.state ≠ .complete) (h2 : c.state ≠ .aborted) (h3 : c.state ≠ .transferring) :
    doAbort k s = (okReply [], settle (abortCons k c s)) := by
  unfold doAbort
  rw [if_neg (Nat.not_lt.mpr hk), hc]
  dsimp only
  split
  · exact absurd ‹_› h3
  · exact absurd ‹_› h1
  · exact absurd ‹_› h2
  · rfl

end

theorem doRetrieve_opens (hbar : s.retrievalBarred = false) (hany : s.anyRetrievable = true)
    (hdoor : s.doors.courier.secure = true) :
    doRetrieve () s = (okReply [], s.setDoors { s.doors with
      office := { s.doors.office with locked := false, lockDue := false }, retrieval := true, unlockOwed := false }) := by
  unfold doRetrieve
  rw [if_neg (by simp [hbar, hany, State.mayUnlock, State.door, otherDoor, hdoor])]
  rfl

theorem doLockBay_ends (h : s.consIn .loading = none) :
    doLockBay () s = (okReply [], settleOffice (s.setDoors { s.doors with retrieval := false, unlockOwed := false })) :=
  if_neg (by simp [h])

/-! ### The roster and the other settings of the office, R182, R195, R199 -/

section
variable {i a b : Nat} (hi : i ≤ 31) (ha : opOk a = true) (hb : opOk b = true)
  (hdual : s.dualControl .twoSupervisors a b = none)
include hi ha hb hdual

theorem doSetRosterEntry_empties : doSetRosterEntry ⟨i, none, a, b⟩ s = (okReply [], s.setRoster i none) := by
  unfold doSetRosterEntry
  dsimp only
  rw [if_neg (by simp [rosterInRange, hi, ha, hb]), hdual]

/-- A number within its range comes down to whether another entry holds it. -/
theorem doSetRosterEntry_checked {n : Nat} {roles : Roles} {active : Bool} (hn : opOk n = true) :
    doSetRosterEntry ⟨i, some ⟨n, some roles, active⟩, a, b⟩ s = if s.numberHeld n i = true then (refusal .inUse, s)
      else (okReply [], s.setRoster i (some ⟨n, roles, active⟩)) := by
  unfold doSetRosterEntry
  dsimp only
  rw [if_neg (by simp [rosterInRange, hi, ha, hb, hn]), hdual]
  rfl

end

/-- A number in another entry of the roster is held. -/
theorem numberHeld_of_entry {n i j : Nat} {e : RosterEntry} (hj : j ≤ 31) (hne : j ≠ i)
    (he : s.office.roster.get none j = some e) (hn : e.number = n) : s.numberHeld n i = true :=
  List.any_eq_true.mpr ⟨j, List.mem_range.mpr (by omega), by simp [hne, he, hn]⟩

theorem doSetClock_sets {v : Nat} (hv : v ≤ 4294967295) : doSetClock v s = (okReply [u4 s.office.clock],
    examineWindows { s with office := { s.office with clock := v } }) :=
  if_neg (Nat.not_lt.mpr hv)

end Sys2Proof.Machine

open Sys2Proof Sys2Proof.Machine

/-- Settles O46: each request's checks pass, and the container record changes as the rule names. -/
theorem bagRequestsFollowTheBag : Obligations.BagRequestsFollowTheBag := by
  intro tag n s hs
  refine ⟨fun k h1 h2 hfree hroom hk => exec_ready hs rfl (doOpenBag_opens (s := heard s) h1 h2 hfree hroom hk),
    fun r hn hr => ⟨fun src qs op hop hst hrole => ⟨fun hm => ?_, fun f hm => ?_⟩, fun hst hfull => ?_,
      fun hst hempty hcons hlot => ?_⟩⟩
  · refine exec_ready hs rfl ((doFillBag_checked (s := heard s) hn hr hop hst hrole).trans ?_)
    rw [heard_checkMovement, show checkMovement _ false s = none from hm]
    rfl
  · refine exec_ready hs rfl ((doFillBag_checked (s := heard s) hn hr hop hst hrole).trans ?_)
    rw [heard_checkMovement, show checkMovement _ false s = some f from hm]
    rfl
  · exact exec_ready hs rfl (doCloseBag_closes (s := heard s) hn hr hst hfull)
  · exact exec_ready hs rfl (doDiscardContainer_releases (s := heard s) hn hr hst hempty hcons hlot)

/-- Settles O47: the record written is `newCons` of the request, and an item more of the consignment. -/
theorem consignmentsTakeTheirItems : Obligations.ConsignmentsTakeTheirItems := by
  intro tag s hs
  refine ⟨fun q kind n hkind hok hclock hdef hdistinct hfree hslot => ?_, fun k n c r hk hn hc hkind hst hr =>
    ⟨fun hfull => ?_, fun hroom hclosed hloc hlot hfull => ?_⟩⟩
  · exact exec_ready hs rfl
      (doCreateConsignment_takes (s := heard s) hkind hok hclock hdef hdistinct hfree hslot)
  · exact exec_ready hs rfl (doAddItem_full (s := heard s) hk hn hc hkind hst hfull)
  · exact exec_ready hs rfl (doAddItem_adds (s := heard s) hk hn hc hkind hst hr hroom hclosed hloc hlot hfull)

/-- Settles O48: the requests that unlock a door come down to the other door's lock and sensor. -/
theorem bayRequestsUnlockOneDoor : Obligations.BayRequestsUnlockOneDoor := by
  intro tag k s hs
  refine ⟨fun c hk hc => ⟨fun hmode hstage hclock hheld hbay => ?_, fun a b ha hb h1 h2 hmode hdual hst hopen hclose hbar => ?_,
    fun hst => ?_, fun h1 h2 h3 => ?_⟩, fun hbar hany hdoor => ?_, fun h => ?_⟩
  · have hdo := doStage_checked (s := heard s) hk hc hmode hstage hclock hheld hbay
    exact ⟨fun hdoor => exec_ready hs rfl (hdo.trans (if_pos hdoor)),
      fun hdoor => exec_ready hs rfl (hdo.trans (if_neg (Bool.not_eq_true _ ▸ hdoor)))⟩
  · have hdo := doEngage_checked (s := heard s) hk hc ha hb h1 h2 hmode hdual hst hopen hclose hbar
    exact ⟨fun hdoor => exec_ready hs rfl (hdo.trans (if_pos hdoor)),
      fun hdoor => exec_ready hs rfl (hdo.trans (if_neg (Bool.not_eq_true _ ▸ hdoor)))⟩
  · exact exec_ready hs rfl (doAbort_keeps (s := heard s) hk hc hst)
  · exact exec_ready hs rfl (doAbort_aborts (s := heard s) hk hc h1 h2 h3)
  · exact exec_ready hs rfl (doRetrieve_opens (s := heard s) hbar hany hdoor)
  · exact exec_ready hs rfl (doLockBay_ends (s := heard s) h)

/-- Settles O50: the roster's checks, and the settings as their requests clamp and store them. -/
theorem officeSettingsAreStored : Obligations.OfficeSettingsAreStored := by
  intro tag v s hs
  refine ⟨fun i a b hi ha hb hdual => ⟨?_, fun n roles active hn hfree => ?_, fun n roles active j e hn hj hne he hen => ?_⟩,
    ?_, ?_, fun hv => ?_, ?_, ?_⟩
  · exact exec_ready hs rfl (doSetRosterEntry_empties (s := heard s) hi ha hb hdual)
  · exact exec_ready hs rfl ((doSetRosterEntry_checked (s := heard s) hi ha hb hdual hn).trans
      (if_neg (Bool.not_eq_true _ ▸ hfree)))
  · exact exec_ready hs rfl ((doSetRosterEntry_checked (s := heard s) hi ha hb hdual hn).trans
      (if_pos (numberHeld_of_entry hj hne he hen)))
  · exact exec_ready (f := doSetDoorLimit) hs rfl rfl
  · exact exec_ready (f := doSetSafeRelock) hs rfl rfl
  · exact exec_ready hs rfl (doSetClock_sets (s := heard s) hv)
  · exact exec_ready (f := doClearFaultRecord) hs rfl rfl
  · exact exec_ready (f := doGetStatus) hs rfl rfl

end

section
/-! The bay door sensors (O55) and the readers (O56). -/

-- One theorem at a time: the whole text holds more theorems than the check has room for threads.
set_option Elab.async false

namespace Sys2Proof.Machine

variable {s : State}

/-! ### The sensors, R181, R182, R185, R187 -/

@[simp] theorem setDoor_bay (d : Door) (r : DoorRec) (s : State) : (s.setDoor d r).bay = s.bay := by cases d <;> rfl

@[simp] theorem door_setDoor_self (d : Door) (r : DoorRec) (s : State) : (s.setDoor d r).door d = r := by cases d <;> rfl

/-- A consignment is looked up in the bay's registers alone. -/
theorem consIn_of_bay {s t : State} (h : t.bay = s.bay) (st : ConsState) : t.consIn st = s.consIn st := by
  unfold State.consIn State.consignment
  rw [h]

theorem consignment_of_bay {s t : State} (h : t.bay = s.bay) (k : Nat) : t.consignment k = s.consignment k := by
  unfold State.consignment
  rw [h]

@[simp] theorem raiseForced_bay (d : Door) (s : State) : (raiseForced d s).bay = s.bay := by
  unfold raiseForced
  split <;> simp

@[simp] theorem sensorOpened_bay (d : Door) (s : State) : (sensorOpened d s).bay = s.bay := by
  unfold sensorOpened
  dsimp only
  repeat' split
  all_goals simp

@[simp] theorem sensorClosed_bay (d : Door) (s : State) : (sensorClosed d s).bay = s.bay := by
  unfold sensorClosed
  dsimp only
  split <;> simp

theorem sensorClosed_doors (d : Door) (s : State) : (sensorClosed d s).doors = (s.setDoor d { s.door d with
    sensorOpen := false, openTime := none, forced := false, heldOpen := false }).doors := by
  unfold sensorClosed
  dsimp only
  split <;> simp

section
variable {d : Door} (ho : (s.door d).sensorOpen = false)
include ho

/-- An unlocked door that opens starts its open time. -/
theorem sensorOpened_unlocked (hl : (s.door d).locked = false) :
    sensorOpened d s = s.setDoor d { s.door d with sensorOpen := true, openTime := some 0 } := by
  unfold sensorOpened
  dsimp only
  rw [if_neg (by simp [ho]), if_neg (by simp [hl])]

/-- A LOCKED door that opens is FORCED besides (R182). -/
theorem sensorOpened_forced (hl : (s.door d).locked = true) (hf : (s.door d).forced = false) :
    let u := s.setDoor d { s.door d with sensorOpen := true, openTime := some 0 }
    sensorOpened d s = handFault (doorSource d) .forced
      (notify (.doorAlarm (alarmDoor d) .forced s.clock) (u.setDoor d { u.door d with forced := true })) := by
  have hclock : ∀ r, (s.setDoor d r).clock = s.clock := fun r => by cases d <;> rfl
  unfold sensorOpened raiseForced
  dsimp only
  rw [if_neg (by simp [ho]), if_pos hl, if_neg (by simp [hf]), hclock]

end

/-- Where no consignment is ENGAGED the courier door's opening is its sensor's alone. -/
theorem courierOpens_plain (ho : s.doors.courier.sensorOpen = false) (hk : s.consIn .engaged = none) :
    courierOpens s = sensorOpened .courier s := by
  unfold courierOpens
  dsimp only
  rw [if_neg (by simp [ho]), consIn_of_bay (sensorOpened_bay ..), hk]

/-- An ENGAGED consignment becomes TRANSFERRING (R185). -/
theorem courierOpens_transfers {k : Nat} (ho : s.doors.courier.sensorOpen = false) (hl : s.doors.courier.locked = false)
    (hk : s.consIn .engaged = some k) : courierOpens s = enterCons k .transferring (s.setDoors { s.doors with
      courier := { s.doors.courier with sensorOpen := true, openTime := some 0 }, courierTimer := none }) := by
  unfold courierOpens
  dsimp only
  rw [if_neg (by simp [ho]), consIn_of_bay (sensorOpened_bay ..), hk, sensorOpened_unlocked (d := .courier) ho hl]
  rfl

/-- With no transfer the courier door's closing makes a lock that is due (R181). -/
theorem courierCloses_plain (hk : s.consIn .transferring = none) : courierCloses s = bayAfter
    (if s.doors.courier.lockDue then lockCourier (sensorClosed .courier s) else sensorClosed .courier s) := by
  have hdue : (sensorClosed .courier s).doors.courier.lockDue = s.doors.courier.lockDue :=
    congrArg (·.courier.lockDue) (sensorClosed_doors .courier s)
  unfold courierCloses
  dsimp only
  rw [consIn_of_bay (sensorClosed_bay ..), hk, hdue]

/-- The closing ends a transfer (R187). -/
theorem courierCloses_ends {k : Nat} {c : ConsRec} (hk : s.consIn .transferring = some k) (hc : s.consignment k = some c) :
    courierCloses s = settle (bayAfter (transferClosed k c (sensorClosed .courier s))) := by
  unfold courierCloses
  dsimp only
  rw [consIn_of_bay (sensorClosed_bay ..), hk]
  dsimp only
  rw [consignment_of_bay (sensorClosed_bay ..), hc]

/-! ### The office-side reader, R183, R188 -/

theorem officeRead_rejects {n : Nat} (hk : s.consIn .loading = none) (hr : s.doors.retrieval = false) :
    officeRead n s = notify (.readerReject .office n .notActive) s := by
  unfold officeRead
  rw [hk]
  exact if_neg (by simp [hr])

/-- The container of an item that is read while its consignment is LOADING. -/
theorem officeRead_loading {n k j : Nat} {c : ConsRec} {r : ContRec} (hk : s.consIn .loading = some k)
    (hc : s.consignment k = some c) (hj : c.loadingContainer n = some j) (hr : s.container j = some r) :
    officeRead n s = bayAfter (if r.state = .assigned ∧ r.location = .office then moveContainer j .placed .bay s
      else if r.state = .placed then moveContainer j .assigned .office s else reject .office n .notExpected s) := by
  unfold officeRead
  rw [hk]
  dsimp only
  rw [hc]
  dsimp only
  rw [loadingRead, hj]
  dsimp only
  rw [hr]

theorem moveContainer_moves {n : Nat} {r : ContRec} {st : ContState} {l : Location} (hr : s.container n = some r) :
    moveContainer n st l s = s.setContainer n (some { r with state := st, location := l }) := by
  rw [moveContainer, hr]

theorem officeRead_retrieves {n j : Nat} {r : ContRec} (hk : s.consIn .loading = none) (hret : s.doors.retrieval = true)
    (hj : s.containerNumbered n = some j) (hok : s.retrievable j = true) (hr : s.container j = some r) :
    officeRead n s = bayAfter (s.setContainer j (some { r with location := .office })) := by
  unfold officeRead
  rw [hk]
  dsimp only
  rw [if_pos hret, retrievalRead, hj]
  dsimp only
  rw [if_pos hok, hr]

/-! ### The courier-side reader, R186 -/

theorem courierRead_rejects {n : Nat} (hk : s.consIn .transferring = none) :
    courierRead n s = notify (.readerReject .courier n .notActive) s := by
  rw [courierRead, hk, reject]

section
variable {n k i : Nat} {c : ConsRec} {x : Item} (hk : s.consIn .transferring = some k) (hc : s.consignment k = some c)
  (hi : c.itemIndex n = some i) (hx : c.items[i]? = some x)
include hk hc hi hx

theorem courierRead_repeats (hdone : x.done = true) :
    courierRead n s = notify (.readerReject .courier n .repeated) s := by
  simp only [courierRead, hk, hc, hi, hx, hdone, reject, if_true]

theorem courierRead_handsOut {j : Nat} (hdone : x.done = false) (hkind : c.kind = .collection) (hj : x.container = some j)
    (hok : s.handable j = true) : courierRead n s = handOut k i n c x j s := by
  simp only [courierRead, hk, hc, hi, hx, hdone, hkind, hj, hok, if_true, Bool.false_eq_true, if_false]

theorem courierRead_takesIn (hdone : x.done = false) (hkind : c.kind = .delivery) :
    courierRead n s = takeIn k i n c x s := by
  simp only [courierRead, hk, hc, hi, hx, hdone, hkind, Bool.false_eq_true, if_false]

end

end Sys2Proof.Machine

open Sys2Proof Sys2Proof.Machine

/-- Settles O55: a sensor's opening and closing are those of its door, and the transfer of a consignment follows. -/
theorem doorSensorsMoveTheBay : Obligations.DoorSensorsMoveTheBay := by
  intro s hp
  have hoffice : exec .officeDoorOpened s = .next (transmit (sensorOpened .office s)) := by
    show execOfficeDoorOpened s = _
    rw [execOfficeDoorOpened, hp]
  have hcourier : exec .courierDoorOpened s = .next (transmit (courierOpens s)) := by
    show execCourierDoorOpened s = _
    rw [execCourierDoorOpened, hp]
  have hofficeShut : exec .officeDoorClosed s = .next (transmit (bayAfter (sensorClosed .office s))) := by
    show execOfficeDoorClosed s = _
    rw [execOfficeDoorClosed, hp]
  have hcourierShut : exec .courierDoorClosed s = .next (transmit (courierCloses s)) := by
    show execCourierDoorClosed s = _
    rw [execCourierDoorClosed, hp]
  refine ⟨fun d c hd ho => ?_, fun k ho hl hk => ?_, hofficeShut, fun hk => ?_, fun k c hk hc => ?_⟩
  · have hopen : exec c s = .next (transmit (sensorOpened d s)) := by
      obtain ⟨rfl, rfl⟩ | ⟨rfl, rfl, hk⟩ := hd
      · exact hoffice
      · rw [hcourier, courierOpens_plain ho hk]
    exact ⟨fun hl => by rw [hopen, sensorOpened_unlocked ho hl], fun hl hf => by rw [hopen, sensorOpened_forced ho hl hf]⟩
  · rw [hcourier, courierOpens_transfers ho hl hk]
  · rw [hcourierShut, courierCloses_plain hk]
    rfl
  · rw [hcourierShut, courierCloses_ends hk hc]
    rfl

/-- Settles O56: what the number read stands for at its door decides. -/
theorem readersMoveContainers : Obligations.ReadersMoveContainers := by
  intro n s hp
  have hoffice := fun t : State => exec_event (i := .officeSideRead n) (t := t) (officeRead n) hp rfl
  have hcourier := fun t : State => exec_event (i := .courierSideRead n) (t := t) (courierRead n) hp rfl
  refine ⟨fun hk hret => hoffice _ (officeRead_rejects hk hret), fun k c j r hk hc hj hr => ⟨fun hst hloc => ?_, fun hst => ?_⟩,
    fun j r hk hret hj hok hr => hoffice _ (officeRead_retrieves hk hret hj hok hr),
    fun hk => hcourier _ (courierRead_rejects hk), fun k c i x hk hc hi hx => ?_⟩
  · refine hoffice _ ((officeRead_loading hk hc hj hr).trans ?_)
    rw [if_pos ⟨hst, hloc⟩, moveContainer_moves hr]
  · refine hoffice _ ((officeRead_loading hk hc hj hr).trans ?_)
    rw [if_neg (by simp [hst]), if_pos hst, moveContainer_moves hr]
  · exact ⟨fun hdone => hcourier _ (courierRead_repeats hk hc hi hx hdone),
      fun j hdone hkind hj hok => hcourier _ (courierRead_handsOut hk hc hi hx hdone hkind hj hok),
      fun hdone hkind => hcourier _ (courierRead_takesIn hk hc hi hx hdone hkind)⟩

end

section
/-! What the door law and the register law read of a state (R172, R181): the projection `State.bayside`, and what most
operations of the model never touch of it. -/

-- One theorem at a time: the whole text holds more theorems than the check has room for threads.
set_option Elab.async false

namespace Sys2Proof.Machine

variable {s t : State}

/-- The doors and the bay's registers: all that the door law and the law of container numbers speak of. -/
structure Bayside where
  doors : Doors
  bay : Bay

def State.bayside (s : State) : Bayside := ⟨s.doors, s.bay⟩

theorem bayside_eq (h1 : t.doors = s.doors) (h2 : t.bay = s.bay) : t.bayside = s.bayside := by
  rw [State.bayside, h1, h2, State.bayside]

theorem doors_of_bayside (h : t.bayside = s.bayside) : t.doors = s.doors := congrArg Bayside.doors h

theorem bay_of_bayside (h : t.bayside = s.bayside) : t.bay = s.bay := congrArg Bayside.bay h

/-! ### The records of the tables -/

@[simp] theorem setPosRec_bayside (i : Nat) (x : PosRec) (s : State) : (s.setPosRec i x).bayside = s.bayside := rfl
@[simp] theorem setDenom_bayside (i : Nat) (x : DenomRec) (s : State) : (s.setDenom i x).bayside = s.bayside := rfl
@[simp] theorem setTill_bayside (i : Nat) (x : TillRec) (s : State) : (s.setTill i x).bayside = s.bayside := rfl
@[simp] theorem setBuild_bayside (i : Nat) (x : Option Build) (s : State) : (s.setBuild i x).bayside = s.bayside := rfl
@[simp] theorem setTrayOwner_bayside (x : Option Nat) (s : State) : (s.setTrayOwner x).bayside = s.bayside := rfl
@[simp] theorem setLot_bayside (i : Nat) (x : Option LotRec) (s : State) : (s.setLot i x).bayside = s.bayside := rfl
@[simp] theorem setStation_bayside (i : Nat) (x : StationRec) (s : State) : (s.setStation i x).bayside = s.bayside := rfl
@[simp] theorem setJobs_bayside (x : List Nat) (s : State) : (s.setJobs x).bayside = s.bayside := rfl
@[simp] theorem setModRec_bayside (i : Nat) (x : ModRec) (s : State) : (s.setModRec i x).bayside = s.bayside := rfl
@[simp] theorem setCassette_bayside (i : Nat) (x : CasRec) (s : State) : (s.setCassette i x).bayside = s.bayside := rfl
@[simp] theorem setRanges_bayside (i : Nat) (x : List Range) (s : State) : (s.setRanges i x).bayside = s.bayside := rfl
@[simp] theorem setRun_bayside (x : Run) (s : State) : (s.setRun x).bayside = s.bayside := rfl
@[simp] theorem setPurge_bayside (x : Option PurgeCycle) (s : State) : (s.setPurge x).bayside = s.bayside := rfl
@[simp] theorem setSafe_bayside (x : Safe) (s : State) : (s.setSafe x).bayside = s.bayside := rfl
@[simp] theorem setMode_bayside (x : Mode) (s : State) : (s.setMode x).bayside = s.bayside := rfl
@[simp] theorem setClock_bayside (x : Nat) (s : State) : (s.setClock x).bayside = s.bayside := rfl
@[simp] theorem setRoster_bayside (i : Nat) (x : Option RosterEntry) (s : State) : (s.setRoster i x).bayside = s.bayside := rfl
@[simp] theorem setArbiter_bayside (x : Arbiter) (s : State) : (s.setArbiter x).bayside = s.bayside := rfl
@[simp] theorem setEvac_bayside (x : Evacuation) (s : State) : (s.setEvac x).bayside = s.bayside := rfl
@[simp] theorem setLine_bayside (x : Line) (s : State) : (s.setLine x).bayside = s.bayside := rfl
@[simp] theorem heard_bayside (s : State) : (heard s).bayside = s.bayside := rfl

/-! ### Shared operations -/

@[simp] theorem notify_bayside (b : NoticeBody) (s : State) : (notify b s).bayside = s.bayside := by unfold notify; split <;> rfl
@[simp] theorem notifyAll_bayside (l : List NoticeBody) (s : State) : (notifyAll l s).bayside = s.bayside := by
  induction l generalizing s with
  | nil => rfl
  | cons b l ih => simp [notifyAll, ih]
@[simp] theorem transmit_bayside (s : State) : (transmit s).bayside = s.bayside := by unfold transmit; split <;> rfl
@[simp] theorem owe_bayside (c g : Nat) (s : State) : (owe c g s).bayside = s.bayside := by
  obtain ⟨l, h⟩ := owe_state c g s; rw [h]; rfl
@[simp] theorem respond_bayside (c g : Nat) (x : Reply) (s : State) : (respond c g x s).bayside = s.bayside := by
  obtain ⟨l, h⟩ := respond_state c g x s; rw [h]; rfl
@[simp] theorem handFault_bayside (x : FaultSource) (k : FaultKind) (s : State) : (handFault x k s).bayside = s.bayside := rfl

/-- A fold of operations that leave `bayside`. -/
@[simp] theorem each_bayside {f : Nat → State → State} (h : ∀ n s, (f n s).bayside = s.bayside) (l : List Nat) (s : State) :
    (State.each f l s).bayside = s.bayside :=
  each_keeps (fun t => t.bayside = s.bayside) f (fun n t ht => (h n t).trans ht) l s rfl

/-! ### The posting queue and reservations -/

@[simp] theorem queueEntry_bayside (b : EntryBody) (s : State) : (queueEntry b s).bayside = s.bayside := by
  unfold queueEntry
  split
  · rfl
  · dsimp only; split
    · simp; rfl
    · rfl
@[simp] theorem dropEntries_bayside (n : Nat) (s : State) : (dropEntries n s).bayside = s.bayside := rfl
@[simp] theorem changeEntry_bayside (k : Nat) (f : ResEntry → ResEntry) (s : State) : (changeEntry k f s).bayside = s.bayside := rfl
@[simp] theorem issueFromEntry_bayside (m : Movement) (s : State) : (issueFromEntry m s).bayside = s.bayside := by
  unfold issueFromEntry; split <;> rfl
@[simp] theorem reserve_bayside (k t : Nat) (c : Counts) (s : State) : (reserve k t c s).bayside = s.bayside := by
  unfold reserve; split <;> rfl
@[simp] theorem releaseEntry_bayside (k : Nat) (s : State) : (releaseEntry k s).bayside = s.bayside := rfl
@[simp] theorem cutEntries_bayside (d : Nat) (s : State) : (cutEntries d s).1.bayside = s.bayside := rfl
@[simp] theorem stampSide_bayside (x : Side) (n : Nat) (s : State) : (stampSide x n s).bayside = s.bayside := by
  cases x <;> simp [stampSide]
@[simp] theorem postSide_bayside (x : Side) (m : Movement) (n : Nat) (s : State) : (postSide x m n s).bayside = s.bayside := by
  cases x with
  | pos p => simp only [postSide]; (repeat' split) <;> simp
  | _ => rfl
@[simp] theorem numberAndPost_bayside (m : Movement) (s : State) : (numberAndPost m s).bayside = s.bayside := by
  simp only [numberAndPost, postSide_bayside, stampSide_bayside]; rfl
@[simp] theorem noticeFull_bayside (c n : Nat) (s : State) : (noticeFull c n s).bayside = s.bayside := by simp [noticeFull]
@[simp] theorem noticeInto_bayside (x : Side) (n : Nat) (s : State) : (noticeInto x n s).bayside = s.bayside := by
  unfold noticeInto; split <;> simp
@[simp] theorem markInRun_bayside (p : Nat) (s : State) : (markInRun p s).bayside = s.bayside := by simp [markInRun]
@[simp] theorem queueSummary_bayside (n : Nat) (s : State) : (queueSummary n s).bayside = s.bayside := by simp [queueSummary]
@[simp] theorem catchUpTills_bayside (l : List Nat) (s : State) : (catchUpTills l s).bayside = s.bayside := by
  induction l generalizing s with
  | nil => rfl
  | cons n l ih => unfold catchUpTills; (repeat' split) <;> simp [ih]

/-! ### The arbiter's requests -/

@[simp] theorem cutRun_bayside (s : State) : (cutRun s).bayside = s.bayside := by unfold cutRun; dsimp only; split <;> simp
@[simp] theorem giveHead_bayside (h n : Nat) (s : State) : (giveHead h n s).bayside = s.bayside := by
  unfold giveHead; dsimp only; split <;> simp
@[simp] theorem dropHead_bayside (h n : Nat) (s : State) : (dropHead h n s).bayside = s.bayside := by
  unfold dropHead; dsimp only; split <;> simp
@[simp] theorem giveTrayReturn_bayside (k : Nat) (s : State) : (giveTrayReturn k s).bayside = s.bayside := by simp [giveTrayReturn]
@[simp] theorem dropTrayReturn_bayside (s : State) : (dropTrayReturn s).bayside = s.bayside := by simp [dropTrayReturn]
@[simp] theorem giveDispense_bayside (k d n : Nat) (s : State) : (giveDispense k d n s).bayside = s.bayside := by simp [giveDispense]
@[simp] theorem dropDispense_bayside (s : State) : (dropDispense s).bayside = s.bayside := by simp [dropDispense]
@[simp] theorem withdrawDispense_bayside (s : State) : (withdrawDispense s).bayside = s.bayside := by
  unfold withdrawDispense; (repeat' split) <;> simp
@[simp] theorem giveEvac_bayside (s : State) : (giveEvac s).bayside = s.bayside := by simp [giveEvac]
@[simp] theorem dropEvac_bayside (s : State) : (dropEvac s).bayside = s.bayside := by simp [dropEvac]
@[simp] theorem withdrawEvac_bayside (s : State) : (withdrawEvac s).bayside = s.bayside := by
  unfold withdrawEvac; (repeat' split) <;> simp
@[simp] theorem entryToTail_bayside (e : DepositEntry) (s : State) : (entryToTail e s).bayside = s.bayside := by
  unfold entryToTail; split <;> simp
@[simp] theorem skipOver_bayside (s : State) : (skipOver s).bayside = s.bayside := by unfold skipOver; split <;> simp
@[simp] theorem accountNote_bayside (k : RunKind) (s : State) : (accountNote k s).bayside = s.bayside := by simp [accountNote]

/-! ### Builds -/

@[simp] theorem withdrawFor_bayside (k : Nat) (s : State) : (withdrawFor k s).bayside = s.bayside := by
  unfold withdrawFor; (repeat' split) <;> simp
@[simp] theorem becomeShort_bayside (k : Nat) (c : ShortCause) (d : Nat) (s : State) : (becomeShort k c d s).bayside = s.bayside := by
  unfold becomeShort; split <;> simp
@[simp] theorem notesDone_bayside (k : Nat) (b : Build) (s : State) : (notesDone k b s).bayside = s.bayside := by
  unfold notesDone; split <;> simp
@[simp] theorem nextDispense_bayside (k : Nat) (b : Build) (s : State) : (nextDispense k b s).bayside = s.bayside := by
  unfold nextDispense; (repeat' split) <;> simp
@[simp] theorem cutReport_bayside (d k : Nat) (s : State) : (cutReport d k s).bayside = s.bayside := by
  unfold cutReport; dsimp only; (repeat' split) <;> simp
@[simp] theorem unservable_bayside (k d : Nat) (s : State) : (unservable k d s).bayside = s.bayside := by
  unfold unservable; (repeat' split) <;> simp
@[simp] theorem freeBuild_bayside (k : Nat) (s : State) : (freeBuild k s).bayside = s.bayside := rfl
@[simp] theorem noteForBuild_bayside (k d : Nat) (s : State) : (noteForBuild k d s).bayside = s.bayside := by
  unfold noteForBuild; split <;> simp
@[simp] theorem trayNotesLeft_bayside (c : Counts) (s : State) : (trayNotesLeft c s).bayside = s.bayside := by
  unfold trayNotesLeft; (repeat' split) <;> simp
@[simp] theorem finishCancel_bayside (k : Nat) (b : Build) (s : State) : (finishCancel k b s).bayside = s.bayside := by
  simp [finishCancel]
@[simp] theorem cutDenom_bayside (d : Nat) (s : State) : (cutDenom d s).bayside = s.bayside := by
  unfold cutDenom; split <;> simp
@[simp] theorem cutDue_bayside (s : State) : (cutDue s).bayside = s.bayside := by simp [cutDue]
@[simp] theorem dispenseClosed_bayside (k : Nat) (x : Run) (s : State) : (dispenseClosed k x s).bayside = s.bayside := by
  unfold dispenseClosed; (repeat' split) <;> simp
@[simp] theorem trayClosed_bayside (s : State) : (trayClosed s).bayside = s.bayside := by
  unfold trayClosed; (repeat' split) <;> simp
theorem trayFreed_bayside (h : trayFreed s = some t) : t.bayside = s.bayside := by
  unfold trayFreed at h; (repeat' split at h) <;> cases h <;> simp
theorem trayTaken_bayside (h : trayTaken s = some t) : t.bayside = s.bayside := by
  unfold trayTaken at h; (repeat' split at h) <;> cases h; simp
theorem buildStep_bayside {k : Nat} (h : buildStep k s = some t) : t.bayside = s.bayside := by
  unfold buildStep at h; (repeat' split at h) <;> cases h <;> simp
theorem buildsStep_bayside {l : List Nat} (h : buildsStep l s = some t) : t.bayside = s.bayside := by
  induction l with
  | nil => cases h
  | cons k l ih =>
    unfold buildsStep at h
    split at h
    · cases h; exact buildStep_bayside ‹_›
    · exact ih h

end Sys2Proof.Machine
end

section
/-! What most operations never touch of the bay, continued: the count unit, the recycler, the line and the mechanism. -/

-- One theorem at a time: the whole text holds more theorems than the check has room for threads.
set_option Elab.async false

namespace Sys2Proof.Machine

variable {s t : State}

/-! ### Stations and lots -/

@[simp] theorem changeStation_bayside (n : Nat) (f : StationRec → StationRec) (s : State) :
    (changeStation n f s).bayside = s.bayside := by simp [changeStation]
@[simp] theorem noteStation_bayside (n : Nat) (s : State) : (noteStation n s).bayside = s.bayside := by simp [noteStation]
@[simp] theorem withStation_bayside (n : Nat) (f : State → State) (s : State) (h : (f s).bayside = s.bayside) :
    (withStation n f s).bayside = s.bayside := by unfold withStation; dsimp only; split <;> simp [h]
@[simp] theorem makePending_bayside (n : Nat) (c : StationCommand) (s : State) : (makePending n c s).bayside = s.bayside := by
  simp [makePending]
@[simp] theorem giveStack_bayside (n : Nat) (c : StackCommand) (s : State) : (giveStack n c s).bayside = s.bayside := by
  unfold giveStack; dsimp only; split <;> simp
@[simp] theorem jobToHead_bayside (n : Nat) (s : State) : (jobToHead n s).bayside = s.bayside := by
  unfold jobToHead; split <;> simp
@[simp] theorem jobLeaves_bayside (n : Nat) (s : State) : (jobLeaves n s).bayside = s.bayside := by simp [jobLeaves]
@[simp] theorem recountLot_bayside (n : Nat) (b : Bool) (s : State) : (recountLot n b s).bayside = s.bayside := by
  unfold recountLot; split <;> simp
@[simp] theorem endJob_bayside (n : Nat) (c : CountFailure) (s : State) : (endJob n c s).bayside = s.bayside := by
  unfold endJob; split <;> simp
@[simp] theorem endJobReport_bayside (n : Nat) (s : State) : (endJobReport n s).bayside = s.bayside := by simp [endJobReport]
@[simp] theorem endJobMechanism_bayside (n : Nat) (s : State) : (endJobMechanism n s).bayside = s.bayside := by
  simp [endJobMechanism]
@[simp] theorem interruptLot_bayside (n : Nat) (s : State) : (interruptLot n s).bayside = s.bayside := by
  unfold interruptLot; split <;> simp
@[simp] theorem stackLost_bayside (n k : Nat) (s : State) : (stackLost n k s).bayside = s.bayside := by simp [stackLost]
@[simp] theorem takeReport_bayside (n l : Nat) (x : List ItemRecord) (s : State) : (takeReport n l x s).bayside = s.bayside := by
  unfold takeReport; dsimp only; split <;> simp
@[simp] theorem assignJob_bayside (n k : Nat) (s : State) : (assignJob n k s).bayside = s.bayside := by
  unfold assignJob; dsimp only; split <;> exact (withStation_bayside _ _ _ (by simp)).trans rfl
theorem assignStep_bayside (h : assignStep s = some t) : t.bayside = s.bayside := by
  unfold assignStep at h
  split at h
  · obtain ⟨q, -, rfl⟩ := Option.map_eq_some_iff.mp h; simp
  · cases h

/-! ### Modules, cassettes and the evacuation -/

@[simp] theorem enterModule_bayside (m : Nat) (x : ModState) (y : StartStep) (s : State) :
    (enterModule m x y s).bayside = s.bayside := by unfold enterModule; dsimp only; split <;> simp
@[simp] theorem faultModule_bayside (m : Nat) (s : State) : (faultModule m s).bayside = s.bayside := by
  unfold faultModule; split <;> simp
@[simp] theorem faultBoth_bayside (s : State) : (faultBoth s).bayside = s.bayside := by simp [faultBoth]
@[simp] theorem gradeModule_bayside (m : Nat) (s : State) : (gradeModule m s).bayside = s.bayside := by
  unfold gradeModule; split <;> simp
theorem gradeStep_bayside (h : gradeStep s = some t) : t.bayside = s.bayside := by
  obtain ⟨m, -, rfl⟩ := Option.map_eq_some_iff.mp h; simp
@[simp] theorem startModules_bayside (s : State) : (startModules s).bayside = s.bayside := by
  unfold startModules; exact each_bayside (fun m s => by split <;> simp) _ s
@[simp] theorem changeCassette_bayside (c : Nat) (f : CasRec → CasRec) (s : State) : (changeCassette c f s).bayside = s.bayside := rfl
@[simp] theorem setThreshold_bayside (c : Nat) (s : State) : (setThreshold c s).bayside = s.bayside := by simp [setThreshold]
@[simp] theorem raiseBucket_bayside (c w : Nat) (s : State) : (raiseBucket c w s).bayside = s.bayside := by
  unfold raiseBucket; dsimp only; (repeat' split) <;> simp
@[simp] theorem goodNote_bayside (c : Nat) (s : State) : (goodNote c s).bayside = s.bayside := by simp [goodNote]
@[simp] theorem goodNotes_bayside (a b : Nat) (s : State) : (goodNotes a b s).bayside = s.bayside := by
  unfold goodNotes; dsimp only; (repeat' split) <;> simp
@[simp] theorem movePointer_bayside (d k i : Nat) (s : State) : (movePointer d k i s).bayside = s.bayside := rfl
@[simp] theorem rewriteWays_bayside (a b : Nat) (s : State) : (rewriteWays a b s).bayside = s.bayside := rfl
@[simp] theorem spareTakesRole_bayside (a b : Nat) (s : State) : (spareTakesRole a b s).bayside = s.bayside := rfl
@[simp] theorem completeEvac_bayside (a b : Nat) (s : State) : (completeEvac a b s).bayside = s.bayside := by
  simp only [completeEvac, notify_bayside, dropEvac_bayside]; rfl
@[simp] theorem strandEvac_bayside (a b : Nat) (s : State) : (strandEvac a b s).bayside = s.bayside := by
  simp only [strandEvac, notify_bayside, dropEvac_bayside]; rfl
@[simp] theorem evacExamine_bayside (s : State) : (evacExamine s).bayside = s.bayside := by
  unfold evacExamine; (repeat' split) <;> simp
@[simp] theorem evacRunClosed_bayside (b : Bool) (s : State) : (evacRunClosed b s).bayside = s.bayside := by
  unfold evacRunClosed; (repeat' split) <;> simp
@[simp] theorem leaveSource_bayside (a : Nat) (s : State) : (leaveSource a s).bayside = s.bayside := by
  unfold leaveSource; dsimp only; split <;> simp
@[simp] theorem startEvac_bayside (a b : Nat) (f : Bool) (s : State) : (startEvac a b f s).bayside = s.bayside := by
  simp [startEvac]
theorem autoEvac_bayside (h : autoEvac s = some t) : t.bayside = s.bayside := by
  unfold autoEvac at h
  (repeat' split at h) <;> try cases h
  obtain ⟨b, -, rfl⟩ := Option.map_eq_some_iff.mp h; simp
theorem pauseStep_bayside (h : pauseStep s = some t) : t.bayside = s.bayside := by
  unfold pauseStep at h; (repeat' split at h) <;> cases h <;> simp

/-! ### Runs -/

@[simp] theorem tellNote_bayside (x : Run) (d : Nat) (s : State) : (tellNote x d s).bayside = s.bayside := by
  unfold tellNote; split <;> simp
@[simp] theorem escrowNote_bayside (d : Nat) (s : State) : (escrowNote d s).bayside = s.bayside := by simp [escrowNote]
@[simp] theorem foreignNote_bayside (s : State) : (foreignNote s).bayside = s.bayside := by simp [foreignNote]
@[simp] theorem pickNote_bayside (n : PathNote) (s : State) : (pickNote n s).bayside = s.bayside := by simp [pickNote]
@[simp] theorem endRun_bayside (c : EndCause) (s : State) : (endRun c s).bayside = s.bayside := by
  unfold endRun; dsimp only; split <;> simp
theorem chooseStep_bayside (h : chooseStep s = some t) : t.bayside = s.bayside := by
  unfold chooseStep at h; dsimp only at h; (repeat' split at h) <;> cases h <;> simp
theorem causeStep_bayside (h : causeStep s = some t) : t.bayside = s.bayside := by
  unfold causeStep at h
  dsimp only at h
  (repeat' split at h) <;> first | exact chooseStep_bayside h | (cases h; try simp)
@[simp] theorem recoveredEnd_bayside (x : Run) (s : State) : (recoveredEnd x s).bayside = s.bayside := by
  unfold recoveredEnd; split <;> simp
@[simp] theorem stopRun_bayside (c : EndCause) (m : Nat) (s : State) : (stopRun c m s).bayside = s.bayside := by
  unfold stopRun; dsimp only; split <;> simp
@[simp] theorem faultStill_bayside (s : State) : (faultStill s).bayside = s.bayside := by
  unfold faultStill; exact each_bayside (fun m s => by split <;> simp) _ s
@[simp] theorem purgeFailed_bayside (c : PurgeCycle) (s : State) : (purgeFailed c s).bayside = s.bayside := by
  unfold purgeFailed; dsimp only; (repeat' split) <;> simp
@[simp] theorem safeOpened_bayside (s : State) : (safeOpened s).bayside = s.bayside := by
  unfold safeOpened
  dsimp only
  rw [each_bayside (fun m s => by split <;> simp)]
  (repeat' split) <;> simp
theorem purgeStart_bayside (h : purgeStart s = some t) : t.bayside = s.bayside := by
  unfold purgeStart at h
  dsimp only at h
  split at h
  · obtain ⟨m, -, rfl⟩ := Option.map_eq_some_iff.mp h; simp
  · cases h
@[simp] theorem grant_bayside (g : Grant) (s : State) : (grant g s).bayside = s.bayside := by
  unfold grant; dsimp only; split <;> simp
theorem grantStep_bayside (h : grantStep s = some t) : t.bayside = s.bayside := by
  unfold grantStep at h
  split at h
  · obtain ⟨g, -, rfl⟩ := Option.map_eq_some_iff.mp h; simp
  · cases h
theorem preemptStep_bayside (h : preemptStep s = some t) : t.bayside = s.bayside := by
  unfold preemptStep at h; dsimp only at h; (repeat' split at h) <;> cases h <;> simp
theorem cutStep_bayside (h : cutStep s = some t) : t.bayside = s.bayside := by
  unfold cutStep at h
  split at h
  · rw [← Option.some.inj h, cutDue_bayside]
  · cases h
@[simp] theorem unlockSafe_bayside (s : State) : (unlockSafe s).bayside = s.bayside := by simp [unlockSafe]
theorem safeStep_bayside (h : safeStep s = some t) : t.bayside = s.bayside := by
  unfold safeStep at h; split at h <;> cases h; simp
theorem holdStep_bayside (h : holdStep s = some t) : t.bayside = s.bayside := by
  unfold holdStep at h; split at h <;> cases h; simp
/-! ### The station line -/

@[simp] theorem startCycle_bayside (s : State) : (startCycle s).bayside = s.bayside := by unfold startCycle; split <;> simp
@[simp] theorem nextTurn_bayside (s : State) : (nextTurn s).bayside = s.bayside := by
  unfold nextTurn; (repeat' split) <;> simp
@[simp] theorem setPhase_bayside (x : Turn) (p : Phase) (s : State) : (setPhase x p s).bayside = s.bayside := by simp [setPhase]
@[simp] theorem pollDue_bayside (s : State) : (pollDue s).bayside = s.bayside := by unfold pollDue; split <;> simp
@[simp] theorem countLine_bayside (n a b : Nat) (s : State) : (countLine n a b s).bayside = s.bayside := by simp [countLine]
@[simp] theorem thirdMiss_bayside (n : Nat) (s : State) : (thirdMiss n s).bayside = s.bayside := by
  unfold thirdMiss; dsimp only; split <;> simp
@[simp] theorem missTurn_bayside (n : Nat) (s : State) : (missTurn n s).bayside = s.bayside := by
  unfold missTurn; dsimp only; (repeat' split) <;> simp
@[simp] theorem clearMisses_bayside (n : Nat) (s : State) : (clearMisses n s).bayside = s.bayside := by simp [clearMisses]
@[simp] theorem headFailure_bayside (n : Nat) (s : State) : (headFailure n s).bayside = s.bayside := by
  unfold headFailure; split <;> simp
@[simp] theorem headFails_bayside (n : Nat) (s : State) : (headFails n s).bayside = s.bayside := by simp [headFails]
@[simp] theorem reportFails_bayside (n : Nat) (s : State) : (reportFails n s).bayside = s.bayside := by
  unfold reportFails; split <;> simp
@[simp] theorem showState_bayside (n : Nat) (m : MechState) (k : Nat) (s : State) : (showState n m k s).bayside = s.bayside := by
  simp [showState]
@[simp] theorem setStationState_bayside (n : Nat) (x : StationState) (s : State) : (setStationState n x s).bayside = s.bayside := by
  simp [setStationState]
@[simp] theorem strayStack_bayside (n : Nat) (s : State) : (strayStack n s).bayside = s.bayside := by simp [strayStack]
@[simp] theorem busyState_bayside (n j : Nat) (m : MechState) (s : State) : (busyState n j m s).bayside = s.bayside := by
  unfold busyState; split <;> simp
@[simp] theorem commandAnswered_bayside (n : Nat) (c : StationCommand) (s : State) :
    (commandAnswered n c s).bayside = s.bayside := by simp [commandAnswered]
@[simp] theorem fetchState_bayside (n : Nat) (m : MechState) (k : Nat) (s : State) : (fetchState n m k s).bayside = s.bayside := by
  unfold fetchState; dsimp only; (repeat' split) <;> simp
@[simp] theorem fetchSeen_bayside (n : Nat) (m : Option MechState) (k : Nat) (s : State) :
    (fetchSeen n m k s).bayside = s.bayside := by unfold fetchSeen; split <;> simp
@[simp] theorem resetSent_bayside (n : Nat) (s : State) : (resetSent n s).bayside = s.bayside := by simp [resetSent]
@[simp] theorem dropStation_bayside (n : Nat) (s : State) : (dropStation n s).bayside = s.bayside := by
  unfold dropStation; split <;> simp
@[simp] theorem sentRecord_bayside (l : List Nat) (x : Turn) (s : State) : (sentRecord l x s).bayside = s.bayside := by
  unfold sentRecord; dsimp only; (repeat' split) <;> simp
@[simp] theorem noAnswer_bayside (x : Turn) (s : State) : (noAnswer x s).bayside = s.bayside := by
  unfold noAnswer; (repeat' split) <;> simp
@[simp] theorem badRecord_bayside (l : List Nat) (x : Turn) (s : State) : (badRecord l x s).bayside = s.bayside := by
  unfold badRecord; dsimp only; (repeat' split) <;> simp
@[simp] theorem strayReport_bayside (x : Turn) (s : State) : (strayReport x s).bayside = s.bayside := by
  unfold strayReport; split <;> simp
@[simp] theorem goodHead_bayside (h : HeadRecord) (x : Turn) (s : State) : (goodHead h x s).bayside = s.bayside := by
  unfold goodHead; split <;> simp
@[simp] theorem goodItem_bayside (i : ItemRecord) (x : Turn) (s : State) : (goodItem i x s).bayside = s.bayside := by
  unfold goodItem; (repeat' split) <;> simp
@[simp] theorem judgeReport_bayside (h : HeadRecord) (l : List ItemRecord) (e : EndRecord) (x : Turn) (s : State) :
    (judgeReport h l e x s).bayside = s.bayside := by unfold judgeReport; (repeat' split) <;> simp
@[simp] theorem goodEnd_bayside (e : EndRecord) (x : Turn) (s : State) : (goodEnd e x s).bayside = s.bayside := by
  unfold goodEnd; split <;> simp
@[simp] theorem quietOver_bayside (x : Turn) (s : State) : (quietOver x s).bayside = s.bayside := by
  unfold quietOver; split <;> simp
@[simp] theorem recordMissing_bayside (x : Turn) (s : State) : (recordMissing x s).bayside = s.bayside := by
  unfold recordMissing; split <;> simp

/-! ### The mechanism -/

@[simp] theorem leavePoint_bayside (p : PickPoint) (s : State) : (leavePoint p s).bayside = s.bayside := by
  unfold leavePoint; dsimp only; split <;> simp
@[simp] theorem failedPick_bayside (p : PickPoint) (s : State) : (failedPick p s).bayside = s.bayside := by
  unfold failedPick; dsimp only; (repeat' split) <;> simp
@[simp] theorem evacFailure_bayside (s : State) : (evacFailure s).bayside = s.bayside := by simp [evacFailure]
@[simp] theorem evacGivesUp_bayside (s : State) : (evacGivesUp s).bayside = s.bayside := by unfold evacGivesUp; split <;> simp
@[simp] theorem misfeedAt_bayside (p : PickPoint) (s : State) : (misfeedAt p s).bayside = s.bayside := by
  unfold misfeedAt; dsimp only; (repeat' split) <;> simp
@[simp] theorem doubleAtCassette_bayside (c : Nat) (s : State) : (doubleAtCassette c s).bayside = s.bayside := by
  unfold doubleAtCassette; dsimp only; (repeat' split) <;> simp
@[simp] theorem doubleAt_bayside (p : PickPoint) (s : State) : (doubleAt p s).bayside = s.bayside := by
  unfold doubleAt; (repeat' split) <;> simp
theorem routeNote_bayside {p d g : Nat} (h : routeNote p d g s = some t) : t.bayside = s.bayside := by
  unfold routeNote at h; (repeat' split at h) <;> cases h <;> simp
@[simp] theorem headNote_bayside (n : Nat) (x : Reading) (s : State) : (headNote n x s).bayside = s.bayside := by
  unfold headNote
  (repeat' split) <;> first | exact (by simp) | exact routeNote_bayside ‹_›
@[simp] theorem trayRefused_bayside (s : State) : (trayRefused s).bayside = s.bayside := by
  unfold trayRefused; dsimp only; (repeat' split) <;> simp
@[simp] theorem trayNote_bayside (x : Reading) (s : State) : (trayNote x s).bayside = s.bayside := by
  unfold trayNote
  (repeat' split) <;> first | exact (by simp) | exact routeNote_bayside ‹_›
theorem arriving_bayside {x : PathDest} {n : PathNote} (h : arriving x s = some (n, t)) : t.bayside = s.bayside := by
  unfold arriving latePick at h; (repeat' split at h) <;> cases h <;> simp
@[simp] theorem jamReported_bayside (p : JamPoint) (s : State) : (jamReported p s).bayside = s.bayside := by
  unfold jamReported; split <;> simp
@[simp] theorem jamAt_bayside (p : JamPoint) (s : State) : (jamAt p s).bayside = s.bayside := by
  unfold jamAt; dsimp only; (repeat' split) <;> simp
@[simp] theorem setFault_bayside (m : Nat) (f : Bool) (s : State) : (setFault m f s).bayside = s.bayside := by simp [setFault]
@[simp] theorem faultAt_bayside (m : Nat) (s : State) : (faultAt m s).bayside = s.bayside := by
  unfold faultAt; dsimp only; split <;> simp
@[simp] theorem setHead_bayside (h : Nat) (b : Bool) (s : State) : (setHead h b s).bayside = s.bayside := rfl
@[simp] theorem checkTags_bayside (m : Nat) (x : Tab 6 (Option Nat)) (s : State) : (checkTags m x s).bayside = s.bayside := by
  unfold checkTags; exact each_bayside (fun i s => changeCassette_bayside _ _ s) _ s

/-! ### Movements and notes, R13, R28, R138 -/

@[simp] theorem applyMovement_bayside (m : Movement) (s : State) : (applyMovement m s).bayside = s.bayside :=
  bayside_eq (by simp) (by simp)
@[simp] theorem takeFrom_bayside (x : Side) (l : List Pair) (s : State) : (takeFrom x l s).bayside = s.bayside := by
  cases x <;> rfl
@[simp] theorem giveTo_bayside (x : Side) (l : List Pair) (s : State) : (giveTo x l s).bayside = s.bayside := by
  cases x <;> rfl
@[simp] theorem bookNote_bayside (n : PathNote) (q : Nat) (s : State) : (bookNote n q s).bayside = s.bayside := by
  unfold bookNote; dsimp only; (repeat' split) <;> simp
@[simp] theorem arriveNote_bayside (n : PathNote) (s : State) : (arriveNote n s).bayside = s.bayside := by
  unfold arriveNote; dsimp only; (repeat' split) <;> simp
theorem applyGroup_bayside {k : Nat} {l : List Movement} (h : applyGroup k l s = .ok t) : t.bayside = s.bayside := by
  induction l generalizing k s with
  | nil => cases h; rfl
  | cons m l ih =>
    unfold applyGroup at h
    split at h
    · cases h
    · exact (ih h).trans (applyMovement_bayside m s)
@[simp] theorem closeMove_bayside (m : Movement) (s : State) : (closeMove m s).bayside = s.bayside := by
  unfold closeMove; dsimp only; split <;> simp
theorem closeMoves_bayside {l : List Movement} (h : closeMoves l s = some t) : t.bayside = s.bayside := by
  induction l generalizing s with
  | nil => cases h; rfl
  | cons m l ih =>
    unfold closeMoves at h
    split at h
    · cases h
    · exact (ih h).trans (closeMove_bayside m s)
theorem foldl_postRunEnd_bayside (l : List Movement) (s : State) : (l.foldl postRunEnd s).bayside = s.bayside := by
  induction l generalizing s with
  | nil => rfl
  | cons m l ih => rw [List.foldl_cons, ih, postRunEnd, numberAndPost_bayside]
@[simp] theorem claimSlot_bayside (p : Nat) (s : State) : (claimSlot p s).bayside = s.bayside := rfl
@[simp] theorem createLot_bayside (n : Nat) (x : LotSource) (y : Option StationSel) (v : Option Nat) (s : State) :
    (createLot n x y v s).bayside = s.bayside := rfl

end Sys2Proof.Machine
end

section
/-! The laws of the doors and of the register, as laws of single changes (R172, R181): how often a number stands in the
register, and the relation `Orderly` that every operation satisfies. -/

-- One theorem at a time: the whole text holds more theorems than the check has room for threads.
set_option Elab.async false

namespace Sys2Proof.Machine

variable {r s t : State}

/-! ### How often a number stands in the register -/

/-- One for a container record of this number. -/
def holdsNumber (n : Nat) : Option ContRec → Nat
  | some c => if c.number = n then 1 else 0
  | none => 0

/-- An ended consignment expects nothing any more (R172). -/
def ConsState.ended : ConsState → Bool
  | .complete | .aborted | .expired => true
  | _ => false

/-- One for an item of this number that is still to be done. -/
def Item.awaited (n : Nat) (i : Item) : Nat := if i.done = false ∧ i.number = n then 1 else 0

/-- The items of this number that a consignment still expects. -/
def expects (n : Nat) : Option ConsRec → Nat
  | some c => if c.kind = .delivery ∧ c.state.ended = false then (c.items.map (Item.awaited n)).sum else 0
  | none => 0

/-- How often a number stands in the register. -/
def State.registered (s : State) (n : Nat) : Nat :=
  (s.bay.containers.list.map (holdsNumber n)).sum + (s.bay.consignments.list.map (expects n)).sum

theorem count_containers (n : Nat) (l : List (Option ContRec)) :
    (l.filterMap fun x => x.map (·.number)).count n = (l.map (holdsNumber n)).sum := by
  induction l with
  | nil => rfl
  | cons x l ih => cases x <;> simp [holdsNumber, List.count_cons, ih, Nat.add_comm]

theorem count_awaited (n : Nat) (l : List Item) :
    ((l.filter fun i => !i.done).map (·.number)).count n = (l.map (Item.awaited n)).sum := by
  induction l with
  | nil => rfl
  | cons i l ih =>
    cases hd : i.done <;> simp [Item.awaited, hd, List.count_cons, ih, Nat.add_comm]

theorem expected_eq (c : ConsRec) :
    c.expected = if c.kind = .delivery ∧ c.state.ended = false then c.items.filter (fun i => !i.done) else [] := by
  unfold ConsRec.expected
  cases hk : c.kind with
  | collection => simp
  | delivery => cases hs : c.state <;> simp [ConsState.ended]

theorem count_expected (n : Nat) (c : ConsRec) : (c.expected.map (·.number)).count n = expects n (some c) := by
  rw [expected_eq, expects]
  split
  · exact count_awaited n c.items
  · rfl

theorem count_registerNumbers (s : State) (n : Nat) : s.registerNumbers.count n = s.registered n := by
  have h : ∀ l : List (Option ConsRec), (l.map fun r => match r with
      | some c => c.expected.map (·.number)
      | none => []).flatten.count n = (l.map (expects n)).sum := fun l => by
    induction l with
    | nil => rfl
    | cons x l ih =>
      rw [List.map_cons, List.flatten_cons, List.count_append, ih, List.map_cons, List.sum_cons]
      cases x with
      | none => rfl
      | some c => rw [← count_expected]
  rw [State.registerNumbers, List.count_append, count_containers]
  exact congrArg _ (h _)

/-- The law of the register in terms of each number. -/
theorem registerLaw_iff : s.registerLaw ↔ ∀ n, s.registered n ≤ 1 := by
  rw [State.registerLaw, List.nodup_iff_count_le_one]
  simp only [count_registerNumbers]

/-- A number that is not in the register stands in it not once. -/
theorem registered_eq_zero {n : Nat} (h : s.inRegister n = false) : s.registered n = 0 := by
  obtain ⟨h1, h2⟩ := Bool.or_eq_false_iff.mp h
  rw [← count_registerNumbers, List.count_eq_zero, State.registerNumbers, List.mem_append]
  rintro (hm | hm)
  · obtain ⟨x, hx, hn⟩ := List.mem_filterMap.mp hm
    obtain ⟨c, rfl, rfl⟩ := Option.map_eq_some_iff.mp hn
    simpa using List.any_eq_false.mp h1 _ hx
  · obtain ⟨l, hl, hn⟩ := List.mem_flatten.mp hm
    obtain ⟨x, hx, rfl⟩ := List.mem_map.mp hl
    have hno := List.any_eq_false.mp h2 _ hx
    cases x with
    | none => simp at hn
    | some c =>
      obtain ⟨i, hi, rfl⟩ := List.mem_map.mp hn
      exact hno (List.any_eq_true.mpr ⟨i, hi, by simp⟩)

/-! ### One record replaced -/

/-- One entry replaced, in a sum over a list. -/
theorem sum_map_set {α : Type} (f : α → Nat) (x : α) : ∀ (l : List α) (i : Nat) (hi : i < l.length),
    ((l.set i x).map f).sum + f l[i] = (l.map f).sum + f x
  | a :: l, 0, _ => by simp; omega
  | a :: l, i + 1, hi => by
    have := sum_map_set f x l i (Nat.lt_of_succ_lt_succ hi)
    simp only [List.set_cons_succ, List.map_cons, List.sum_cons, List.getElem_cons_succ]
    omega

/-- The same for a table, where an entry outside it weighs nothing. -/
theorem sum_tab_set {α : Type} {m : Nat} (f : Option α → Nat) (hf : f none = 0) (t : Tab m (Option α)) (i : Nat) (x : Option α) :
    ((t.set i x).list.map f).sum + f (t.get none i) ≤ (t.list.map f).sum + f x := by
  by_cases hi : i < m
  · have hl : i < t.list.length := by rw [t.size]; exact hi
    rw [Tab.get, List.getD_eq_getElem _ _ hl]
    exact (sum_map_set f x t.list i hl).le
  · rw [Tab.set_out _ _ _ (Nat.le_of_not_lt hi), Tab.get_out _ _ _ (Nat.le_of_not_lt hi), hf]
    omega

theorem registered_setContainer (s : State) (k : Nat) (x : Option ContRec) (n : Nat) :
    (s.setContainer k x).registered n + holdsNumber n (s.container k) ≤ s.registered n + holdsNumber n x := by
  have := sum_tab_set (holdsNumber n) rfl s.bay.containers k x
  unfold State.registered State.container
  simp only [State.setContainer_bay]
  omega

theorem registered_setConsignment (s : State) (k : Nat) (x : Option ConsRec) (n : Nat) :
    (s.setConsignment k x).registered n + expects n (s.consignment k) ≤ s.registered n + expects n x := by
  have := sum_tab_set (expects n) rfl s.bay.consignments k x
  unfold State.registered State.consignment
  simp only [State.setConsignment_bay]
  omega

/-- A consignment of the same kind that has ended where it had before, and awaits no more of its items, expects no more. -/
theorem expects_le {n : Nat} {c d : ConsRec} (hk : d.kind = c.kind)
    (hs : c.kind = .delivery → c.state.ended = true → d.state.ended = true)
    (hi : (d.items.map (Item.awaited n)).sum ≤ (c.items.map (Item.awaited n)).sum) :
    expects n (some d) ≤ expects n (some c) := by
  simp only [expects, hk]
  split
  · next h =>
    obtain ⟨hd, he⟩ := h
    rw [if_pos ⟨hd, by by_contra hne; rw [hs hd (by simpa using hne)] at he; cases he⟩]
    exact hi
  · exact Nat.zero_le _

/-! ### Every operation is orderly -/

/-- From `s` to `t` the law of the doors and the law of container numbers are kept. -/
def Orderly (s t : State) : Prop := (s.doorLaw → t.doorLaw) ∧ (s.registerLaw → t.registerLaw)

theorem Orderly.refl (s : State) : Orderly s s := ⟨id, id⟩

theorem Orderly.trans (h : Orderly r s) (k : Orderly s t) : Orderly r t := ⟨k.1 ∘ h.1, k.2 ∘ h.2⟩

/-- What changes no lock and brings no number oftener into the register is orderly. -/
theorem Orderly.of_registered (hd : t.doors = s.doors) (hr : ∀ n, t.registered n ≤ s.registered n) : Orderly s t :=
  ⟨fun h => by rwa [State.doorLaw, hd], fun h => registerLaw_iff.mpr fun n => (hr n).trans (registerLaw_iff.mp h n)⟩

theorem registered_of_bay (h : t.bay = s.bay) (n : Nat) : t.registered n = s.registered n := by
  rw [State.registered, h, State.registered]

/-- What leaves the doors and the registers as they are may follow. -/
theorem Orderly.bayside (h : Orderly r s) (e : t.bayside = s.bayside := by simp) : Orderly r t :=
  h.trans (.of_registered (doors_of_bayside e) fun n => (registered_of_bay (bay_of_bayside e) n).le)

theorem Orderly.each {f : Nat → State → State} (hf : ∀ n s, Orderly r s → Orderly r (f n s)) (l : List Nat)
    (h : Orderly r s) : Orderly r (State.each f l s) := each_keeps (Orderly r) f hf l s h

/-- Any condition may decide between two ways on. -/
theorem Orderly.ite {c : Prop} [Decidable c] {u v : State} (h1 : Orderly r u) (h2 : Orderly r v) :
    Orderly r (if c then u else v) := by
  split
  · exact h1
  · exact h2

/-- A container record may be replaced by one of the same number, or by none. -/
theorem Orderly.setContainer {k : Nat} {x : Option ContRec} (h : Orderly r s)
    (hx : ∀ n, holdsNumber n x ≤ holdsNumber n (s.container k)) : Orderly r (s.setContainer k x) :=
  h.trans (.of_registered rfl fun n => by have := registered_setContainer s k x n; have := hx n; omega)

theorem Orderly.clearContainer {k : Nat} (h : Orderly r s) : Orderly r (s.setContainer k none) :=
  h.setContainer fun _ => Nat.zero_le _

/-- A consignment record may be replaced by one that expects no more. -/
theorem Orderly.setConsignment {k : Nat} {x : Option ConsRec} (h : Orderly r s)
    (hx : ∀ n, expects n x ≤ expects n (s.consignment k)) : Orderly r (s.setConsignment k x) :=
  h.trans (.of_registered rfl fun n => by have := registered_setConsignment s k x n; have := hx n; omega)

/-- Doors of which one is locked may take the place of such doors. -/
theorem Orderly.setDoors {x : Doors} (h : Orderly r s)
    (hx : s.doorLaw → x.office.locked = true ∨ x.courier.locked = true) : Orderly r (s.setDoors x) :=
  h.trans ⟨hx, fun hr => hr⟩

/-- A door may take a record that is locked where it was. -/
theorem Orderly.setDoor {d : Door} {x : DoorRec} (h : Orderly r s) (hx : (s.door d).locked = true → x.locked = true) :
    Orderly r (s.setDoor d x) := by
  cases d
  · exact h.setDoors fun hl => hl.imp_left hx
  · exact h.setDoors fun hl => hl.imp_right hx

/-- A door may be unlocked while the other is locked (R181). -/
theorem Orderly.unlockDoor {d : Door} (h : Orderly r s) (hd : s.mayUnlock d = true) : Orderly r (unlockDoor d s) := by
  have hlocked : (s.door (otherDoor d)).locked = true := (Bool.and_eq_true _ _ ▸ hd : _ ∧ _).1
  cases d
  · exact h.setDoors fun _ => .inr hlocked
  · exact h.setDoors fun _ => .inl hlocked

end Sys2Proof.Machine
end

section
/-! The bay's own operations are orderly (R177 to R189). -/

-- One theorem at a time: the whole text holds more theorems than the check has room for threads.
set_option Elab.async false

namespace Sys2Proof.Machine

variable {r s t : State}

/-! ### Consignments, R177, R180 -/

theorem consIn_some {st : ConsState} {k : Nat} (h : s.consIn st = some k) :
    ∃ c, s.consignment k = some c ∧ c.state = st := by
  have hk := List.find?_some h
  cases hc : s.consignment k with
  | none => simp [hc] at hk
  | some c => exact ⟨c, rfl, by simpa [hc] using hk⟩

/-- A consignment may take a state, but for a delivery that has ended, which may only end otherwise. -/
theorem Orderly.enterCons {k : Nat} {st : ConsState} (h : Orderly r s) (hst : ∀ c, s.consignment k = some c →
    c.kind = .delivery → c.state.ended = true → st.ended = true) : Orderly r (enterCons k st s) := by
  unfold Machine.enterCons
  split
  · next c hc =>
    refine .ite h (Orderly.bayside (h.setConsignment fun n => ?_) (notify_bayside ..))
    rw [hc]
    exact expects_le (d := { c with state := st }) rfl (hst c hc) le_rfl
  · exact h

/-- A consignment that is in a state in which none has ended may take any other. -/
theorem Orderly.enterCons_from {k : Nat} {st old : ConsState} (h : Orderly r s) (hk : s.consIn old = some k)
    (hold : old.ended = false) : Orderly r (Machine.enterCons k st s) :=
  h.enterCons fun c hc _ he => by
    obtain ⟨c', hc', rfl⟩ := consIn_some hk
    rw [hc] at hc'
    cases hc'
    rw [hold] at he
    cases he

theorem Orderly.examineWindow {k : Nat} (h : Orderly r s) : Orderly r (examineWindow k s) := by
  unfold Machine.examineWindow
  split
  · next c hc =>
    refine .ite (h.enterCons fun _ _ _ _ => rfl) ?_
    split
    · next hst =>
      refine h.enterCons fun d hd _ he => ?_
      rw [hc] at hd
      cases hd
      rw [hst.1] at he
      cases he
    · exact h
  · exact h

theorem Orderly.examineWindows (h : Orderly r s) : Orderly r (examineWindows s) :=
  .each (fun _ _ hs => hs.examineWindow) _ h

/-- An item may be replaced by one that is done. -/
theorem awaited_set {n i : Nat} {x : Item} (l : List Item) (hx : x.done = true) :
    ((l.set i x).map (Item.awaited n)).sum ≤ (l.map (Item.awaited n)).sum := by
  by_cases hi : i < l.length
  · have := sum_map_set (Item.awaited n) x l i hi
    have hz : x.awaited n = 0 := if_neg (by simp [hx])
    omega
  · rw [List.set_eq_of_length_le (Nat.le_of_not_lt hi)]

theorem Orderly.setItem {k i : Nat} {x : Item} (h : Orderly r s) (hx : x.done = true) : Orderly r (setItem k i x s) := by
  unfold Machine.setItem
  split
  · next c hc =>
    refine h.setConsignment fun n => ?_
    rw [hc]
    exact expects_le (d := { c with items := c.items.set i x }) rfl (fun _ he => he) (awaited_set _ hx)
  · exact h

/-! ### Doors, R181, R182 -/

theorem Orderly.raiseForced {d : Door} (h : Orderly r s) : Orderly r (raiseForced d s) := by
  have h1 : Orderly r (s.setDoor d { s.door d with forced := true }) := h.setDoor id
  exact .ite h h1.bayside

theorem Orderly.checkHeld {d : Door} (h : Orderly r s) : Orderly r (checkHeld d s) := by
  have h1 : Orderly r (s.setDoor d { s.door d with heldOpen := true }) := h.setDoor id
  exact .ite (.ite h h1.bayside) h

theorem Orderly.sensorOpened {d : Door} (h : Orderly r s) : Orderly r (sensorOpened d s) := by
  have h1 : Orderly r (s.setDoor d { s.door d with sensorOpen := true, openTime := some 0 }) := h.setDoor id
  exact .ite h (.ite h1.raiseForced h1)

theorem Orderly.sensorClosed {d : Door} (h : Orderly r s) : Orderly r (sensorClosed d s) := by
  have h1 : Orderly r (s.setDoor d { s.door d with
    sensorOpen := false, openTime := none, forced := false, heldOpen := false }) := h.setDoor id
  exact .ite (h1.bayside) h1

theorem Orderly.lockCourier (h : Orderly r s) : Orderly r (lockCourier s) := by
  refine h.setDoors fun hl => hl.imp_right fun hc => ?_
  dsimp only
  split
  · exact hc
  · rfl

/-- A locked office door keeps the law whatever else changes, and the loading that ends with it was under way. -/
theorem Orderly.lockOffice (h : Orderly r s) : Orderly r (lockOffice s) := by
  have h1 : Orderly r (s.setDoors { s.doors with
      office := { s.doors.office with locked := true, lockDue := false }, retrieval := false }) := h.setDoors fun _ => .inl rfl
  unfold Machine.lockOffice
  dsimp only
  split
  · next hk =>
    split
    · exact .ite (h1.enterCons_from hk rfl).examineWindow h1
    · exact h1
  · exact h1

theorem Orderly.settleOffice (h : Orderly r s) : Orderly r (settleOffice s) :=
  .ite h (.ite (.ite (h.setDoors id) h.lockOffice) (h.setDoors id))

theorem Orderly.owedUnlock (h : Orderly r s) : Orderly r (owedUnlock s) := by
  unfold Machine.owedUnlock
  split
  · next hu => exact Orderly.unlockDoor (h.setDoors id) hu.2
  · exact h

theorem Orderly.bayAfter (h : Orderly r s) : Orderly r (bayAfter s) := h.owedUnlock.settleOffice

theorem Orderly.openRetrieval (h : Orderly r s) : Orderly r (openRetrieval s) := by
  have h1 : Orderly r (s.setDoors { s.doors with retrieval := true }) := h.setDoors id
  unfold Machine.openRetrieval
  dsimp only
  split
  · exact h1
  split
  · next hu => exact h1.unlockDoor hu
  · exact h1.setDoors id

/-! ### Containers, R176, R183, R188 -/

theorem Orderly.moveContainer {n : Nat} {st : ContState} {l : Location} (h : Orderly r s) :
    Orderly r (moveContainer n st l s) := by
  unfold Machine.moveContainer
  split
  · next hc => exact h.setContainer fun n => by rw [hc]; exact le_rfl
  · exact h

theorem Orderly.loadingRead {c : ConsRec} {n : Nat} (h : Orderly r s) : Orderly r (loadingRead c n s) := by
  have hno : Orderly r (reject .office n .notExpected s) := h.bayside (notify_bayside ..)
  unfold Machine.loadingRead
  split
  · split
    · exact .ite h.moveContainer (.ite h.moveContainer hno)
    · exact hno
  · exact hno

theorem Orderly.retrievalRead {n : Nat} (h : Orderly r s) : Orderly r (retrievalRead n s) := by
  have hno : Orderly r (reject .office n .notExpected s) := h.bayside (notify_bayside ..)
  unfold Machine.retrievalRead
  split
  · refine .ite ?_ hno
    split
    · next hc => exact h.setContainer fun n => by rw [hc]; exact le_rfl
    · exact h
  · exact hno

theorem Orderly.officeRead {n : Nat} (h : Orderly r s) : Orderly r (officeRead n s) := by
  unfold Machine.officeRead
  split
  · split
    · exact h.loadingRead.bayAfter
    · exact h
  · exact .ite h.retrievalRead.bayAfter (h.bayside (notify_bayside ..))

/-- The containers of a consignment keep their numbers. -/
theorem Orderly.eachContainerOf {k : Nat} {f : ContRec → ContRec} (h : Orderly r s) (hf : ∀ c, (f c).number = c.number) :
    Orderly r (eachContainerOf k f s) := by
  refine h.trans (.of_registered rfl fun n => ?_)
  have hmap : ∀ l : List (Option ContRec), ((l.map fun x => match x with
      | some c => if c.consignment = some k then some (f c) else some c
      | none => none).map (holdsNumber n)).sum = (l.map (holdsNumber n)).sum := fun l => by
    induction l with
    | nil => rfl
    | cons x l ih =>
      rw [List.map_cons, List.map_cons, List.sum_cons, ih, List.map_cons, List.sum_cons]
      cases x with
      | none => rfl
      | some c => by_cases hc : c.consignment = some k <;> simp [hc, holdsNumber, hf]
  exact (congrArg (· + _) (hmap s.bay.containers.list)).le

/-! ### The courier door, R185, R187, R189 -/

/-- A consignment is looked up in the consignment records alone. -/
theorem consIn_of_consignments (h : t.bay.consignments = s.bay.consignments) (st : ConsState) :
    t.consIn st = s.consIn st := by
  unfold State.consIn State.consignment
  rw [h]

theorem lockCourier_bay (s : State) : (lockCourier s).bay = s.bay := rfl

theorem eachContainerOf_consignments (k : Nat) (f : ContRec → ContRec) (s : State) :
    (eachContainerOf k f s).bay.consignments = s.bay.consignments := rfl

theorem Orderly.transferClosed {k : Nat} {c : ConsRec} (h : Orderly r s) (hk : s.consIn .transferring = some k) :
    Orderly r (transferClosed k c s) := by
  have h1 : Orderly r (Machine.lockCourier s) := h.lockCourier
  have hk1 : (Machine.lockCourier s).consIn .transferring = some k := (consIn_of_bay (lockCourier_bay s) _).trans hk
  unfold Machine.transferClosed
  dsimp only
  generalize Machine.lockCourier s = u at h1 hk1 ⊢
  split
  · exact (h1.eachContainerOf (f := fun x => { x with consignment := none }) fun _ => rfl).enterCons fun _ _ _ _ => rfl
  · split
    · exact (h1.eachContainerOf (f := fun x => { x with state := .assigned }) fun _ => rfl).enterCons_from
        ((consIn_of_consignments (eachContainerOf_consignments ..) _).trans hk1) rfl
    · exact h1.enterCons_from hk1 rfl

theorem Orderly.engageTimedOut {k : Nat} {c : ConsRec} (h : Orderly r s) (hk : s.consIn .engaged = some k) :
    Orderly r (engageTimedOut k c s) :=
  (Orderly.enterCons_from h.lockCourier hk rfl).examineWindow.bayAfter

theorem Orderly.abortCons {k : Nat} {c : ConsRec} (h : Orderly r s) : Orderly r (abortCons k c s) := by
  unfold Machine.abortCons
  have h1 : Orderly r (if c.state = .engaged then Machine.lockCourier s else s) := .ite h.lockCourier h
  have h2 : ∀ u, Orderly r u → Orderly r (Machine.enterCons k .aborted u) := fun u hu => hu.enterCons fun _ _ _ _ => rfl
  have h3 : ∀ u, Orderly r u → Orderly r (Machine.bayAfter (if u.anyRetrievable then Machine.openRetrieval u else u)) :=
    fun u hu => (Orderly.ite hu.openRetrieval hu).bayAfter
  dsimp only
  split
  · exact h3 _ (h2 _ (h1.eachContainerOf fun c => by split <;> rfl))
  · exact h3 _ (h2 _ (h1.eachContainerOf fun _ => rfl))

theorem Orderly.courierOpens (h : Orderly r s) : Orderly r (courierOpens s) := by
  unfold Machine.courierOpens
  refine .ite h ?_
  have h1 : Orderly r (Machine.sensorOpened .courier s) := h.sensorOpened
  dsimp only
  split
  · next hk => exact Orderly.enterCons_from (h1.setDoors id) hk rfl
  · exact h1

end Sys2Proof.Machine
end

section
/-! Releases, the ends of runs, the reactions, and the events of the line, the bay, the safe and the mechanism are orderly. -/

-- One theorem at a time: the whole text holds more theorems than the check has room for threads.
set_option Elab.async false

namespace Sys2Proof.Machine

variable {r s t : State}

/-! ### Slots settled and released, R12, R34 -/

/-- A released container takes its number out of the register (R12). -/
theorem Orderly.completeRelease {p : Nat} (h : Orderly r s) : Orderly r (completeRelease p s) := by
  have h1 : Orderly r (s.setPosRec p { s.posRec p with
    inUse := false, marks := Marks.clear, overdue := false, inRun := false, releasePending := false }) := h.bayside
  unfold Machine.completeRelease
  dsimp only
  split
  · exact h1.bayside
  · exact h1.clearContainer
  · exact h1

theorem Orderly.clearMarks {p : Nat} (h : Orderly r s) : Orderly r (clearMarks p s) := by
  have h1 : Orderly r (s.setPosRec p { s.posRec p with marks := Marks.clear, overdue := false }) := h.bayside
  exact .ite h1.completeRelease h1

theorem Orderly.settlePosition {p : Nat} {x : SettleReason} (h : Orderly r s) : Orderly r (settlePosition p x s) := by
  unfold Machine.settlePosition
  split
  · exact Orderly.clearMarks h.bayside
  · exact h.clearMarks

theorem Orderly.tryRelease {p : Nat} (h : Orderly r s) : Orderly r (tryRelease p s) :=
  .ite h (.ite h.bayside h.settlePosition)

theorem Orderly.requestRelease {p : Nat} (h : Orderly r s) : Orderly r (requestRelease p s) := by
  have h1 : Orderly r (s.setPosRec p { s.posRec p with releasePending := true }) := h.bayside
  exact .ite h h1.tryRelease

theorem Orderly.clearInRun {p : Nat} (h : Orderly r s) : Orderly r (clearInRun p s) := by
  have h1 : Orderly r (s.setPosRec p { s.posRec p with inRun := false }) := h.bayside
  exact .ite h1.tryRelease h

theorem Orderly.catchUpPositions {l : List Nat} (h : Orderly r s) : Orderly r (catchUpPositions l s).1 := by
  induction l generalizing s with
  | nil => exact h
  | cons p l ih =>
    unfold Machine.catchUpPositions
    dsimp only
    split
    · exact ih h
    split
    · exact h
    · exact ih h.settlePosition

theorem Orderly.catchUp (h : Orderly r s) : Orderly r (catchUp s) := by
  have h1 := h.catchUpPositions (l := List.range 177)
  unfold Machine.catchUp
  split
  · next heq => rw [heq] at h1; exact h1.bayside
  · next heq => rw [heq] at h1; exact h1

theorem Orderly.releaseContainer {n : Nat} (h : Orderly r s) : Orderly r (releaseContainer n s) := by
  unfold Machine.releaseContainer
  split
  · next c hc => exact Orderly.requestRelease (h.setContainer fun a => by rw [hc]; exact le_rfl)
  · exact h

/-! ### Lots and the end of a run -/

theorem Orderly.voidRelease {n : Nat} (h : Orderly r s) : Orderly r (voidRelease n s) := by
  unfold Machine.voidRelease
  split
  · exact .ite h.requestRelease h
  · exact h

theorem Orderly.finishLot {n : Nat} (h : Orderly r s) : Orderly r (finishLot n s) := by
  unfold Machine.finishLot
  split
  · exact Orderly.requestRelease h.bayside
  · exact h

theorem Orderly.depositEnd {i n : Nat} (h : Orderly r s) : Orderly r (depositEnd i n s) := by
  unfold Machine.depositEnd
  split
  · exact .ite h (.ite (Orderly.finishLot h.bayside) (.ite h.bayside h))
  · exact h

theorem Orderly.reportEnd {x : Run} (h : Orderly r s) : Orderly r (reportEnd x s) := by
  unfold Machine.reportEnd
  split
  · refine Orderly.bayside ?_ (entryToTail_bayside _ _)
    split
    · exact h.depositEnd
    · exact h
  · exact h.bayside
  · exact h.bayside
  · exact h.bayside
  · exact h

theorem Orderly.closingGroup {b : Option Nat} (h : Orderly r s) : Orderly r (closingGroup b s) := by
  unfold Machine.closingGroup
  dsimp only
  refine Orderly.each (fun _ _ h => h.clearInRun) _ ?_
  cases hm : closeMoves (s.recycler.run.addedMoves b)
      ((s.recycler.run.pairs.map (runEndMove s.recycler.run.kind)).foldl postRunEnd s) with
  | none => exact h
  | some t => exact h.bayside ((closeMoves_bayside hm).trans (foldl_postRunEnd_bayside _ s))

theorem Orderly.closeRun {b : Option Nat} (h : Orderly r s) : Orderly r (closeRun b s) := by
  have h1 : Orderly r ((Machine.closingGroup b s).setRun Run.idle) := (h.closingGroup (b := b)).bayside
  exact Orderly.bayside (.ite h1.bayside h1.reportEnd) (evacExamine_bayside _)

theorem Orderly.closeStep (h : Orderly r s) (ht : closeStep s = some t) : Orderly r t := by
  unfold Machine.closeStep at ht
  dsimp only at ht
  split at ht
  · rw [← Option.some.inj ht]; exact h.closeRun
  · cases ht

theorem Orderly.purgeClear {c : PurgeCycle} {n : Nat} (h : Orderly r s) : Orderly r (purgeClear c n s) := by
  unfold Machine.purgeClear
  dsimp only
  have h1 : Orderly r (if c.startUp = true then
      (if (s.setPurge none).faultPresent c.bin = true then enterModule c.bin .faulted .tags (s.setPurge none)
        else enterModule c.bin ((s.setPurge none).serviceState c.bin) .tags (s.setPurge none))
      else if c.closes s.recycler.run = true then faultStill (s.setPurge none) else s.setPurge none) :=
    .ite (.ite h.bayside h.bayside) (.ite h.bayside h.bayside)
  have h2 := Orderly.ite (c := c.closes s.recycler.run = true) (h1.closeRun (b := some c.bin)) h1
  exact .ite (h2.bayside (notify_bayside ..)) h2

/-! ### The reactions -/

/-- Each change that a block makes of itself is orderly. -/
theorem Orderly.reaction {f : State → Option State} (hf : f ∈ reactions) (h : Orderly r s) (ht : f s = some t) :
    Orderly r t := by
  simp only [reactions, firstReactions, lastReactions, List.cons_append, List.nil_append, List.mem_cons, List.not_mem_nil,
    or_false] at hf
  rcases hf with rfl | rfl | rfl | rfl | rfl | rfl | rfl | rfl | rfl | rfl | rfl | rfl | rfl | rfl | rfl
  · exact h.bayside (causeStep_bayside ht)
  · exact h.closeStep ht
  · exact h.bayside (gradeStep_bayside ht)
  · exact h.bayside (cutStep_bayside ht)
  · exact h.bayside (trayFreed_bayside ht)
  · exact h.bayside (trayTaken_bayside ht)
  · exact h.bayside (buildsStep_bayside ht)
  · exact h.bayside (pauseStep_bayside ht)
  · exact h.bayside (autoEvac_bayside ht)
  · exact h.bayside (purgeStart_bayside ht)
  · exact h.bayside (preemptStep_bayside ht)
  · exact h.bayside (safeStep_bayside ht)
  · exact h.bayside (holdStep_bayside ht)
  · exact h.bayside (assignStep_bayside ht)
  · exact h.bayside (grantStep_bayside ht)

theorem Orderly.settle (h : Orderly r s) : Orderly r (settle s) :=
  settle_keeps (Orderly r) (fun _ hf _ _ h ht => h.reaction hf ht) (fun _ _ h => h.bayside) s h

theorem Orderly.settleClear (h : Orderly r s) : Orderly r (settleClear s) :=
  settleClear_keeps (Orderly r) (fun _ hf _ _ h ht => h.reaction (clearReactions_subset hf) ht) (fun _ _ h => h.bayside) s h

/-! ### The frame of an event -/

theorem Orderly.event {f : State → State} (h : Orderly s (f s)) : Orderly s (event f s) := by
  cases hp : s.powered with
  | false => rw [event_off f s hp]; exact .refl s
  | true => rw [event_on f s hp]; exact h.bayside

/-! ### The station line -/

theorem Orderly.withStation {n : Nat} {f : State → State} (h : Orderly r (f s)) : Orderly r (withStation n f s) :=
  .ite h.bayside h

theorem Orderly.lotStackLeft {n k : Nat} {c : Option StackCommand} (h : Orderly r s) :
    Orderly r (lotStackLeft n k c s) := by
  unfold Machine.lotStackLeft
  split
  · exact h
  split
  · exact .ite h.bayside h
  · exact .ite h.bayside h
  · exact h.voidRelease
  · exact h

theorem Orderly.lotStackGone {n k : Nat} (h : Orderly r s) : Orderly r (lotStackGone n k s) := by
  unfold Machine.lotStackGone
  split
  · exact h
  split
  · exact .ite h.bayside h
  · exact .ite h.bayside h
  · exact h.voidRelease
  · exact h

theorem Orderly.attachState {n k : Nat} {m : MechState} (h : Orderly r s) : Orderly r (attachState n m k s) := by
  unfold Machine.attachState
  split
  · exact h.bayside
  · exact Orderly.lotStackGone h.bayside
  · exact h.bayside
  · split <;> exact h.bayside

theorem Orderly.stackedState {n k : Nat} {m : MechState} (h : Orderly r s) : Orderly r (stackedState n m k s) := by
  unfold Machine.stackedState
  dsimp only
  split
  · split
    · exact Orderly.lotStackLeft h.bayside
    · exact h.bayside
  · exact h

theorem Orderly.stateShown {n k : Nat} {m : MechState} (h : Orderly r s) : Orderly r (stateShown n m k s) := by
  have h1 : Orderly r (showState n m k s) := h.bayside
  unfold Machine.stateShown
  split
  · exact h
  · exact h1.attachState
  · exact .ite h1.bayside h1
  · exact h1.bayside
  · exact h1.stackedState
  · exact h1
  · exact h1
  · exact h1

theorem Orderly.stateSeen {n k : Nat} {m : Option MechState} (h : Orderly r s) : Orderly r (stateSeen n m k s) := by
  unfold Machine.stateSeen
  split
  · exact h.stateShown
  · exact h

theorem Orderly.answeredBy {n k : Nat} {x : LineRecord} {m : Option MechState} (h : Orderly r s) :
    Orderly r (answeredBy n x m k s) := by
  unfold Machine.answeredBy
  split
  · exact .ite h.bayside h
  · exact .withStation (Orderly.stateSeen h.bayside)
  · exact .withStation h.bayside
  · exact .withStation (Orderly.stateSeen h.bayside)

theorem Orderly.goodState {k : Nat} {m : Option MechState} {x : Turn} (h : Orderly r s) :
    Orderly r (goodState m k x s) := by
  unfold Machine.goodState
  split
  · exact h.answeredBy.bayside (nextTurn_bayside _)
  · exact h.bayside
  · exact h
  · exact h

theorem Orderly.fromStation {n : Fin 4} {l : List Nat} {f : Turn → State → State} {x : Turn} (h : Orderly r s)
    (hf : ∀ u, Orderly r u → Orderly r (f x u)) : Orderly r (fromStation n l f x s) := by
  unfold Machine.fromStation
  split
  · exact h
  · exact h
  · exact .ite (hf _ h.bayside) h.bayside
  · exact .ite (hf _ h.bayside) h.bayside

theorem Orderly.inTurn {f : Turn → State → State} (h : Orderly r s) (hf : ∀ x, Orderly r (f x s)) :
    Orderly r (inTurn f s) := by
  unfold Machine.inTurn
  split
  · exact (hf _).settle
  · exact h

/-! ### The courier door, R185, R186, R187 -/

theorem Orderly.handOut {k i n slot : Nat} {c : ConsRec} {x : Item} (h : Orderly r s) :
    Orderly r (handOut k i n c x slot s) := by
  have hdone : ∀ u, Orderly r u →
      Orderly r (Machine.releaseContainer slot (Machine.setItem k i { x with done := true, container := none } u)) :=
    fun u hu => (hu.setItem rfl).releaseContainer
  unfold Machine.handOut
  dsimp only
  split
  · exact hdone _ h
  split
  · exact h.bayside (notify_bayside ..)
  · exact hdone _ h.bayside

/-- An item done stops being expected as its number joins the containers. -/
theorem registered_takeIn {k i slot : Nat} {c : ConsRec} {z : Item} {y : ContRec}
    (hc : s.consignment k = some c) (hst : c.kind = .delivery ∧ c.state.ended = false) (hi : i < c.items.length)
    (hdone : c.items[i].done = false) (hy : y.number = c.items[i].number) (hz : z.done = true) (n : Nat) :
    (setItem k i z (s.setContainer slot (some y))).registered n ≤ s.registered n := by
  have hc' : (s.setContainer slot (some y)).consignment k = some c := hc
  have hset : setItem k i z (s.setContainer slot (some y)) =
      (s.setContainer slot (some y)).setConsignment k (some { c with items := c.items.set i z }) := by
    rw [setItem, hc']
  have h1 := registered_setContainer s slot (some y) n
  have h2 := registered_setConsignment (s.setContainer slot (some y)) k (some { c with items := c.items.set i z }) n
  have h3 := sum_map_set (Item.awaited n) z c.items i hi
  have hold : expects n (some c) = (c.items.map (Item.awaited n)).sum := if_pos hst
  have hnew : expects n (some { c with items := c.items.set i z }) = ((c.items.set i z).map (Item.awaited n)).sum :=
    if_pos hst
  have hitem : c.items[i].awaited n = holdsNumber n (some y) := by simp [Item.awaited, holdsNumber, hdone, hy]
  have hgone : z.awaited n = 0 := by simp [Item.awaited, hz]
  rw [hset]
  rw [hc', hold, hnew] at h2
  omega

theorem Orderly.takeIn {k i n : Nat} {c : ConsRec} {x : Item} (h : Orderly r s) (hc : s.consignment k = some c)
    (hst : c.kind = .delivery ∧ c.state.ended = false) (hi : c.itemIndex n = some i) (hx : c.items[i]? = some x)
    (hdone : x.done = false) : Orderly r (takeIn k i n c x s) := by
  obtain ⟨hlt, rfl⟩ := List.getElem?_eq_some_iff.mp hx
  have hn : n = c.items[i].number := by
    obtain ⟨_, hp, -⟩ := List.findIdx?_eq_some_iff_getElem.mp hi
    exact (of_decide_eq_true hp).symm
  unfold Machine.takeIn
  split
  · exact h.bayside (notify_bayside ..)
  next slot _ _ =>
  dsimp only
  split
  · have h1 : Orderly r (unclaim slot (claimSlot (containerPos slot) s)) := Orderly.requestRelease h.bayside
    exact h1.bayside (notify_bayside ..)
  · refine .trans ?_ (.of_registered ?_ (registered_takeIn ?_ hst hlt hdone hn rfl))
    · exact h.bayside ((applyMovement_bayside ..).trans (claimSlot_bayside ..))
    · unfold Machine.setItem
      split <;> rfl
    · rw [consignment_of_bay (applyMovement_bay ..)]
      exact hc

theorem Orderly.courierRead {n : Nat} (h : Orderly r s) : Orderly r (courierRead n s) := by
  have hno : ∀ cause, Orderly r (reject .courier n cause s) := fun _ => h.bayside (notify_bayside ..)
  unfold Machine.courierRead
  split
  · exact hno _
  next k hk =>
  split
  · exact h
  next c hc =>
  split
  · exact hno _
  next i hi =>
  split
  · exact h
  next x hx =>
  split
  · exact hno _
  next hdone =>
  split
  · exact .ite h.handOut (hno _)
  · exact hno _
  next hkind =>
    obtain ⟨c', hc', hst⟩ := consIn_some hk
    rw [hc] at hc'
    cases hc'
    exact h.takeIn hc ⟨hkind, by rw [hst]; rfl⟩ hi hx (by simpa using hdone)

theorem Orderly.courierCloses (h : Orderly r s) : Orderly r (courierCloses s) := by
  have h1 : Orderly r (Machine.sensorClosed .courier s) := h.sensorClosed
  unfold Machine.courierCloses
  dsimp only
  split
  · next hk =>
    split
    · exact (h1.transferClosed hk).bayAfter.settle
    · exact h1
  · exact (Orderly.ite h1.lockCourier h1).bayAfter

theorem Orderly.courierLate (h : Orderly r s) : Orderly r (courierLate s) := by
  unfold Machine.courierLate
  split
  · split
    · next hk =>
      split
      · exact (h.engageTimedOut hk).settle
      · exact h
    · exact h
  · exact h

/-! ### The safe and the clock -/

@[simp] theorem relockSafe_bayside (s : State) : (relockSafe s).bayside = s.bayside := by
  unfold relockSafe; dsimp only; split <;> simp
@[simp] theorem safeForced_bayside (s : State) : (safeForced s).bayside = s.bayside := by simp [safeForced]
@[simp] theorem forcedEnds_bayside (s : State) : (forcedEnds s).bayside = s.bayside := by simp [forcedEnds]

theorem Orderly.relockDue (h : Orderly r s) : Orderly r (relockDue s) := .ite (Orderly.settle h.bayside) h

theorem Orderly.safeReadsOpen (h : Orderly r s) : Orderly r (safeReadsOpen s) := by
  unfold Machine.safeReadsOpen
  dsimp only
  split
  · exact Orderly.settle h.bayside
  · exact Orderly.settle h.bayside
  · exact .ite h (Orderly.settle h.bayside)
  · exact .ite h (Orderly.settle h.bayside)
  · exact h

theorem Orderly.safeReadsClosed (h : Orderly r s) : Orderly r (safeReadsClosed s) := by
  unfold Machine.safeReadsClosed
  dsimp only
  split
  · exact .ite (Orderly.settle h.bayside) h.bayside
  · exact .ite (Orderly.settle h.bayside) h.bayside
  · exact .ite (Orderly.settle h.bayside) h.bayside
  · exact h
  · exact h

@[simp] theorem tickClock_bayside (s : State) : (tickClock s).bayside = s.bayside := by simp [tickClock]

theorem Orderly.tickTimers (h : Orderly r s) : Orderly r (tickTimers s) := h.trans ⟨id, id⟩

@[simp] theorem windowOver_bayside (s : State) : (windowOver s).bayside = s.bayside := by unfold windowOver; split <;> simp
@[simp] theorem safeReading_bayside (b : Bool) (s : State) : (safeReading b s).bayside = s.bayside := rfl

theorem Orderly.doorReading {d : Door} {b : Bool} (h : Orderly r s) : Orderly r (doorReading d b s) := h.setDoor id

/-! ### The mechanism -/

theorem Orderly.readNote {p : ReadPoint} {x : Reading} (h : Orderly r s) : Orderly r (readNote p x s) := by
  unfold Machine.readNote
  split
  · exact h
  split
  · split
    · split
      · exact Orderly.settle h.bayside
      · exact h
    · exact h
  · exact .ite (Orderly.settle h.bayside) h

theorem Orderly.noteArrives {a : Arrival} (h : Orderly r s) : Orderly r (noteArrives a s) := by
  unfold Machine.noteArrives
  split
  · split
    · next ha => exact Orderly.settle (h.bayside ((arriveNote_bayside ..).trans (arriving_bayside ha)))
    · exact h
  · exact h

theorem Orderly.headEmpties {i : Fin 2} (h : Orderly r s) : Orderly r (headEmpties i s) :=
  .ite (Orderly.settle h.bayside) h.bayside

theorem setFreshTags_bayside (x : Tab 2 Bool) (s : State) :
    State.bayside { s with recycler := { s.recycler with freshTags := x } } = s.bayside := rfl

theorem Orderly.tagsRead {m : Nat} {x : Tab 6 (Option Nat)} (h : Orderly r s) : Orderly r (tagsRead m x s) := by
  unfold Machine.tagsRead
  dsimp only
  split
  · exact Orderly.settle (Orderly.bayside h ((setModRec_bayside ..).trans
      ((setFreshTags_bayside ..).trans (checkTags_bayside ..))))
  · exact h

theorem Orderly.purgeOver {b : Bool} {n : Nat} (h : Orderly r s) : Orderly r (purgeOver b n s) := by
  unfold Machine.purgeOver
  split
  · exact (Orderly.ite h.purgeClear h.bayside).settle
  · exact h

/-- Without an event the controller idles, or a cassette run makes its pick. -/
theorem Orderly.idle (h : Orderly r s) : Orderly r (idle s) := by
  unfold Machine.idle
  split
  · exact h.bayside
  · exact h

end Sys2Proof.Machine
end

section
/-! The requests are orderly: those of the book, the till desk, the count unit, the recycler and office control. -/

-- One theorem at a time: the whole text holds more theorems than the check has room for threads.
set_option Elab.async false

namespace Sys2Proof.Machine

variable {r s t u : State}

/-! ### The gate of a request -/

/-- What a request's block keeps in order, the request does. -/
theorem Orderly.request {α : Type} {c g : Nat} {b : Body α} {f : α → State → Reply × State}
    (hf : ∀ a u, Orderly u (f a u).2) (s : State) : Orderly s (request c g b f s) := by
  have h0 := Orderly.refl s
  obtain ⟨-, e⟩ | ⟨-, -, e⟩ | ⟨-, -, -, e⟩ | ⟨-, -, -, -, e⟩ | ⟨-, -, -, a, -, e⟩ :=
    request_cases c g b f s <;> rw [e]
  · exact h0
  · exact h0.bayside
  · exact h0.bayside
  · exact h0.bayside
  · have h1 : Orderly s (heard s) := h0.bayside
    exact (h1.trans (hf a (heard s))).bayside (respond_bayside ..)

theorem Orderly.pair {x : Reply} (h : Orderly r s) : Orderly r (x, s).2 := h

theorem Orderly.of_bayside (e : t.bayside = s.bayside) : Orderly s t := (Orderly.refl s).bayside e

theorem Orderly.settle_of_bayside (e : t.bayside = s.bayside) : Orderly s (Machine.settle t) := (Orderly.of_bayside e).settle

theorem Orderly.settleClear_of_bayside (e : t.bayside = s.bayside) : Orderly s (Machine.settleClear t) :=
  (Orderly.of_bayside e).settleClear

/-! ### The book -/

theorem doQueryPosition_orderly (q : QueryPositionReq) (s : State) : Orderly s (doQueryPosition q s).2 := by
  have h := Orderly.refl s
  unfold doQueryPosition
  dsimp only
  split
  · exact h
  split
  · exact h
  split
  · exact h
  split
  · exact h
  split
  · exact h
  · exact .pair h.clearMarks

theorem doPostPosition_orderly (p : Nat) (s : State) : Orderly s (doPostPosition p s).2 := by
  have h := Orderly.refl s
  unfold doPostPosition
  dsimp only
  split
  · exact h
  split
  · exact h
  split
  · exact h
  split
  · exact h
  · exact .pair h.settlePosition

@[simp] theorem setPostingMode_bayside (p : Nat) (m : PostingMode) (s : State) :
    (Machine.setMode p m s).bayside = s.bayside := by
  simp [Machine.setMode]

theorem doSetPostingMode_orderly (q : SetPostingModeReq) (s : State) : Orderly s (doSetPostingMode q s).2 := by
  have h := Orderly.refl s
  unfold doSetPostingMode
  dsimp only
  split
  · exact h
  split
  · exact h
  split
  · exact h
  split
  · exact h
  split
  · exact .pair h.bayside
  split
  · exact h
  split
  · exact h
  · exact .pair (h.settlePosition.bayside (setPostingMode_bayside ..))

theorem doFetchPostings_orderly (n : Nat) (s : State) : Orderly s (doFetchPostings n s).2 := by
  unfold doFetchPostings
  split <;> exact .refl s

@[simp] theorem resolveMismatch_bayside (p : Nat) (s : State) : (resolveMismatch p s).bayside = s.bayside := by
  unfold resolveMismatch
  split
  · dsimp only
    split <;> simp
  · rfl

theorem doAdjustPosition_orderly (q : AdjustReq) (s : State) : Orderly s (doAdjustPosition q s).2 := by
  have h := Orderly.refl s
  unfold doAdjustPosition
  split
  · exact h
  split
  · exact h
  split
  · exact h
  split
  · exact .pair (.settle_of_bayside (by simp))
  dsimp only
  split
  · exact h
  · exact .pair (.settle_of_bayside (by simp))

/-- The operator check of OPENING writes nothing but the roster. -/
theorem openingCheck_bayside {x y : Nat} (h : openingCheck x y s = .ok t) : t.bayside = s.bayside := by
  unfold openingCheck at h
  (repeat' split at h) <;> cases h <;> rfl

theorem doOpening_orderly (q : OpeningReq) (s : State) : Orderly s (doOpening q s).2 := by
  unfold doOpening
  split
  · exact .refl s
  · next ho =>
    have h := Orderly.of_bayside (openingCheck_bayside ho)
    dsimp only
    split
    · exact h
    · exact .pair (Orderly.settle h.bayside)

/-! ### The settings -/

@[simp] theorem dropTemplateEntries_bayside (i : Nat) (s : State) : (dropTemplateEntries i s).bayside = s.bayside := rfl
@[simp] theorem dropRanges_bayside (i : Nat) (s : State) : (dropRanges i s).bayside = s.bayside := rfl
@[simp] theorem defineDenom_bayside (i : Nat) (x : DenomRec) (s : State) : (defineDenom i x s).bayside = s.bayside := by
  unfold defineDenom; dsimp only; (repeat' split) <;> simp

theorem doSetDenomination_orderly (q : SetDenominationReq) (s : State) : Orderly s (doSetDenomination q s).2 := by
  unfold doSetDenomination
  dsimp only
  (repeat' split) <;> exact .of_bayside (by simp [no])

theorem doClearDenomination_orderly (i : Nat) (s : State) : Orderly s (doClearDenomination i s).2 := by
  unfold doClearDenomination
  (repeat' split) <;> exact .of_bayside (by simp [no])

theorem doSetTemplate_orderly (q : SetTemplateReq) (s : State) : Orderly s (doSetTemplate q s).2 := by
  unfold doSetTemplate
  (repeat' split) <;> exact .of_bayside rfl

theorem doSetRosterEntry_orderly (q : SetRosterReq) (s : State) : Orderly s (doSetRosterEntry q s).2 := by
  unfold doSetRosterEntry
  (repeat' split) <;> exact .of_bayside rfl

theorem doSetCoinLimit_orderly (v : Nat) (s : State) : Orderly s (doSetCoinLimit v s).2 := by
  unfold doSetCoinLimit
  (repeat' split) <;> exact .of_bayside rfl

theorem doSetLine_orderly (q : SetLineReq) (s : State) : Orderly s (doSetLine q s).2 := by
  have hset : ∀ l, Orderly s { s with count := { s.count with settings := l } } := fun l => .of_bayside rfl
  unfold doSetLine
  split
  · exact .refl s
  split
  · exact .refl s
  split
  · exact .refl s
  dsimp only
  split
  · exact (hset _).bayside (each_bayside dropStation_bayside _ _)
  · exact hset _

theorem doSetArbiter_orderly (q : SetArbiterReq) (s : State) : Orderly s (doSetArbiter q s).2 := by
  unfold doSetArbiter
  dsimp only
  (repeat' split) <;> exact .of_bayside rfl

@[simp] theorem dueThreshold_bayside (c : Nat) (s : State) : (dueThreshold c s).bayside = s.bayside := by
  unfold dueThreshold; (repeat' split) <;> simp

theorem doSetFaultPolicy_orderly (q : SetFaultPolicyReq) (s : State) : Orderly s (doSetFaultPolicy q s).2 := by
  unfold doSetFaultPolicy
  (repeat' split) <;> dsimp only [no, noBook] <;> first
    | with_reducible exact .refl s
    | exact .settle_of_bayside (by simp)

theorem doSetEvacuation_orderly (q : SetEvacuationReq) (s : State) : Orderly s (doSetEvacuation q s).2 := by
  unfold doSetEvacuation
  (repeat' split) <;> dsimp only [no, noBook] <;> first
    | with_reducible exact .refl s
    | exact .settle_of_bayside (by simp)

theorem doSetDoorLimit_orderly (v : Nat) (s : State) : Orderly s (doSetDoorLimit v s).2 :=
  have h : ∀ n, Orderly s { s with bay := { s.bay with doorLimit := n } } := fun _ =>
    .of_registered rfl fun _ => le_rfl
  (h _).checkHeld.checkHeld

theorem doSetSafeRelock_orderly (v : Nat) (s : State) : Orderly s (doSetSafeRelock v s).2 := .of_bayside rfl

/-! ### The till desk -/

theorem doBuildFloat_orderly (q : BuildFloatReq) (s : State) : Orderly s (doBuildFloat q s).2 := by
  have hs : ∀ k t plan total short, (startBuildFloat k q t plan total short s).bayside = s.bayside :=
    fun k t plan total short => by
      unfold startBuildFloat noticeWithin
      dsimp only
      split <;> simp
  unfold doBuildFloat
  (repeat' split) <;> dsimp only [no, noBook] <;> first
    | with_reducible exact .refl s
    | exact .settle_of_bayside (by simp [hs])

@[simp] theorem handedOver_bayside (k t : Nat) (c : Counts) (s : State) : (handedOver k t c s).bayside = s.bayside := by
  simp [handedOver]

/-- A group that the book takes, and what follows of it, leave doors and registers. -/
theorem Orderly.settle_of_group {k : Nat} {l : List Movement} (hg : applyGroup k l s = .ok t)
    (hu : u.bayside = t.bayside) : Orderly s (Machine.settle u) :=
  .settle_of_bayside (hu.trans (applyGroup_bayside hg))

theorem doFloatHanded_orderly (q : TillOpReq) (s : State) : Orderly s (doFloatHanded q s).2 := by
  have h := Orderly.refl s
  unfold doFloatHanded
  split
  · exact h
  split
  · exact h
  split
  · exact h
  dsimp only
  split
  · exact h
  · next hg => exact .pair (.settle_of_group hg (handedOver_bayside ..))

theorem doAcceptShort_orderly (q : TillOpReq) (s : State) : Orderly s (doAcceptShort q s).2 := by
  have h := Orderly.refl s
  unfold doAcceptShort
  split
  · exact h
  split
  · exact h
  split
  · exact h
  dsimp only
  split
  · exact h
  · next hg => exact .pair (.settle_of_group hg (handedOver_bayside ..))

theorem doRebuild_orderly (n : Nat) (s : State) : Orderly s (doRebuild n s).2 := by
  have hs : ∀ k t plan b p v short,
      (noticeWithin k t p v short ((reserve k t plan s).setBuild k b)).bayside = s.bayside :=
    fun k t plan b p v short => by unfold noticeWithin; split <;> simp
  unfold doRebuild
  (repeat' split) <;> dsimp only [no, noBook] <;> first
    | with_reducible exact .refl s
    | exact .settle_of_bayside (by simp [hs])

theorem doCancelBuild_orderly (n : Nat) (s : State) : Orderly s (doCancelBuild n s).2 := by
  unfold doCancelBuild
  dsimp only
  (repeat' split) <;> dsimp only [no, noBook] <;> first
    | with_reducible exact .refl s
    | exact .settle_of_bayside (by simp)

@[simp] theorem adviseTill_bayside (n : Nat) (s : State) : (adviseTill n s).bayside = s.bayside := by
  unfold adviseTill; dsimp only; (repeat' split) <;> simp
@[simp] theorem rebandTill_bayside (n : Nat) (s : State) : (rebandTill n s).bayside = s.bayside := by
  unfold rebandTill; dsimp only; split <;> simp
@[simp] theorem salesFollow_bayside (n : Nat) (s : State) : (salesFollow n s).bayside = s.bayside := by
  unfold salesFollow; split <;> simp

theorem doReportSales_orderly (q : ReportSalesReq) (s : State) : Orderly s (doReportSales q s).2 := by
  unfold doReportSales
  dsimp only
  (repeat' split) <;> exact .of_bayside (by simp [no])

theorem doAcceptVariance_orderly (q : AcceptVarianceReq) (s : State) : Orderly s (doAcceptVariance q s).2 := by
  unfold doAcceptVariance
  (repeat' split) <;> exact .of_bayside (by simp [no])

theorem doCloseTill_orderly (n : Nat) (s : State) : Orderly s (doCloseTill n s).2 := by
  unfold doCloseTill
  (repeat' split) <;> exact .of_bayside (by simp [no])

/-! ### The count unit -/

theorem doResetStation_orderly (n : Nat) (s : State) : Orderly s (doResetStation n s).2 := by
  unfold doResetStation
  dsimp only
  (repeat' split) <;> dsimp only [no, noBook] <;> first
    | with_reducible exact .refl s
    | exact .settle_of_bayside (by simp)

theorem doStationQuery_orderly (n : Nat) (s : State) : Orderly s (doStationQuery n s).2 := by
  unfold doStationQuery
  dsimp only
  split <;> exact .of_bayside (by simp [no])

@[simp] theorem queueJob_bayside (n : Nat) (x : StationSel) (s : State) : (queueJob n x s).bayside = s.bayside := by
  unfold queueJob; split <;> simp

/-- A container keeps its number whatever lot counts it. -/
theorem Orderly.setCountLot {k : Nat} {c : ContRec} {x : Option Nat} (h : Orderly r s) (hc : s.container k = some c) :
    Orderly r (s.setContainer k (some { c with countLot := x })) :=
  h.setContainer fun _ => by rw [hc]; exact le_rfl

theorem Orderly.sourceStarted {n : Nat} {x : CountSource} (h : Orderly r s) : Orderly r (sourceStarted n x s) := by
  unfold Machine.sourceStarted
  split
  · exact h.bayside
  · exact h.bayside
  · split
    · next hc => exact h.setCountLot hc
    · exact h
  · exact h

theorem doStartCount_orderly (q : StartCountReq) (s : State) : Orderly s (doStartCount q s).2 := by
  have h := Orderly.refl s
  unfold doStartCount
  split
  · exact h
  split
  · exact h
  split
  · exact h
  split
  · exact h
  split
  · exact h
  split
  · exact h
  dsimp only
  split
  · split <;> exact .pair (Orderly.settle h.bayside)
  · exact .pair (Orderly.settle (Orderly.sourceStarted h.bayside))
  · exact h

theorem doDeclareCoin_orderly (q : DeclareCoinReq) (s : State) : Orderly s (doDeclareCoin q s).2 := by
  unfold doDeclareCoin
  dsimp only
  (repeat' split) <;> exact .of_bayside (by simp [no])

@[simp] theorem tillAccepts_bayside (l : LotRec) (s : State) : (tillAccepts l s).bayside = s.bayside := by
  unfold tillAccepts; dsimp only; (repeat' split) <;> simp
@[simp] theorem releaseToHand_bayside (k : Option Nat) (s : State) : (releaseToHand k s).bayside = s.bayside := by
  unfold releaseToHand; split <;> simp
@[simp] theorem returnStackOf_bayside (n : Nat) (l : LotRec) (s : State) : (returnStackOf n l s).bayside = s.bayside := by
  unfold returnStackOf; (repeat' split) <;> simp

theorem Orderly.restoreSource {l : LotRec} (h : Orderly r s) : Orderly r (restoreSource l s) := by
  unfold Machine.restoreSource
  split
  · exact h.bayside
  · exact h.bayside
  · split
    · next hc => exact h.setCountLot hc
    · exact h
  · exact h

theorem Orderly.containerAccepts {l : LotRec} (h : Orderly r s) : Orderly r (containerAccepts l s) := by
  unfold Machine.containerAccepts
  split
  · exact h.releaseContainer.bayAfter
  · exact h

theorem Orderly.afterAccept {n : Nat} {d : Disposal} {l : LotRec} (h : Orderly r s) : Orderly r (afterAccept n d l s) := by
  unfold Machine.afterAccept
  dsimp only
  split
  · split <;> exact h.bayside
  · exact Orderly.finishLot h.bayside

theorem doAcceptCount_orderly (q : AcceptCountReq) (s : State) : Orderly s (doAcceptCount q s).2 := by
  have h := Orderly.refl s
  unfold doAcceptCount
  split
  · exact h
  split
  · split
    · exact h
    split
    · exact h
    split
    · exact h
    split
    · exact h
    dsimp only
    split
    · exact h
    · next l _ d _ _ _ _ _ _ v hg =>
      have h1 : Orderly s v := .of_bayside (applyGroup_bayside hg)
      exact .pair (Orderly.settle (Orderly.afterAccept (Orderly.containerAccepts h1.bayside)))
  · exact h

theorem doRejectCount_orderly (n : Nat) (s : State) : Orderly s (doRejectCount n s).2 := by
  unfold doRejectCount
  (repeat' split) <;> dsimp only [no, noBook] <;> first
    | with_reducible exact .refl s
    | exact .settle_of_bayside (by simp)

theorem Orderly.voidLot {n : Nat} {l : LotRec} (h : Orderly r s) : Orderly r (voidLot n l s) := by
  have h1 : Orderly r (if l.state = .counted then returnStackOf n l (jobLeaves n s) else jobLeaves n s) :=
    .ite h.bayside h.bayside
  exact Orderly.voidRelease (h1.restoreSource.bayside (setLot_bayside ..))

theorem doVoidLot_orderly (n : Nat) (s : State) : Orderly s (doVoidLot n s).2 := by
  have h := Orderly.refl s
  unfold doVoidLot
  split
  · exact h
  split
  · exact h
  split
  · exact .pair h.voidLot.settle
  · exact h

theorem doResumeDisposal_orderly (n : Nat) (s : State) : Orderly s (doResumeDisposal n s).2 := by
  unfold doResumeDisposal
  dsimp only
  (repeat' split) <;> dsimp only [no, noBook] <;> first
    | with_reducible exact .refl s
    | exact .settle_of_bayside (by simp)

theorem doDisposeLotReserve_orderly (q : DisposeLotReserveReq) (s : State) : Orderly s (doDisposeLotReserve q s).2 := by
  have h := Orderly.refl s
  unfold doDisposeLotReserve
  split
  · exact h
  split
  · exact h
  split
  · exact h
  split
  · exact h
  dsimp only
  split
  · exact h
  · exact .pair (Orderly.settle (Orderly.finishLot h.bayside))

/-! ### The recycler controller -/

theorem doSetCassette_orderly (q : SetCassetteReq) (s : State) : Orderly s (doSetCassette q s).2 := by
  unfold doSetCassette
  dsimp only
  (repeat' split) <;> dsimp only [no, noBook] <;> first
    | with_reducible exact .refl s
    | exact .settle_of_bayside (by simp)

theorem doInsertCassette_orderly (q : InsertCassetteReq) (s : State) : Orderly s (doInsertCassette q s).2 := by
  unfold doInsertCassette
  (repeat' split) <;> exact .of_bayside (by simp [no])

@[simp] theorem vacate_bayside (c : Nat) (s : State) : (vacate c s).bayside = s.bayside := by simp [vacate]
@[simp] theorem strandedRemoved_bayside (c : Nat) (s : State) : (strandedRemoved c s).bayside = s.bayside := by
  unfold strandedRemoved; split <;> simp

/-- A container of a number that the register does not hold may be added (R172). -/
theorem Orderly.addContainer {k : Nat} {c : ContRec} (h : Orderly r s) (hn : s.inRegister c.number = false) :
    Orderly r (s.setContainer k (some c)) := by
  refine h.trans ⟨id, fun hreg => registerLaw_iff.mpr fun n => ?_⟩
  have h1 := registered_setContainer s k (some c) n
  have h2 := registerLaw_iff.mp hreg n
  by_cases hc : c.number = n
  · have h3 := registered_eq_zero hn
    rw [hc] at h3
    simp only [holdsNumber, if_pos hc] at h1
    omega
  · simp only [holdsNumber, if_neg hc] at h1
    omega

theorem inRegister_of_bayside (e : t.bayside = s.bayside) (n : Nat) : t.inRegister n = s.inRegister n := by
  rw [State.inRegister, bay_of_bayside e, State.inRegister]

/-- A container number not in the register may be put into a slot that is claimed for it. -/
theorem Orderly.claimContainer {k : Nat} {c : ContRec} (h : Orderly r s) (hn : s.inRegister c.number = false) :
    Orderly r ((claimSlot (containerPos k) s).setContainer k (some c)) := by
  have e : (claimSlot (containerPos k) s).bayside = s.bayside := by simp
  exact (h.bayside e).addContainer (by rw [inRegister_of_bayside e, hn])

theorem removeForCollection_orderly (c a b : Nat) (s : State) : Orderly s (removeForCollection c a b s).2 := by
  have h := Orderly.refl s
  unfold removeForCollection
  dsimp only
  split
  · exact h
  next hn =>
  split
  · exact h
  next n _ _ =>
  have h1 : Orderly s ((claimSlot (containerPos n) s).setContainer n
      (some (collectedCassette ((s.cassette c).tag.getD 0)))) := h.claimContainer (Bool.eq_false_iff.mpr hn)
  revert h1
  generalize (claimSlot (containerPos n) s).setContainer n _ = u
  intro h1
  split
  · exact .pair h1.requestRelease
  · next hg => exact .pair (h1.trans (.settle_of_group hg (vacate_bayside ..)))

theorem removeStranded_orderly (c a b : Nat) (s : State) : Orderly s (removeStranded c a b s).2 := by
  have h := Orderly.refl s
  unfold removeStranded
  split
  · exact h
  next n _ _ =>
  dsimp only
  split
  · exact h
  · next hg =>
    have h1 : Orderly s (createLot n (.stranded c) none none s) := h.bayside (createLot_bayside ..)
    exact .pair (h1.trans (.settle_of_group hg (by simp)))

theorem doRemoveCassette_orderly (q : RemoveCassetteReq) (s : State) : Orderly s (doRemoveCassette q s).2 := by
  have h := Orderly.refl s
  unfold doRemoveCassette
  split
  · exact h
  split
  · split
    · exact h
    split
    · exact h
    dsimp only
    split
    · exact h
    split
    · exact h
    split
    · exact h
    split
    · exact .pair (.settle_of_bayside (by simp))
    · exact removeForCollection_orderly ..
    · exact removeStranded_orderly ..
  · exact h

theorem doSetRoute_orderly (q : SetRouteReq) (s : State) : Orderly s (doSetRoute q s).2 := by
  unfold doSetRoute
  dsimp only
  (repeat' split) <;> exact .of_bayside (by simp [no])

@[simp] theorem setWindow_bayside (w : Option Nat) (s : State) : (setWindow w s).bayside = s.bayside := by simp [setWindow]

theorem doOpenFloatWindow_orderly (n : Nat) (s : State) : Orderly s (doOpenFloatWindow n s).2 := by
  unfold doOpenFloatWindow
  split
  · exact .refl s
  · exact .pair (.settle_of_bayside (by simp))

theorem doCloseFloatWindow_orderly (x : Unit) (s : State) : Orderly s (doCloseFloatWindow x s).2 :=
  .of_bayside (setWindow_bayside ..)

theorem doClearBucket_orderly (q : SlotOpsReq) (s : State) : Orderly s (doClearBucket q s).2 := by
  unfold doClearBucket
  (repeat' split) <;> dsimp only [no, noBook] <;> first
    | with_reducible exact .refl s
    | exact .settleClear_of_bayside (by simp)

theorem doStartEvacuation_orderly (q : SlotOpsReq) (s : State) : Orderly s (doStartEvacuation q s).2 := by
  unfold doStartEvacuation
  (repeat' split) <;> dsimp only [no, noBook] <;> first
    | with_reducible exact .refl s
    | exact .settle_of_bayside (by simp)

/-! ### Office control and the link -/

theorem doEnterHold_orderly (x : Unit) (s : State) : Orderly s (doEnterHold x s).2 := by
  unfold doEnterHold
  split
  · exact .refl s
  · exact .refl s
  · exact .pair (.settle_of_bayside (setMode_bayside ..))

@[simp] theorem clearOpening_bayside (s : State) : (clearOpening s).bayside = s.bayside := rfl

theorem doLeaveHold_orderly (x : Unit) (s : State) : Orderly s (doLeaveHold x s).2 := by
  unfold doLeaveHold
  split
  · exact .refl s
  · exact .pair (.settle_of_bayside (by simp))

theorem doOpenSafe_orderly (q : OpenSafeReq) (s : State) : Orderly s (doOpenSafe q s).2 := by
  unfold doOpenSafe
  (repeat' split) <;> dsimp only [no, noBook] <;> first
    | with_reducible exact .refl s
    | exact .settle_of_bayside (by simp)

theorem doCloseSafe_orderly (x : Unit) (s : State) : Orderly s (doCloseSafe x s).2 := by
  have h := Orderly.refl s
  unfold doCloseSafe
  split
  · exact h
  · exact .pair (Orderly.settle h.bayside)
  · exact .pair (Orderly.settle h.bayside)
  · exact .pair (Orderly.settle h.bayside)
  · exact .pair h.bayside

theorem doSetClock_orderly (v : Nat) (s : State) : Orderly s (doSetClock v s).2 := by
  have h : Orderly s (s.setClock v) := .of_bayside rfl
  unfold doSetClock
  split
  · exact .refl s
  · exact .pair h.examineWindows

theorem doClearFaultRecord_orderly (x : Unit) (s : State) : Orderly s (doClearFaultRecord x s).2 := .of_bayside rfl

theorem doGetStatus_orderly (x : Unit) (s : State) : Orderly s (doGetStatus x s).2 := .of_bayside rfl

theorem doRestart_orderly (x : Unit) (s : State) : Orderly s (doRestart x s).2 := by
  unfold doRestart
  split <;> exact .refl s

end Sys2Proof.Machine
end

section
/-! The requests of the bay controller and the starts are orderly. -/

-- One theorem at a time: the whole text holds more theorems than the check has room for threads.
set_option Elab.async false

namespace Sys2Proof.Machine

variable {r s t u : State}

/-! ### The bay controller -/

theorem doOpenBag_orderly (n : Nat) (s : State) : Orderly s (doOpenBag n s).2 := by
  have h := Orderly.refl s
  unfold doOpenBag
  split
  · exact h
  split
  · exact h
  next hn =>
  split
  · exact h
  split
  · exact .pair (h.claimContainer (Bool.or_eq_false_iff.mp (Bool.eq_false_iff.mpr hn)).1)
  · exact h

theorem doFillBag_orderly (q : FillBagReq) (s : State) : Orderly s (doFillBag q s).2 := by
  unfold doFillBag
  dsimp only
  (repeat' split) <;> exact .of_bayside (by simp [no, noBook])

theorem doCloseBag_orderly (n : Nat) (s : State) : Orderly s (doCloseBag n s).2 := by
  have h := Orderly.refl s
  unfold doCloseBag
  split
  · exact h
  split
  · next hc =>
    split
    · exact h
    · exact .pair (h.setContainer fun _ => by rw [hc]; exact le_rfl)
  · exact h

theorem doDiscardContainer_orderly (n : Nat) (s : State) : Orderly s (doDiscardContainer n s).2 := by
  have h := Orderly.refl s
  unfold doDiscardContainer
  split
  · exact h
  split
  · split
    · exact h
    · exact .pair h.releaseContainer.bayAfter
  · exact h

/-- The items of a new consignment are awaited as often as the request names their number. -/
theorem expects_newCons (q : CreateConsignmentReq) (k : ConsKind) (n : Nat) :
    expects n (some (newCons q k)) ≤ (q.items.map DeliveryItemReq.number).count n := by
  have h : ∀ l : List DeliveryItemReq, ((l.map fun i => (⟨none, i.number, i.declaredValue, i.pairs, false⟩ : Item)).map
      (Item.awaited n)).sum = (l.map DeliveryItemReq.number).count n := fun l => by
    induction l with
    | nil => rfl
    | cons i l ih =>
      simp only [List.map_cons, List.sum_cons, ih, List.count_cons, Item.awaited, beq_iff_eq, true_and, Nat.add_comm]
  rw [expects]
  split
  · exact (h q.items).le
  · exact Nat.zero_le _

/-- A new delivery brings numbers that are new, each once (R172, R178). -/
theorem Orderly.newCons {q : CreateConsignmentReq} {k : ConsKind} {slot : Nat} (h : Orderly r s)
    (hapart : distinct (q.items.map DeliveryItemReq.number) = true)
    (hnew : (q.items.any fun i => s.numberTaken i.number) = false) :
    Orderly r (s.setConsignment slot (some (newCons q k))) := by
  refine h.trans ⟨id, fun hreg => registerLaw_iff.mpr fun n => ?_⟩
  have h1 := registered_setConsignment s slot (some (Machine.newCons q k)) n
  have h2 := expects_newCons q k n
  have h3 := registerLaw_iff.mp hreg n
  by_cases hn : n ∈ q.items.map DeliveryItemReq.number
  · obtain ⟨i, hi, rfl⟩ := List.mem_map.mp hn
    have hfree : s.numberTaken i.number = false := by simpa using List.any_eq_false.mp hnew i hi
    have h4 := registered_eq_zero (Bool.or_eq_false_iff.mp hfree).1
    have h5 := List.nodup_iff_count_le_one.mp ((distinct_iff_nodup _).mp hapart) i.number
    omega
  · have h4 := List.count_eq_zero.mpr hn
    omega

theorem doCreateConsignment_orderly (q : CreateConsignmentReq) (s : State) : Orderly s (doCreateConsignment q s).2 := by
  have h := Orderly.refl s
  unfold doCreateConsignment
  split
  · exact h
  split
  · exact h
  split
  · exact h
  split
  · exact h
  split
  · exact h
  next hnew =>
  obtain ⟨hapart, hfree⟩ := not_or.mp hnew
  split
  · exact h
  · exact .pair (h.newCons (by simpa using hapart) (Bool.eq_false_iff.mpr hfree)).examineWindow

/-- What may become an item is the container itself. -/
theorem container_of_addable {n : Nat} {x : ContRec} (h : s.addable n = some x) : s.container n = some x := by
  unfold State.addable at h
  split at h
  · next c hc =>
    split at h
    · cases h; exact hc
    · cases h
  · cases h

theorem doAddItem_orderly (q : AddItemReq) (s : State) : Orderly s (doAddItem q s).2 := by
  have h := Orderly.refl s
  unfold doAddItem
  split
  · exact h
  split
  · exact h
  next c hc =>
  split
  · exact h
  next hkind =>
  have hkind : c.kind = .collection := not_not.mp (not_or.mp hkind).1
  split
  · exact h
  split
  · exact h
  next x hx =>
  have hx := container_of_addable hx
  have h1 : Orderly s (s.setContainer q.container (some { x with state := .assigned, consignment := some q.consignment })) :=
    h.setContainer fun _ => by rw [hx]; exact le_rfl
  refine .pair (h1.setConsignment fun n => ?_).bayAfter
  rw [expects, if_neg fun hd => by rw [hkind] at hd; cases hd.1]
  exact Nat.zero_le _

theorem doStage_orderly (k : Nat) (s : State) : Orderly s (doStage k s).2 := by
  have h := Orderly.refl s
  unfold doStage
  split
  · exact h
  split
  · exact h
  split
  · exact h
  next c hc =>
  split
  · exact h
  next hstage =>
  split
  · exact h
  split
  · exact h
  split
  · exact h
  next hlock =>
  refine .pair (Orderly.enterCons (h.unlockDoor (by simpa using hlock)) fun d hd hkind _ => ?_).bayAfter
  have hcoll : c.kind = .collection := by
    simp only [State.stageable, Bool.not_eq_true', Bool.not_eq_false, Bool.and_eq_true, decide_eq_true_eq] at hstage
    exact hstage.1
  rw [show (unlockDoor .office s).consignment k = some c from hc] at hd
  cases hd
  rw [hcoll] at hkind
  cases hkind

/-- A consignment that may be engaged has not ended. -/
theorem engageable_ended {c : ConsRec} (h : c.engageable = true) : c.state.ended = false := by
  simp only [ConsRec.engageable, Bool.or_eq_true, decide_eq_true_eq] at h
  obtain (h | h) | h := h <;> rw [h] <;> rfl

theorem consignment_setConsignment_of_some {k : Nat} {c : ConsRec} (hc : s.consignment k = some c) (x : Option ConsRec) :
    (s.setConsignment k x).consignment k = x := by
  refine consignment_setConsignment_self s k x (Nat.lt_of_not_le fun hk => ?_)
  rw [State.consignment, Tab.get_out _ _ _ hk] at hc
  cases hc

@[simp] theorem enterCons_doors (k : Nat) (st : ConsState) (s : State) : (enterCons k st s).doors = s.doors := by
  unfold enterCons
  (repeat' split) <;> simp

theorem mayUnlock_of_doors (h : t.doors = s.doors) (d : Door) : t.mayUnlock d = s.mayUnlock d := by
  cases d <;> simp only [State.mayUnlock, State.door, h]

theorem Orderly.engageCons {k a b : Nat} {c : ConsRec} (h : Orderly r s) (hc : s.consignment k = some c)
    (hopen : c.engageable = true) (hd : s.mayUnlock .courier = true) : Orderly r (engageCons k a b c s) := by
  have h1 : Orderly r (s.setConsignment k (some { c with
      returnState := some c.state, ops := some (a, b), engagedOnce := c.engagedOnce || c.kind = .delivery })) :=
    h.setConsignment fun n => by rw [hc]; exact expects_le rfl (fun _ he => he) le_rfl
  have h2 := h1.enterCons (k := k) (st := .engaged) fun e he _ hend => by
    rw [consignment_setConsignment_of_some hc] at he
    cases he
    rw [engageable_ended hopen] at hend
    cases hend
  have h3 := h2.unlockDoor (d := .courier) ((mayUnlock_of_doors (enterCons_doors ..) _).trans hd)
  exact h3.setDoors id

theorem doEngage_orderly (q : EngageReq) (s : State) : Orderly s (doEngage q s).2 := by
  have h := Orderly.refl s
  unfold doEngage
  split
  · exact h
  split
  · exact h
  split
  · exact h
  split
  · exact h
  next c hc =>
  split
  · exact h
  next hopen =>
  split
  · exact h
  split
  · exact h
  split
  · exact h
  split
  · exact h
  next hlock => exact .pair (h.engageCons hc (by simpa using hopen) (by simpa using hlock))

theorem doRetrieve_orderly (x : Unit) (s : State) : Orderly s (doRetrieve x s).2 := by
  unfold doRetrieve
  split
  · exact .refl s
  · next hbar =>
    have h : Orderly s (s.setDoors { s.doors with retrieval := true, unlockOwed := false }) := (Orderly.refl s).setDoors id
    have hlock : s.mayUnlock .office = true := by
      obtain ⟨-, hl⟩ := not_or.mp (not_or.mp hbar).2
      simpa using hl
    exact .pair (h.unlockDoor hlock)

theorem doLockBay_orderly (x : Unit) (s : State) : Orderly s (doLockBay x s).2 := by
  have h : Orderly s (s.setDoors { s.doors with retrieval := false, unlockOwed := false }) := (Orderly.refl s).setDoors id
  unfold doLockBay
  split
  · exact .refl s
  · exact .pair h.settleOffice

theorem doAbort_orderly (k : Nat) (s : State) : Orderly s (doAbort k s).2 := by
  have h := Orderly.refl s
  unfold doAbort
  split
  · exact h
  split
  · exact h
  split
  · exact h
  · exact h
  · exact h
  · exact .pair h.abortCons.settle

/-! ### Starts, R209 -/

/-- What an operation keeps in order, it keeps with the notices collected apart. -/
theorem Orderly.collect {f : State → State} (hf : ∀ u, Orderly r u → Orderly r (f u)) (h : Orderly r s) :
    Orderly r (collect f s).1 := by
  have h1 : Orderly r (f { s with link := { s.link with notices := [], noticeNumber := 0, noticeLost := false } }) :=
    hf _ (h.bayside rfl)
  unfold Machine.collect
  revert h1
  generalize f _ = u
  exact fun h1 => h1.bayside rfl

theorem Orderly.collectEach {f : Nat → State → State} (hf : ∀ n u, Orderly r u → Orderly r (f n u)) {l : List Nat}
    (h : Orderly r s) : Orderly r (collectEach f l s).1 := by
  induction l generalizing s with
  | nil => exact h
  | cons n l ih => exact ih (h.collect (hf n))

theorem collectEach_bayside {f : Nat → State → State} (hf : ∀ n u, (f n u).bayside = u.bayside) (l : List Nat) (s : State) :
    (Machine.collectEach f l s).1.bayside = s.bayside := by
  induction l generalizing s with
  | nil => rfl
  | cons n l ih => exact (ih _).trans (hf n _)

theorem startLot_bayside (n : Nat) (s : State) : (startLot n s).bayside = s.bayside := by
  unfold startLot; (repeat' split) <;> simp

theorem Orderly.startCountUnit (h : Orderly r s) : Orderly r (startCountUnit s).1 := by
  have h1 := h.bayside (collectEach_bayside startLot_bayside (List.range 64) s)
  unfold Machine.startCountUnit
  dsimp only
  generalize (Machine.collectEach startLot (List.range 64) s).1 = u at h1 ⊢
  exact .each (fun _ _ hu => hu.voidRelease) _ (h1.bayside rfl)

@[simp] theorem startEvacuation_bayside (s : State) : (startEvacuation s).bayside = s.bayside := by
  unfold startEvacuation; split <;> simp

theorem startCuts_bayside (l : List Nat) (s : State) : (startCuts l s).1.bayside = s.bayside := by
  induction l generalizing s with
  | nil => rfl
  | cons d l ih => exact (ih _).trans (cutEntries_bayside d s)

@[simp] theorem startBuild_bayside (k : Nat) (l : List Nat) (s : State) : (startBuild k l s).bayside = s.bayside := by
  unfold startBuild
  split
  · rfl
  · dsimp only
    split <;> simp

@[simp] theorem startCancelling_bayside (k : Nat) (s : State) : (startCancelling k s).bayside = s.bayside := by
  unfold startCancelling; (repeat' split) <;> simp

theorem startDesk_bayside (s : State) : (startDesk s).1.bayside = s.bayside := by
  unfold startDesk
  dsimp only
  rw [each_bayside startCancelling_bayside, setTrayOwner_bayside,
    collectEach_bayside fun k u => startBuild_bayside k _ u, startCuts_bayside]

/-- An engagement or a transfer that a start interrupts had not ended, and a loading neither (R189). -/
theorem Orderly.startCons {k : Nat} (h : Orderly r s) : Orderly r (startCons k s) := by
  have hopen : ∀ {c : ConsRec} {st : ConsState} {u : State}, s.consignment k = some c → c.state.ended = false →
      u.bay.consignments = s.bay.consignments → Orderly r u → Orderly r (Machine.enterCons k st u) :=
    fun {c st u} hc he hu h1 => h1.enterCons fun d hd _ hend => by
      rw [State.consignment, hu] at hd
      cases hc.symm.trans hd
      rw [he] at hend
      cases hend
  unfold Machine.startCons
  split
  · exact h
  next c hc =>
  have hitems : ∀ kind : ConsKind, Orderly r (match kind with
      | .collection => Machine.eachContainerOf k (fun r => { r with state := .assigned }) s
      | .delivery => s) ∧ (match kind with
      | .collection => Machine.eachContainerOf k (fun r => { r with state := .assigned }) s
      | .delivery => s).bay.consignments = s.bay.consignments := fun kind => by
    cases kind
    · exact ⟨h.eachContainerOf fun _ => rfl, eachContainerOf_consignments ..⟩
    · exact ⟨h, rfl⟩
  split
  · next hst => exact hopen hc (by rw [hst]; rfl) (hitems c.kind).2 (hitems c.kind).1
  · next hst => exact hopen hc (by rw [hst]; rfl) (hitems c.kind).2 (hitems c.kind).1
  · next hst => exact .ite (hopen hc (by rw [hst]; rfl) rfl h).examineWindow h
  · exact h.examineWindow

theorem Orderly.startDoor {d : Door} (h : Orderly r s) : Orderly r (startDoor d s) := .ite h.raiseForced h

@[simp] theorem startSafe_bayside (s : State) : (startSafe s).bayside = s.bayside := by
  unfold startSafe; dsimp only; split <;> simp

@[simp] theorem startMode_bayside (s : State) : (startMode s).bayside = s.bayside := by unfold startMode; split <;> simp

theorem Orderly.started (h : Orderly r s) : Orderly r (started s) := by
  have h1 : Orderly r (Machine.startCountUnit (startBook s)).1 := Orderly.startCountUnit (h.bayside rfl)
  unfold Machine.started
  generalize (Machine.startCountUnit (startBook s)).1 = u at h1 ⊢
  have h3 : Orderly r (startDesk (startEvacuation (startRecycler u))).1 :=
    h1.bayside ((startDesk_bayside _).trans ((startEvacuation_bayside _).trans rfl))
  generalize (startDesk (startEvacuation (startRecycler u))).1 = v at h3 ⊢
  have h4 : Orderly r (Machine.collectEach Machine.startCons consignmentSlots
      (v.setDoors ⟨v.doors.office.start, v.doors.courier.start, false, false, none⟩)).1 :=
    (h3.setDoors fun _ => .inl rfl).collectEach fun _ _ hu => hu.startCons
  dsimp only
  generalize (Machine.collectEach Machine.startCons consignmentSlots _).1 = w at h4 ⊢
  have h5 : Orderly r (Machine.collect (fun s => startSafe (Machine.startDoor .courier (Machine.startDoor .office s)))
      (startMode w)).1 := (h4.bayside (startMode_bayside w)).collect fun _ hu =>
        (hu.startDoor (d := .office)).startDoor.bayside (startSafe_bayside _)
  generalize (Machine.collect _ (startMode w)).1 = x at h5 ⊢
  exact h5.bayside rfl

/-- Steps 4 to 6 of R209. -/
theorem Orderly.startFrom {a b : Bool} {f : Nat → ModState} (h : Orderly r s) : Orderly r (startFrom a b f s) := by
  obtain ⟨l, e⟩ := startFrom_eq a b f s
  rw [e]
  exact (Orderly.settle (h.started.bayside (notifyAll_bayside ..))).bayside (transmit_bayside _)

theorem Orderly.stopLink (h : Orderly r s) : Orderly r (stopLink s) := by
  obtain ⟨-, -, e⟩ | ⟨-, e⟩ := stopLink_cases s <;> rw [e]
  · exact h.startFrom
  · exact h

@[simp] theorem restartSent_bayside (c : Nat) (x : Status) (s : State) : (restartSent c x s).bayside = s.bayside := by
  unfold restartSent; split <;> rfl

theorem Orderly.replySent (h : Orderly r s) : Orderly r (replySent s) := by
  unfold Machine.replySent
  dsimp only
  split
  · split
    · exact Orderly.catchUp (h.bayside ((dropEntries_bayside ..).trans rfl))
    · exact h.bayside rfl
  · exact h.bayside rfl

theorem Orderly.frameDone {f : Frame} (h : Orderly r s) : Orderly r (frameDone f s) := by
  have h1 : Orderly r { s with link := { s.link with onLine := none, lastSent := [f] } } := h.bayside rfl
  unfold Machine.frameDone
  revert h1
  generalize ({ s with link := { s.link with onLine := none, lastSent := [f] } } : State) = u
  intro h1
  dsimp only
  split
  · have h2 : ∀ c x, Orderly r (restartSent c x (Machine.replySent u)) := fun c x =>
      h1.replySent.bayside (restartSent_bayside ..)
    exact (h2 _ _).stopLink
  · have h2 : Orderly r (busySent u) := h1.bayside rfl
    exact h2.stopLink
  · exact h1.bayside rfl

/-- With its store lost the office begins with an empty register (R24). -/
theorem Orderly.storeLoss (s : State) : Orderly s (storeLoss s) := by
  have hempty : (Machine.storeLoss s).bay = Bay.initial := rfl
  have hnone : ∀ n, (Machine.storeLoss s).registered n = 0 := fun n => by
    rw [State.registered, hempty]
    simp [Bay.initial, Tab.fill, holdsNumber, expects]
  exact ⟨id, fun _ => registerLaw_iff.mpr fun n => (hnone n).le.trans (Nat.zero_le _)⟩

theorem powerUp_orderly (good : Bool) (s : State) : Orderly s (powerUp good s) := by
  cases good with
  | true => exact (Orderly.refl s).startFrom
  | false => exact (Orderly.storeLoss s).startFrom

end Sys2Proof.Machine
end

section
/-! Every command is orderly (O16), and the roster keeps its operator numbers apart (O18). -/

-- One theorem at a time: the whole text holds more theorems than the check has room for threads.
set_option Elab.async false

namespace Sys2Proof.Machine

variable {r s t : State} {g : Nat}

/-! ### Commands that are not plain requests -/

theorem Orderly.of_state (h : t = s) : Orderly s t := h ▸ .refl s

theorem execFetchPostings_orderly (b : Body Nat) (s : State) : ∃ t, execFetchPostings g b s = .next t ∧ Orderly s t := by
  have h := Orderly.request (c := 22) (g := g) (b := b) doFetchPostings_orderly s
  unfold execFetchPostings
  dsimp only
  (repeat' split)
  · exact ⟨_, rfl, h.bayside rfl⟩
  · exact ⟨_, rfl, h⟩
  · exact ⟨_, rfl, h⟩

theorem unknownRequest_orderly (c : Nat) (s : State) : ∃ t, execUnknownRequest c g s = .next t ∧ Orderly s t :=
  ⟨_, rfl, .ite (.refl s) (Orderly.request (fun _ u => .refl u) s)⟩

theorem linkBusy_orderly (c : Nat) (s : State) : ∃ t, execLinkBusy c g s = .next t ∧ Orderly s t := by
  refine ⟨_, rfl, ?_⟩
  split
  · exact (Orderly.refl s).bayside
  · exact .refl s

theorem clockTick_orderly (s : State) : ∃ t, execClockTick s = .next t ∧ Orderly s t := by
  have h : Orderly s (tickClock s) := (Orderly.refl s).bayside
  refine ⟨_, rfl, ?_⟩
  split
  · exact h
  · exact h.tickTimers.examineWindows.bayside (transmit_bayside _)

/-- A reading of a sensor, kept without power and acted on with it. -/
theorem reading_orderly {f g : State → State} (hf : Orderly s (f s)) (hg : Orderly s (g s)) :
    Orderly s (match s.powered with | false => f s | true => transmit (g s)) := by
  cases s.powered
  · exact hf
  · exact hg.bayside

theorem frameSent_orderly (s : State) : ∃ t, execFrameSent s = .next t ∧ Orderly s t := by
  refine ⟨_, rfl, Orderly.event ?_⟩
  split
  · exact (Orderly.refl s).frameDone
  · exact .refl s

theorem powerOn_orderly (b : Bool) (s : State) : ∃ t, execPowerOn b s = .next t ∧ Orderly s t := by
  refine ⟨_, rfl, ?_⟩
  cases s.powered
  · exact powerUp_orderly b s
  · exact .refl s

/-! ### Every command -/

theorem exec_orderly (c : Instr) (s : State) : ∃ t, exec c s = .next t ∧ Orderly s t := by
  have h := Orderly.refl s
  cases c with
  -- Book unit
  | setDenomination tag body => exact ⟨_, rfl, Orderly.request doSetDenomination_orderly s⟩
  | clearDenomination tag body => exact ⟨_, rfl, Orderly.request doClearDenomination_orderly s⟩
  | queryStock tag body => exact ⟨_, rfl, Orderly.request (fun _ u => .refl u) s⟩
  | queryPosition tag body => exact ⟨_, rfl, Orderly.request doQueryPosition_orderly s⟩
  | postPosition tag body => exact ⟨_, rfl, Orderly.request doPostPosition_orderly s⟩
  | setPostingMode tag body => exact ⟨_, rfl, Orderly.request doSetPostingMode_orderly s⟩
  | fetchPostings tag body => exact execFetchPostings_orderly body s
  | adjustPosition tag body => exact ⟨_, rfl, Orderly.request doAdjustPosition_orderly s⟩
  | opening tag body => exact ⟨_, rfl, Orderly.request doOpening_orderly s⟩
  -- Till desk
  | setTemplate tag body => exact ⟨_, rfl, Orderly.request doSetTemplate_orderly s⟩
  | buildFloat tag body => exact ⟨_, rfl, Orderly.request doBuildFloat_orderly s⟩
  | floatHanded tag body => exact ⟨_, rfl, Orderly.request doFloatHanded_orderly s⟩
  | acceptShort tag body => exact ⟨_, rfl, Orderly.request doAcceptShort_orderly s⟩
  | rebuild tag body => exact ⟨_, rfl, Orderly.request doRebuild_orderly s⟩
  | cancelBuild tag body => exact ⟨_, rfl, Orderly.request doCancelBuild_orderly s⟩
  | queryBuilds tag body => exact ⟨_, rfl, Orderly.request (fun _ u => .refl u) s⟩
  | reportSales tag body => exact ⟨_, rfl, Orderly.request doReportSales_orderly s⟩
  | acceptVariance tag body => exact ⟨_, rfl, Orderly.request doAcceptVariance_orderly s⟩
  | closeTill tag body => exact ⟨_, rfl, Orderly.request doCloseTill_orderly s⟩
  | queryTill tag body => exact ⟨_, rfl, Orderly.request (fun q u => .of_state (doQueryTill_state q u)) s⟩
  -- Count unit
  | setLine tag body => exact ⟨_, rfl, Orderly.request doSetLine_orderly s⟩
  | resetStation tag body => exact ⟨_, rfl, Orderly.request doResetStation_orderly s⟩
  | stationQuery tag body => exact ⟨_, rfl, Orderly.request doStationQuery_orderly s⟩
  | startCount tag body => exact ⟨_, rfl, Orderly.request doStartCount_orderly s⟩
  | declareCoin tag body => exact ⟨_, rfl, Orderly.request doDeclareCoin_orderly s⟩
  | setCoinLimit tag body => exact ⟨_, rfl, Orderly.request doSetCoinLimit_orderly s⟩
  | acceptCount tag body => exact ⟨_, rfl, Orderly.request doAcceptCount_orderly s⟩
  | rejectCount tag body => exact ⟨_, rfl, Orderly.request doRejectCount_orderly s⟩
  | voidLot tag body => exact ⟨_, rfl, Orderly.request doVoidLot_orderly s⟩
  | resumeDisposal tag body => exact ⟨_, rfl, Orderly.request doResumeDisposal_orderly s⟩
  | disposeLotReserve tag body => exact ⟨_, rfl, Orderly.request doDisposeLotReserve_orderly s⟩
  | queryLot tag body => exact ⟨_, rfl, Orderly.request (fun q u => .of_state (doQueryLot_state q u)) s⟩
  | queryJobs tag body => exact ⟨_, rfl, Orderly.request (fun _ u => .refl u) s⟩
  -- Recycler controller
  | setCassette tag body => exact ⟨_, rfl, Orderly.request doSetCassette_orderly s⟩
  | insertCassette tag body => exact ⟨_, rfl, Orderly.request doInsertCassette_orderly s⟩
  | removeCassette tag body => exact ⟨_, rfl, Orderly.request doRemoveCassette_orderly s⟩
  | setRoute tag body => exact ⟨_, rfl, Orderly.request doSetRoute_orderly s⟩
  | queryRecycler tag body => exact ⟨_, rfl, Orderly.request (fun _ u => .refl u) s⟩
  | setArbiter tag body => exact ⟨_, rfl, Orderly.request doSetArbiter_orderly s⟩
  | openFloatWindow tag body => exact ⟨_, rfl, Orderly.request doOpenFloatWindow_orderly s⟩
  | closeFloatWindow tag body => exact ⟨_, rfl, Orderly.request doCloseFloatWindow_orderly s⟩
  | queryArbiter tag body => exact ⟨_, rfl, Orderly.request (fun _ u => .refl u) s⟩
  | setFaultPolicy tag body => exact ⟨_, rfl, Orderly.request doSetFaultPolicy_orderly s⟩
  | clearBucket tag body => exact ⟨_, rfl, Orderly.request doClearBucket_orderly s⟩
  | setEvacuation tag body => exact ⟨_, rfl, Orderly.request doSetEvacuation_orderly s⟩
  | startEvacuation tag body => exact ⟨_, rfl, Orderly.request doStartEvacuation_orderly s⟩
  | queryEvacuation tag body => exact ⟨_, rfl, Orderly.request (fun _ u => .refl u) s⟩
  -- Bay controller
  | openBag tag body => exact ⟨_, rfl, Orderly.request doOpenBag_orderly s⟩
  | fillBag tag body => exact ⟨_, rfl, Orderly.request doFillBag_orderly s⟩
  | closeBag tag body => exact ⟨_, rfl, Orderly.request doCloseBag_orderly s⟩
  | discardContainer tag body => exact ⟨_, rfl, Orderly.request doDiscardContainer_orderly s⟩
  | createConsignment tag body => exact ⟨_, rfl, Orderly.request doCreateConsignment_orderly s⟩
  | addItem tag body => exact ⟨_, rfl, Orderly.request doAddItem_orderly s⟩
  | stage tag body => exact ⟨_, rfl, Orderly.request doStage_orderly s⟩
  | engage tag body => exact ⟨_, rfl, Orderly.request doEngage_orderly s⟩
  | retrieve tag body => exact ⟨_, rfl, Orderly.request doRetrieve_orderly s⟩
  | lockBay tag body => exact ⟨_, rfl, Orderly.request doLockBay_orderly s⟩
  | abort tag body => exact ⟨_, rfl, Orderly.request doAbort_orderly s⟩
  | setDoorLimit tag body => exact ⟨_, rfl, Orderly.request doSetDoorLimit_orderly s⟩
  | queryContainer tag body => exact ⟨_, rfl, Orderly.request (fun q u => .of_state (doQueryContainer_state q u)) s⟩
  | queryConsignment tag body => exact ⟨_, rfl, Orderly.request (fun q u => .of_state (doQueryConsignment_state q u)) s⟩
  | queryBay tag body => exact ⟨_, rfl, Orderly.request (fun _ u => .refl u) s⟩
  -- Office control
  | enterHold tag body => exact ⟨_, rfl, Orderly.request doEnterHold_orderly s⟩
  | leaveHold tag body => exact ⟨_, rfl, Orderly.request doLeaveHold_orderly s⟩
  | setRosterEntry tag body => exact ⟨_, rfl, Orderly.request doSetRosterEntry_orderly s⟩
  | openSafe tag body => exact ⟨_, rfl, Orderly.request doOpenSafe_orderly s⟩
  | closeSafe tag body => exact ⟨_, rfl, Orderly.request doCloseSafe_orderly s⟩
  | setSafeRelock tag body => exact ⟨_, rfl, Orderly.request doSetSafeRelock_orderly s⟩
  | setClock tag body => exact ⟨_, rfl, Orderly.request doSetClock_orderly s⟩
  | clearFaultRecord tag body => exact ⟨_, rfl, Orderly.request doClearFaultRecord_orderly s⟩
  -- Link unit
  | getStatus tag body => exact ⟨_, rfl, Orderly.request doGetStatus_orderly s⟩
  | restart tag body => exact ⟨_, rfl, Orderly.request doRestart_orderly s⟩
  | unknownRequest code tag => exact unknownRequest_orderly code s
  | linkBusy code tag => exact linkBusy_orderly code s
  | droppedFrame reason => exact ⟨_, rfl, Orderly.event h.bayside⟩
  | byteGapTimeout => exact ⟨_, rfl, Orderly.event h.bayside⟩
  | lineBreak => exact ⟨_, rfl, Orderly.event h.bayside⟩
  | frameSent => exact frameSent_orderly s
  -- Power and time
  | powerOn storeGood => exact powerOn_orderly storeGood s
  | powerLoss => exact ⟨_, rfl, h.bayside rfl⟩
  | clockTick => exact clockTick_orderly s
  | windowOpen consignment => exact ⟨_, rfl, Orderly.event h.examineWindow⟩
  | windowClose consignment => exact ⟨_, rfl, Orderly.event h.examineWindow⟩
  | floatWindowExpiry => exact ⟨_, rfl, Orderly.event h.bayside⟩
  | heldOpen door => exact ⟨_, rfl, Orderly.event h.checkHeld⟩
  | courierDoorTimeout => exact ⟨_, rfl, Orderly.event h.courierLate⟩
  | relockTime => exact ⟨_, rfl, Orderly.event h.relockDue⟩
  -- Safe and bay sensors and readers
  | safeSensorOpen => exact ⟨_, rfl, reading_orderly h.bayside h.safeReadsOpen⟩
  | safeSensorClosed => exact ⟨_, rfl, reading_orderly h.bayside h.safeReadsClosed⟩
  | officeDoorOpened => exact ⟨_, rfl, reading_orderly h.doorReading h.sensorOpened⟩
  | officeDoorClosed =>
    exact ⟨_, rfl, reading_orderly (g := fun u => bayAfter (sensorClosed .office u)) h.doorReading
      h.sensorClosed.bayAfter⟩
  | courierDoorOpened => exact ⟨_, rfl, reading_orderly h.doorReading h.courierOpens⟩
  | courierDoorClosed => exact ⟨_, rfl, reading_orderly h.doorReading h.courierCloses⟩
  | officeSideRead number => exact ⟨_, rfl, Orderly.event h.officeRead⟩
  | courierSideRead number => exact ⟨_, rfl, Orderly.event h.courierRead⟩
  -- Station line
  | pollCycle => exact ⟨_, rfl, Orderly.event h.bayside⟩
  | attachMark => exact ⟨_, rfl, Orderly.event h.bayside⟩
  | recordSent signals => exact ⟨_, rfl, Orderly.event (h.inTurn fun _ => h.bayside)⟩
  | replyTimeout => exact ⟨_, rfl, Orderly.event (h.inTurn fun _ => h.bayside)⟩
  | recordGapTimeout signals => exact ⟨_, rfl, Orderly.event (h.inTurn fun _ => h.bayside)⟩
  | failedRecord signals => exact ⟨_, rfl, Orderly.event (h.inTurn fun _ => h.bayside)⟩
  | stationState station signals mech stack =>
    exact ⟨_, rfl, Orderly.event (h.inTurn fun _ => h.fromStation fun _ k => k.goodState)⟩
  | reportHead station signals head =>
    exact ⟨_, rfl, Orderly.event (h.inTurn fun _ => h.fromStation fun _ k => k.bayside)⟩
  | reportItem station signals item =>
    exact ⟨_, rfl, Orderly.event (h.inTurn fun _ => h.fromStation fun _ k => k.bayside)⟩
  | reportEnd station signals last =>
    exact ⟨_, rfl, Orderly.event (h.inTurn fun _ => h.fromStation fun _ k => k.bayside)⟩
  | reportQuietTimeout => exact ⟨_, rfl, Orderly.event (h.inTurn fun _ => h.bayside)⟩
  | reportRecordTimeout => exact ⟨_, rfl, Orderly.event (h.inTurn fun _ => h.bayside)⟩
  -- Recycler mechanism
  | noteRead point reading => exact ⟨_, rfl, Orderly.event h.readNote⟩
  | noteArrived dest => exact ⟨_, rfl, Orderly.event h.noteArrives⟩
  | misfeed point => exact ⟨_, rfl, Orderly.event (.ite (Orderly.settle h.bayside) h)⟩
  | doublePick point => exact ⟨_, rfl, Orderly.event (.ite (Orderly.settle h.bayside) h)⟩
  | jam point => exact ⟨_, rfl, Orderly.event (Orderly.settle h.bayside)⟩
  | moduleFault module => exact ⟨_, rfl, Orderly.event (Orderly.settle h.bayside)⟩
  | moduleFaultCleared module => exact ⟨_, rfl, Orderly.event h.bayside⟩
  | headEmpty i => exact ⟨_, rfl, Orderly.event h.headEmpties⟩
  | headLoaded i => exact ⟨_, rfl, Orderly.event h.bayside⟩
  | tagCheckDone module tags => exact ⟨_, rfl, Orderly.event h.tagsRead⟩
  | purgeEnded clear notes => exact ⟨_, rfl, Orderly.event h.purgeOver⟩

/-- Every step is orderly. -/
theorem step_orderly (ht : step s = .next t) : Orderly s t := by
  unfold step at ht
  split at ht
  · rw [← Host.Outcome.next.inj ht]
    exact (Orderly.refl s).idle
  · next c rest _ =>
    obtain ⟨u, hu, hk⟩ := exec_orderly c { s with pending := rest }
    rw [hu] at ht
    rw [← Host.Outcome.next.inj ht]
    exact ((Orderly.refl s).bayside rfl : Orderly s { s with pending := rest }).trans hk

/-! ### The roster, R195 -/

/-- No two entries of a roster hold one operator number. -/
def NumbersApart (l : Tab 32 (Option RosterEntry)) : Prop :=
  ∀ i j, i < 32 → j < 32 → i ≠ j → ∀ a b, l.get none i = some a → l.get none j = some b → a.number ≠ b.number

theorem rosterLaw_iff : s.rosterLaw ↔ NumbersApart s.settings.roster := .rfl

theorem NumbersApart.empty {l : Tab 32 (Option RosterEntry)} (h : ∀ i < 32, l.get none i = none) : NumbersApart l :=
  fun i _ hi _ _ a _ ha _ => by rw [h i hi] at ha; cases ha

/-- An entry may be emptied, and filled with a number that no other entry holds. -/
theorem NumbersApart.set {l : Tab 32 (Option RosterEntry)} {k : Nat} {x : Option RosterEntry} (h : NumbersApart l)
    (hx : ∀ e, x = some e → ∀ i < 32, i ≠ k → ∀ a, l.get none i = some a → a.number ≠ e.number) :
    NumbersApart (l.set k x) := by
  intro i j hi hj hne a b ha hb
  by_cases hik : i = k
  · subst hik
    rw [Tab.get_set_self _ _ _ _ hi] at ha
    rw [Tab.get_set_ne _ _ _ _ _ hne] at hb
    exact (hx a ha j hj (Ne.symm hne) b hb).symm
  · rw [Tab.get_set_ne _ _ _ _ _ (Ne.symm hik)] at ha
    by_cases hjk : j = k
    · subst hjk
      rw [Tab.get_set_self _ _ _ _ hj] at hb
      exact hx b hb i hi hik a ha
    · rw [Tab.get_set_ne _ _ _ _ _ (Ne.symm hjk)] at hb
      exact h i j hi hj hne a b ha hb

/-- The settings keep the numbers of the roster apart. -/
def keepsApart (x y : Settings) : Prop := NumbersApart x.roster → NumbersApart y.roster

/-- A number that no other entry holds may be written (R195). -/
theorem doSetRosterEntry_keepsApart (q : SetRosterReq) (s : State) :
    keepsApart s.settings (doSetRosterEntry q s).2.settings := by
  unfold doSetRosterEntry
  split
  · exact id
  split
  · exact id
  split
  · exact fun h => h.set nofun
  split
  · exact id
  next c _ hfree =>
  refine fun h => h.set fun e he i hi hne a ha hn => hfree ?_
  cases he
  exact List.any_eq_true.mpr ⟨i, List.mem_range.mpr hi, by simp [hne, show s.office.roster.get none i = some a from ha, hn, rosterEntry]⟩

/-- The first operators are two, written into an empty roster (R196). -/
theorem openingCheck_keepsApart {x y : Nat} (h : openingCheck x y s = .ok t) : keepsApart s.settings t.settings := by
  unfold openingCheck at h
  split at h
  · next hempty =>
    have hnone : ∀ i < 32, s.office.roster.get none i = none :=
      (Tab.forall_list none s.office.roster (· = none)).mp fun e he => by simpa using List.all_eq_true.mp hempty e he
    split at h
    · cases h
    next hxy =>
    cases h
    refine fun h => NumbersApart.set (NumbersApart.set h fun _ _ i hi _ a ha => ?_) fun e he i hi _ a ha => ?_
    · rw [show s.office.roster.get none i = none from hnone i hi] at ha
      cases ha
    · cases he
      by_cases h0 : i = 0
      · subst h0
        rw [Tab.get_set_self _ _ _ _ hi] at ha
        cases ha
        exact fun hn => hxy (.inl hn)
      · rw [Tab.get_set_ne _ _ _ _ _ (Ne.symm h0), show s.office.roster.get none i = none from hnone i hi] at ha
        cases ha
  · split at h
    · cases h
    · cases h; exact id

theorem doOpening_keepsApart (q : OpeningReq) (s : State) : keepsApart s.settings (doOpening q s).2.settings := by
  unfold doOpening
  split
  · exact id
  next u ho =>
  have h := openingCheck_keepsApart ho
  dsimp only
  split
  · exact h
  · next hc =>
    dsimp only
    rw [((Faithful.refl u).applyMovement hc).settle.1]
    exact h

theorem rosterLaw_powerUp_storeLoss (s : State) : (powerUp false s).rosterLaw := by
  have hk : (powerUp false s).settings = (storeLoss s).settings := (Faithful.refl (storeLoss s)).startFrom.1
  rw [rosterLaw_iff, hk]
  exact .empty fun i _ => get_fill_same none i

/-- Every command keeps the operator numbers apart. -/
theorem rosterLaw_exec {c : Instr} (h : exec c s = .next t) (hs : s.rosterLaw) : t.rosterLaw := by
  have hlift : ∀ {α : Type} {n g : Nat} {b : Body α} {f : α → State → Reply × State} {R : Settings → Settings → Prop},
      (∀ a u, ChangesOnly R u (f a u).2) → (∀ a u, keepsApart u.settings (f a u).2.settings) →
      (request n g b f s).rosterLaw := fun hb hk =>
    (ChangesOnly.request (R := keepsApart) (fun _ => id) (fun a u => ⟨hk a u, (hb a u).2⟩) s).1 hs
  by_cases hset : ∃ g b, c = .setRosterEntry g b
  · obtain ⟨g, b, rfl⟩ := hset
    rw [← Host.Outcome.next.inj h]
    exact hlift (doSetRosterEntry_changesOnly (g := g) b) doSetRosterEntry_keepsApart
  by_cases hopen : ∃ g b, c = .opening g b
  · obtain ⟨g, b, rfl⟩ := hopen
    rw [← Host.Outcome.next.inj h]
    exact hlift (doOpening_changesOnly (g := g) b) doOpening_keepsApart
  by_cases hc : c = .powerOn false
  · subst hc
    rw [← Host.Outcome.next.inj h]
    cases s.powered
    · exact rosterLaw_powerUp_storeLoss s
    · exact hs
  · have hk := maySet_roster (maySet_exec h hc) (fun g b e => hset ⟨g, b, e⟩) (fun g b e => hopen ⟨g, b, e⟩)
    rw [rosterLaw_iff, hk]
    exact hs

theorem rosterLaw_step (ht : step s = .next t) (hs : s.rosterLaw) : t.rosterLaw := by
  unfold step at ht
  split at ht
  · rw [← Host.Outcome.next.inj ht, rosterLaw_iff, (Faithful.refl s).idle.1]
    exact hs
  · exact rosterLaw_exec ht hs

end Sys2Proof.Machine

open Sys2Proof Sys2Proof.Machine

/-- Settles O16: every operation of the model is orderly, and so every step. -/
theorem stepNeverUnlocksBothDoors : Obligations.StepNeverUnlocksBothDoors := fun _ _ hs ht => (step_orderly ht).1 hs

/-- Settles O18: the roster changes by SET ROSTER ENTRY and OPENING alone, and every operation is orderly. -/
theorem stepKeepsRosterNumbersApart : Obligations.StepKeepsRosterNumbersApart :=
  ⟨fun _ _ hs ht => rosterLaw_step ht hs, fun _ _ hs ht => (step_orderly ht).2 hs⟩

end

section
/-! What a start and the settling that follows it leave as they are (R208, R209): the projection `State.lasting`, and the
relation `Lasts` of a state to those that follow it while every run, module and station is at rest. -/

-- One theorem at a time: the whole text holds more theorems than the check has room for threads.
set_option Elab.async false

namespace Sys2Proof.Machine

variable {r s t : State}

/-- What a controller at rest changes nothing of: all but its registers, its reservations and builds, the entries of the
arbiter, the state of the evacuation, and the queues of notices and postings, which may grow. -/
structure Lasting where
  pending : List Instr
  powered : Bool
  counts : List Counts
  totals : Counts
  moveCounter : Nat
  opening : Bool
  tills : Tab 256 TillRec
  stations : Tab 4 StationRec
  lotCounter : Nat
  recycler : Recycler
  account : Nat
  doors : Doors
  office : Office
  receiver : Receiver
  inHand : Option InHand
  owed : List (Nat × Nat)
  onLine : Option Frame
  stopping : Bool
  lastSent : List Frame

def State.lasting (s : State) : Lasting where
  pending := s.pending
  powered := s.powered
  counts := s.book.positions.list.map PosRec.counts
  totals := s.book.totals
  moveCounter := s.book.moveCounter
  opening := s.book.opening
  tills := s.desk.tills
  stations := s.count.stations
  lotCounter := s.count.lotCounter
  recycler := s.recycler
  account := s.arbiter.account
  doors := s.doors
  office := s.office
  receiver := s.link.receiver
  inHand := s.link.inHand
  owed := s.link.owed
  onLine := s.link.onLine
  stopping := s.link.stopping
  lastSent := s.link.lastSent

theorem recycler_of_lasting (h : t.lasting = s.lasting) : t.recycler = s.recycler := congrArg Lasting.recycler h
theorem stations_of_lasting (h : t.lasting = s.lasting) : t.count.stations = s.count.stations := congrArg Lasting.stations h
theorem office_of_lasting (h : t.lasting = s.lasting) : t.office = s.office := congrArg Lasting.office h

/-- From `s` to `t` what lasts is the same, and the queues have at most grown. -/
structure Lasts (s t : State) : Prop where
  same : t.lasting = s.lasting
  queue : s.book.queue <+: t.book.queue
  notices : s.link.notices <+: t.link.notices

theorem Lasts.refl (s : State) : Lasts s s := ⟨rfl, List.prefix_rfl, List.prefix_rfl⟩

theorem Lasts.trans (h : Lasts r s) (k : Lasts s t) : Lasts r t :=
  ⟨k.same.trans h.same, h.queue.trans k.queue, h.notices.trans k.notices⟩

/-- A change beside all that lasts and beside the queues. -/
theorem Lasts.beside (h : Lasts r s) (e : t.lasting = s.lasting := by rfl) (hq : t.book.queue = s.book.queue := by rfl)
    (hn : t.link.notices = s.link.notices := by rfl) : Lasts r t :=
  h.trans ⟨e, hq ▸ List.prefix_rfl, hn ▸ List.prefix_rfl⟩

theorem Lasts.each {f : Nat → State → State} (hf : ∀ n s, Lasts r s → Lasts r (f n s)) (l : List Nat) (h : Lasts r s) :
    Lasts r (State.each f l s) := each_keeps (Lasts r) f hf l s h

theorem Lasts.ite {c : Prop} [Decidable c] {u v : State} (h1 : Lasts r u) (h2 : Lasts r v) : Lasts r (if c then u else v) := by
  split
  · exact h1
  · exact h2

theorem Lasts.notify {b : NoticeBody} (h : Lasts r s) : Lasts r (notify b s) := by
  unfold Machine.notify
  dsimp only
  split
  · exact h.trans ⟨rfl, List.prefix_rfl, List.prefix_append ..⟩
  · exact h.beside

theorem Lasts.notifyAll {l : List NoticeBody} (h : Lasts r s) : Lasts r (notifyAll l s) := by
  induction l generalizing s with
  | nil => exact h
  | cons b l ih => exact ih h.notify

/-! ### The book -/

theorem Lasts.setPosRec {p : Nat} {x : PosRec} (h : Lasts r s) (hx : x.counts = (s.posRec p).counts) :
    Lasts r (s.setPosRec p x) := by
  have hc : (s.book.positions.list.set p x).map PosRec.counts = s.book.positions.list.map PosRec.counts := by
    rw [List.map_set]
    by_cases hp : p < s.book.positions.list.length
    · have hg : s.posRec p = s.book.positions.list[p] := List.getD_eq_getElem _ _ hp
      rw [hx, hg, ← List.getElem_map PosRec.counts (h := by simpa using hp)]
      exact List.set_getElem_self _
    · exact List.set_eq_of_length_le (by simpa using Nat.le_of_not_lt hp)
  exact h.beside (by simp only [State.lasting, State.setPosRec, Tab.set, hc])

theorem Lasts.queueEntry {b : EntryBody} (h : Lasts r s) : Lasts r (queueEntry b s) := by
  unfold Machine.queueEntry
  split
  · exact h
  dsimp only
  have h1 : ∀ n armed, Lasts r { s with book := { s.book with
      queue := s.book.queue ++ [⟨n, s.clock, b⟩], lastSeq := n, armed := armed } } := fun n armed =>
    h.trans ⟨rfl, List.prefix_append .., List.prefix_rfl⟩
  split
  · exact (h1 _ false).notify
  · exact h1 _ s.book.armed

theorem Lasts.completeRelease {p : Nat} (h : Lasts r s) : Lasts r (completeRelease p s) := by
  have h1 : Lasts r (s.setPosRec p { s.posRec p with
    inUse := false, marks := Marks.clear, overdue := false, inRun := false, releasePending := false }) := h.setPosRec rfl
  unfold Machine.completeRelease
  dsimp only
  split
  · exact h1.beside
  · exact h1.beside
  · exact h1

theorem Lasts.clearMarks {p : Nat} (h : Lasts r s) : Lasts r (clearMarks p s) := by
  have h1 : Lasts r (s.setPosRec p { s.posRec p with marks := Marks.clear, overdue := false }) := h.setPosRec rfl
  exact .ite h1.completeRelease h1

theorem Lasts.settlePosition {p : Nat} {x : SettleReason} (h : Lasts r s) : Lasts r (settlePosition p x s) := by
  unfold Machine.settlePosition
  split
  · exact h.queueEntry.clearMarks
  · exact h.clearMarks

theorem Lasts.tryRelease {p : Nat} (h : Lasts r s) : Lasts r (tryRelease p s) :=
  .ite h (.ite (h.setPosRec rfl) h.settlePosition)

theorem Lasts.requestRelease {p : Nat} (h : Lasts r s) : Lasts r (requestRelease p s) := by
  have h1 : Lasts r (s.setPosRec p { s.posRec p with releasePending := true }) := h.setPosRec rfl
  exact .ite h h1.tryRelease

theorem Lasts.voidRelease {n : Nat} (h : Lasts r s) : Lasts r (voidRelease n s) := by
  unfold Machine.voidRelease
  split
  · exact .ite h.requestRelease h
  · exact h

/-! ### The entries of the arbiter, while no run is live -/

section
variable (hl : r.recycler.run.live = false)
include hl

theorem Lasts.asleep (h : Lasts r s) : s.recycler.run.live = false := by rw [recycler_of_lasting h.same, hl]

theorem Lasts.withdrawFor {k : Nat} (h : Lasts r s) : Lasts r (withdrawFor k s) := by
  have hrun : s.runningKind .dispense = false := by rw [State.runningKind, h.asleep hl, Bool.false_and]
  unfold Machine.withdrawFor withdrawDispense
  split
  · split
    · split
      · exact h
      · rw [hrun, if_neg Bool.false_ne_true]
        exact h.beside
    · exact h
  · exact h

theorem Lasts.becomeShort {k d : Nat} {c : ShortCause} (h : Lasts r s) : Lasts r (becomeShort k c d s) := by
  unfold Machine.becomeShort
  split
  · exact h
  · next b _ =>
    have h1 : ∀ x, Lasts r (s.setBuild k x) := fun x => h.beside
    exact ((h1 _).withdrawFor hl).notify

theorem Lasts.notesDone {k : Nat} {b : Build} (h : Lasts r s) : Lasts r (notesDone k b s) := by
  have h1 : ∀ x, Lasts r (s.setBuild k x) := fun x => h.beside
  unfold Machine.notesDone
  split
  · exact h.becomeShort hl
  · exact (h1 _).notify

theorem Lasts.nextDispense {k : Nat} {b : Build} (h : Lasts r s) : Lasts r (nextDispense k b s) := by
  unfold Machine.nextDispense
  split
  · exact h.notesDone hl
  · exact .ite (h.becomeShort hl) h.beside

theorem Lasts.buildStep {k : Nat} (h : Lasts r s) (ht : buildStep k s = some t) : Lasts r t := by
  unfold Machine.buildStep at ht
  (repeat' split at ht) <;> cases ht
  · exact h.notesDone hl
  · exact h.nextDispense hl
  · exact h.becomeShort hl
  · exact h.nextDispense hl
  · exact h.nextDispense hl

theorem Lasts.buildsStep {l : List Nat} (h : Lasts r s) (ht : buildsStep l s = some t) : Lasts r t := by
  induction l with
  | nil => cases ht
  | cons k l ih =>
    unfold Machine.buildsStep at ht
    split at ht
    · next hk => rw [← Option.some.inj ht]; exact h.buildStep hl hk
    · exact ih ht

theorem Lasts.cutReport {d k : Nat} (h : Lasts r s) : Lasts r (cutReport d k s) := by
  have h1 : ∀ x, Lasts r (s.setBuild k x) := fun x => h.beside
  unfold Machine.cutReport
  split
  · exact h
  dsimp only
  split
  · exact (h1 _).becomeShort hl
  · exact (h1 _).becomeShort hl
  · have h2 : ∀ x y, Lasts r ((s.setBuild k x).setBuild k y) := fun x y => (h1 x).beside
    exact .ite ((h2 _ _).withdrawFor hl) (h1 _)
  · exact h1 _
  · exact h1 _

theorem Lasts.cutDenom {d : Nat} (h : Lasts r s) : Lasts r (cutDenom d s) := by
  have h1 : Lasts r (cutEntries d s).1 := h.beside
  exact .ite h (.each (fun _ _ hs => hs.cutReport hl) _ h1)

theorem Lasts.cutDue (h : Lasts r s) : Lasts r (cutDue s) := .each (fun _ _ hs => hs.cutDenom hl) _ h

end

/-! ### The reactions of a controller at rest -/

/-- No run is live, no module is in service or waits for a purge, grants are closed, the safe is LOCKED, no hold is pending,
and no station is offered a job. -/
structure AtRest (s : State) : Prop where
  asleep : s.recycler.run.live = false
  unserviced : ∀ m, s.inService m = false
  unpurged : ∀ m, (s.module m).step ≠ .purgeWait
  closed : s.grantsOpen = false
  locked : s.office.safe.state = .locked
  settled : s.office.mode ≠ .holdPending
  idle : ∀ n, s.offerable n = false

theorem AtRest.lasting (h : AtRest s) (e : t.lasting = s.lasting) : AtRest t := by
  have hr := recycler_of_lasting e
  have ho := office_of_lasting e
  have hs := stations_of_lasting e
  have hm : ∀ m, t.module m = s.module m := fun m => by rw [State.module, hr, State.module]
  have hst : ∀ n, t.station n = s.station n := fun n => by rw [State.station, hs, State.station]
  refine ⟨hr ▸ h.asleep, fun m => ?_, fun m => hm m ▸ h.unpurged m, ?_, ho ▸ h.locked, ho ▸ h.settled, fun n => ?_⟩
  · rw [← h.unserviced m, State.inService, hm, State.inService]
  · rw [← h.closed]
    simp only [State.grantsOpen, hr, ho, hm]
  · rw [← h.idle n, State.offerable, hst, State.offerable]

/-- No cassette is a candidate of a module out of service (R163). -/
theorem AtRest.candidates (h : AtRest s) : s.candidates = [] := by
  have hnone : ∀ c, s.isCandidate c = false := fun c => by simp [State.isCandidate, h.unserviced]
  have hm : ∀ m, s.moduleCandidates m = [] := fun m => by
    rw [State.moduleCandidates, List.filter_eq_nil_iff.mpr fun c _ => by simp [hnone]]
    rfl
  rw [State.candidates, hm, hm]
  rfl

theorem AtRest.nextAssignment (h : AtRest s) (l : List Nat) : s.nextAssignment l = none := by
  have hnone : ∀ n, s.stationFor n = none := fun n => by
    unfold State.stationFor
    split
    · split
      · exact List.find?_eq_none.mpr fun k _ => by simp [h.idle]
      · rfl
    · rfl
  induction l with
  | nil => rfl
  | cons n l ih => rw [State.nextAssignment, hnone, ih]

theorem Lasts.pauseStep (h : Lasts r s) (ht : pauseStep s = some t) : Lasts r t := by
  unfold Machine.pauseStep at ht
  (repeat' split at ht) <;> cases ht <;> exact h.beside

/-- At rest only reservations, builds, the dispense tray and a pause move of themselves. -/
theorem Lasts.reaction {f : State → Option State} (hr : AtRest r) (hf : f ∈ reactions) (h : Lasts r s)
    (ht : f s = some t) : Lasts r t := by
  have hs : AtRest s := hr.lasting h.same
  have hno : f s = none → Lasts r t := fun e => by rw [e] at ht; cases ht
  simp only [reactions, firstReactions, lastReactions, List.cons_append, List.nil_append, List.mem_cons, List.not_mem_nil,
    or_false] at hf
  rcases hf with rfl | rfl | rfl | rfl | rfl | rfl | rfl | rfl | rfl | rfl | rfl | rfl | rfl | rfl | rfl
  · exact hno (by simp [causeStep, hs.asleep])
  · exact hno (by simp [closeStep, hs.asleep])
  · exact hno (by simp [gradeStep, hs.unserviced])
  · unfold cutStep at ht
    split at ht
    · rw [← Option.some.inj ht]; exact h.cutDue hr.asleep
    · cases ht
  · unfold trayFreed at ht
    (repeat' split at ht) <;> cases ht <;> exact h.beside
  · unfold trayTaken at ht
    (repeat' split at ht) <;> cases ht
    exact h.beside
  · exact h.buildsStep hr.asleep ht
  · exact h.pauseStep ht
  · exact hno (by simp [autoEvac, hs.candidates])
  · exact hno (by simp [purgeStart, hs.unpurged])
  · exact hno (by simp [preemptStep, State.runningKind, hs.asleep])
  · exact hno (by simp [safeStep, hs.locked])
  · exact hno (by simp [holdStep, hs.settled])
  · exact hno (by simp [assignStep, hs.nextAssignment])
  · exact hno (by simp [grantStep, hs.closed])

theorem Lasts.settle (hr : AtRest r) (h : Lasts r s) : Lasts r (settle s) :=
  settle_keeps (Lasts r) (fun _ hf _ _ hu ht => hu.reaction hr hf ht) (fun _ _ hu => hu.cutDenom hr.asleep) s h

end Sys2Proof.Machine
end

section
/-! The stages of a start (R209): what each leaves as it is, and the controller at rest that comes of them. -/

-- One theorem at a time: the whole text holds more theorems than the check has room for threads.
set_option Elab.async false

namespace Sys2Proof.Machine

variable {r s t : State}

/-! ### The blocks' registers -/

/-- The link of the time before, put back, is beside what lasts. -/
theorem lasting_link (e : t.lasting = s.lasting) : ({ t with link := s.link } : State).lasting = s.lasting := by
  simp only [State.lasting, Lasting.mk.injEq] at e ⊢
  simp [e]

/-- Notices collected apart leave the queue as it was. -/
theorem lasts_collect {f : State → State} (hf : ∀ u, u.lasting = s.lasting → Lasts u (f u)) : Lasts s (collect f s).1 := by
  have h := hf { s with link := { s.link with notices := [], noticeNumber := 0, noticeLost := false } } rfl
  exact ⟨lasting_link h.same, h.queue, List.prefix_rfl⟩

theorem lasts_collectEach {f : Nat → State → State} (hf : ∀ n u, u.lasting = s.lasting → Lasts u (f n u)) (l : List Nat) :
    Lasts s (collectEach f l s).1 := by
  induction l generalizing s with
  | nil => exact .refl s
  | cons n l ih =>
    have h := lasts_collect (hf n)
    exact h.trans (ih fun m u hu => hf m u (hu.trans h.same))

theorem Lasts.startLot {n : Nat} (h : Lasts r s) : Lasts r (startLot n s) := by
  have h1 : ∀ x, Lasts r (s.setLot n x) := fun x => h.beside
  have h2 : Lasts r (interruptLot n s) := by
    unfold interruptLot
    split
    · exact (h1 _).notify
    · exact h
  unfold Machine.startLot
  split
  · exact h
  · split
    · exact (h1 _).notify
    · exact (h1 _).notify
    · exact h2
    · exact h

/-- The count unit starts with every station's record anew, and keeps of its lots what lasts (R115). -/
theorem startCountUnit_lasting (s : State) : ∃ keep, (startCountUnit s).1.lasting =
    { s.lasting with stations := s.count.stations.map (startStation keep) } ∧
    s.book.queue <+: (startCountUnit s).1.book.queue := by
  have h1 : Lasts s (collectEach startLot (List.range 64) s).1 :=
    lasts_collectEach (fun _ u _ => (Lasts.refl u).startLot) _
  unfold startCountUnit
  dsimp only
  generalize (collectEach startLot (List.range 64) s).1 = a at h1 ⊢
  obtain ⟨b, hb, hl, hq⟩ : ∃ b, b = ({ a with
      count := { a.count with jobs := s.startJobs, jobCounter := 0,
                              stations := a.count.stations.map (startStation a.lotInterrupted) }
      line := Line.initial } : State) ∧
      b.lasting = { a.lasting with stations := a.count.stations.map (startStation a.lotInterrupted) } ∧
      b.book.queue = a.book.queue := ⟨_, rfl, rfl, rfl⟩
  rw [← hb]
  have h2 : Lasts b (State.each voidRelease (List.range 64) b) := .each (fun _ _ hu => hu.voidRelease) _ (.refl b)
  have hqueue : s.book.queue <+: (State.each voidRelease (List.range 64) b).book.queue := by
    have h3 := h2.queue
    rw [hq] at h3
    exact h1.queue.trans h3
  refine ⟨a.lotInterrupted, ?_, hqueue⟩
  rw [h2.same, hl, ← stations_of_lasting h1.same, ← h1.same]

theorem Lasts.startEvacuation (h : Lasts r s) : Lasts r (startEvacuation s) := by
  unfold Machine.startEvacuation
  split
  · exact h.beside
  · exact h.beside
  · exact h
  · exact h

/-! ### The till desk, with every run asleep -/

theorem startCuts_lasts (l : List Nat) (s : State) : Lasts s (startCuts l s).1 := by
  induction l generalizing s with
  | nil => exact .refl s
  | cons d l ih => exact ((Lasts.refl s).beside : Lasts s (cutEntries d s).1).trans (ih _)

theorem Lasts.startBuild {k : Nat} {l : List Nat} (hl : r.recycler.run.live = false) (h : Lasts r s) :
    Lasts r (startBuild k l s) := by
  have h1 : ∀ x, Lasts r (s.setBuild k x) := fun x => h.beside
  unfold Machine.startBuild
  split
  · exact h
  · dsimp only
    split
    · exact (h1 _).becomeShort hl
    · exact (h1 _).becomeShort hl
    · exact (h1 _).becomeShort hl
    · exact h1 _

theorem Lasts.startCancelling {k : Nat} (h : Lasts r s) : Lasts r (startCancelling k s) := by
  have h1 : Lasts r (giveTrayReturn k s) := by
    unfold giveTrayReturn Arbiter.join
    split <;> exact h.beside
  unfold Machine.startCancelling
  split
  · exact .ite h1 h
  · exact h

theorem Lasts.startDesk (hl : r.recycler.run.live = false) (h : Lasts r s) : Lasts r (startDesk s).1 := by
  have h1 : Lasts r (startCuts denoms s).1 := h.trans (startCuts_lasts denoms s)
  have h2 : Lasts r (collectEach (fun k => Machine.startBuild k
      (((startCuts denoms s).2.filter fun q => q.1 = k).map Prod.snd)) buildSlots (startCuts denoms s).1).1 :=
    h1.trans (lasts_collectEach (fun _ u hu =>
      (Lasts.refl u).startBuild (by rw [recycler_of_lasting (hu.trans h1.same), hl])) buildSlots)
  unfold Machine.startDesk
  dsimp only
  revert h2
  generalize (collectEach _ buildSlots (startCuts denoms s).1).1 = u
  exact fun h2 => .each (fun _ _ hu => hu.startCancelling) _ h2.beside

/-! ### The bay and the office -/

theorem Lasts.enterCons {k : Nat} {st : ConsState} (h : Lasts r s) : Lasts r (enterCons k st s) := by
  have h1 : ∀ x, Lasts r (s.setConsignment k x) := fun x => h.beside
  unfold Machine.enterCons
  split
  · exact .ite h (h1 _).notify
  · exact h

theorem Lasts.examineWindow {k : Nat} (h : Lasts r s) : Lasts r (examineWindow k s) := by
  unfold Machine.examineWindow
  split
  · exact .ite h.enterCons (.ite h.enterCons h)
  · exact h

theorem Lasts.startCons {k : Nat} (h : Lasts r s) : Lasts r (startCons k s) := by
  have hof : ∀ f, Lasts r (eachContainerOf k f s) := fun f => h.beside
  unfold Machine.startCons
  split
  · exact h
  next c _ =>
  have hitems : ∀ kind : ConsKind, Lasts r (match kind with
      | .collection => eachContainerOf k (fun r => { r with state := .assigned }) s
      | .delivery => s) := fun kind => by
    cases kind
    · exact hof _
    · exact h
  split
  · exact (hitems c.kind).enterCons
  · exact (hitems c.kind).enterCons
  · exact .ite h.enterCons.examineWindow h
  · exact h.examineWindow

/-- From `s` to `t` the alarms of a start are raised: of the doors' locks and sensors, of the mode and the clock, and of all
beside doors and office nothing has changed. -/
structure Alarmed (s t : State) : Prop where
  same : t.lasting = { s.lasting with doors := t.doors, office := t.office }
  queue : t.book.queue = s.book.queue
  office : t.doors.office.locked = s.doors.office.locked
  courier : t.doors.courier.locked = s.doors.courier.locked
  mode : t.office.mode = s.office.mode
  clock : t.office.clock = s.office.clock
  safe : t.office.safe.sensorOpen = s.office.safe.sensorOpen

theorem Alarmed.refl (s : State) : Alarmed s s := ⟨rfl, rfl, rfl, rfl, rfl, rfl, rfl⟩

theorem Alarmed.trans (h : Alarmed r s) (k : Alarmed s t) : Alarmed r t :=
  ⟨by rw [k.same, h.same], k.queue.trans h.queue, k.office.trans h.office, k.courier.trans h.courier, k.mode.trans h.mode,
    k.clock.trans h.clock, k.safe.trans h.safe⟩

theorem alarmed_notify (b : NoticeBody) (s : State) : Alarmed s (notify b s) := by
  unfold notify
  dsimp only
  split <;> exact ⟨rfl, rfl, rfl, rfl, rfl, rfl, rfl⟩

theorem alarmed_startDoor (d : Door) (s : State) : Alarmed s (startDoor d s) := by
  have h1 : Alarmed s (s.setDoor d { s.door d with forced := true }) := by
    cases d <;> exact ⟨rfl, rfl, rfl, rfl, rfl, rfl, rfl⟩
  have h2 : ∀ u, Alarmed u (handFault (doorSource d) .forced u) := fun u => ⟨rfl, rfl, rfl, rfl, rfl, rfl, rfl⟩
  unfold startDoor raiseForced
  split
  · split
    · exact .refl s
    · exact (h1.trans (alarmed_notify ..)).trans (h2 _)
  · exact .refl s

/-- The safe starts LOCKED, whatever its sensor reads (R198). -/
theorem alarmed_startSafe (s : State) : Alarmed s (startSafe s) ∧ (startSafe s).office.safe.state = .locked := by
  have h1 : ∀ b, Alarmed s (s.setSafe { Safe.initial with sensorOpen := s.office.safe.sensorOpen, forced := b }) :=
    fun b => ⟨rfl, rfl, rfl, rfl, rfl, rfl, rfl⟩
  have h2 : ∀ u, Alarmed u (handFault .safeDoor .forced u) := fun u => ⟨rfl, rfl, rfl, rfl, rfl, rfl, rfl⟩
  unfold startSafe
  dsimp only
  split
  · refine ⟨((h1 _).trans (alarmed_notify ..)).trans (h2 _), ?_⟩
    show (notify _ (s.setSafe _)).office.safe.state = .locked
    rw [notify_office]
    rfl
  · exact ⟨h1 _, rfl⟩

theorem alarmed_collect {f : State → State} (hf : ∀ u, Alarmed u (f u)) : Alarmed s (collect f s).1 := by
  obtain ⟨h, hq, h1, h2, h3, h4, h5⟩ :=
    hf { s with link := { s.link with notices := [], noticeNumber := 0, noticeLost := false } }
  refine ⟨?_, hq, h1, h2, h3, h4, h5⟩
  unfold collect
  dsimp only
  revert h
  generalize f _ = t
  intro h
  simp only [State.lasting, Lasting.mk.injEq] at h ⊢
  simp [h]

/-- The mode a start finds: a hold that was pending is entered (R209). -/
def startedMode (s : State) : Mode := if s.office.mode = .holdPending then .hold else s.office.mode

theorem startMode_eq (s : State) :
    startMode s = { s with office := { s.office with mode := startedMode s } } := by
  unfold startMode startedMode
  split <;> rfl

/-! ### The controller started -/

/-- A run record that a start finds begun is interrupted (R141). -/
def Run.started (x : Run) : Run := if x.state = .idle then x else { x with interrupted := true }

theorem live_started (x : Run) : x.started.live = false := by
  unfold Run.started Run.live
  split
  · next h => simp [h]
  · simp

/-- What the stages of a start make of what lasts: each block's registers stay, with the stations' records, the recycler's
modules and run record and the deposit account anew. -/
theorem started_registers (s : State) : ∃ keep z,
    z = (startDesk (startEvacuation (startRecycler (startCountUnit (startBook s)).1))).1 ∧
    z.lasting = { s.lasting with
      stations := s.count.stations.map (startStation keep), recycler := (startRecycler s).recycler, account := 0 } ∧
    s.book.queue <+: z.book.queue := by
  obtain ⟨keep, hx, hqx⟩ := startCountUnit_lasting (startBook s)
  generalize (startCountUnit (startBook s)).1 = x at hx hqx ⊢
  have hrec : x.recycler = s.recycler := congrArg Lasting.recycler hx
  have hoff : x.office = s.office := congrArg Lasting.office hx
  have hz : Lasts (startRecycler x) (startDesk (startEvacuation (startRecycler x))).1 :=
    ((Lasts.refl _).startEvacuation).startDesk (live_started _)
  refine ⟨keep, _, rfl, ?_, hqx.trans hz.queue⟩
  calc _ = (startRecycler x).lasting := hz.same
    _ = { x.lasting with recycler := (startRecycler x).recycler, account := 0 } := rfl
    _ = _ := by rw [hx]; simp only [startRecycler, hrec, hoff]; rfl

/-- What lasts through a start, and what it makes anew. -/
theorem started_lasting (s : State) : ∃ (d : Doors) (o : Office) (keep : Nat → Bool),
    (started s).lasting = { s.lasting with
      powered := true, stations := s.count.stations.map (startStation keep), recycler := (startRecycler s).recycler
      account := 0, doors := d, office := o, receiver := .hunting, inHand := none, owed := [], onLine := none
      stopping := false } ∧
    s.book.queue <+: (started s).book.queue ∧ d.office.locked = true ∧ d.courier.locked = true ∧
    o.mode = startedMode s ∧ o.clock = s.office.clock ∧ o.safe.state = .locked ∧
    o.safe.sensorOpen = s.office.safe.sensorOpen := by
  obtain ⟨keep, z, ez, hz, hqz⟩ := started_registers s
  have hzoff : z.office = s.office := congrArg Lasting.office hz
  unfold started
  rw [← ez]
  have hv : Lasts (z.setDoors ⟨z.doors.office.start, z.doors.courier.start, false, false, none⟩)
      (collectEach startCons consignmentSlots
        (z.setDoors ⟨z.doors.office.start, z.doors.courier.start, false, false, none⟩)).1 :=
    lasts_collectEach (fun _ u _ => (Lasts.refl u).startCons) _
  dsimp only
  generalize (collectEach startCons consignmentSlots _).1 = v at hv ⊢
  have hvoff : v.office = s.office := (office_of_lasting hv.same).trans hzoff
  have hmode : startedMode v = startedMode s := by rw [startedMode, hvoff, startedMode]
  have hdoors : v.doors = ⟨z.doors.office.start, z.doors.courier.start, false, false, none⟩ :=
    congrArg Lasting.doors hv.same
  have hw : Alarmed (startMode v) (collect (fun s => startSafe (startDoor .courier (startDoor .office s))) (startMode v)).1 :=
    alarmed_collect fun u =>
      ((alarmed_startDoor .office u).trans (alarmed_startDoor .courier _)).trans (alarmed_startSafe _).1
  have hlocked : (collect (fun s => startSafe (startDoor .courier (startDoor .office s)))
      (startMode v)).1.office.safe.state = .locked := (alarmed_startSafe _).2
  generalize (collect _ (startMode v)).1 = w at hw hlocked ⊢
  rw [startMode_eq] at hw
  refine ⟨w.doors, w.office, keep, ?_, ?_, ?_, ?_, ?_, ?_, hlocked, ?_⟩
  · have hvl : v.lasting = { z.lasting with doors := v.doors } := by rw [hdoors]; exact hv.same
    have hwl : w.lasting = { v.lasting with doors := w.doors, office := w.office } := hw.same
    rw [hvl, hz] at hwl
    calc _ = { w.lasting with powered := true, receiver := .hunting, inHand := none, owed := [], onLine := none
                              stopping := false } := rfl
      _ = _ := by rw [hwl]
  · exact (hqz.trans hv.queue).trans (hw.queue ▸ List.prefix_rfl)
  · rw [hw.office, hdoors]; rfl
  · rw [hw.courier, hdoors]; rfl
  · rw [hw.mode, hmode]
  · rw [hw.clock, hvoff]
  · rw [hw.safe, hvoff]

end Sys2Proof.Machine
end

section
/-! The controller that a start leaves is at rest but for what its builds owe, and announces itself first (O52). -/

-- One theorem at a time: the whole text holds more theorems than the check has room for threads.
set_option Elab.async false

namespace Sys2Proof.Machine

variable {s t : State}

/-! ### At rest after a start -/

theorem offerable_of_absent {n : Nat} (h : (s.station n).state = .absent) : s.offerable n = false := by
  simp [State.offerable, h]

theorem get_map {α : Type} {m : Nat} (f : α → α) (d : α) (t : Tab m α) (i : Nat) :
    (t.map f).get d i = if i < m then f (t.get d i) else d := by
  split
  · next hi =>
    have hl : i < t.list.length := by rw [t.size]; exact hi
    simp [Tab.get, Tab.map, hl]
  · next hi => exact Tab.get_out _ _ _ (Nat.le_of_not_lt hi)

/-- A station's record starts ABSENT (R84). -/
theorem startStation_absent (keep : Nat → Bool) (l : Tab 4 StationRec) (i : Nat) :
    ((l.map (startStation keep)).get StationRec.initial i).state = .absent := by
  rw [get_map]
  split <;> rfl

/-- Both modules start at TAGS, SAFE_OPEN where the safe's sensor reads OPEN and STARTING otherwise (R123). -/
theorem startRecycler_module (s : State) (m : Nat) : ∃ st : ModState,
    (startRecycler s).module m = ⟨st, .tags, false⟩ ∧ st ≠ .inService ∧ st ≠ .degraded := by
  by_cases hm : m < 2
  · refine ⟨if s.office.safe.sensorOpen then .safeOpen else .starting, ?_, ?_, ?_⟩
    · rw [State.module, startRecycler]
      dsimp only
      rw [Tab.get_fill _ _ _ hm]
      split <;> rfl
    · split <;> simp
    · split <;> simp
  · exact ⟨.offline, Tab.get_out _ _ _ (Nat.le_of_not_lt hm), nofun, nofun⟩

/-- With the safe's sensor CLOSED the modules are STARTING (R123). -/
theorem startRecycler_starting (h : s.office.safe.sensorOpen = false) :
    ((startRecycler s).module 0).state = .starting := by
  rw [State.module, startRecycler]
  dsimp only
  rw [Tab.get_fill _ _ _ Nat.two_pos, h]
  rfl

theorem started_atRest (s : State) : AtRest (started s) := by
  obtain ⟨d, o, keep, h, -, -, -, hmode, -, hsafe, hsensor⟩ := started_lasting s
  generalize started s = u at h ⊢
  have hrec : u.recycler = (startRecycler s).recycler := congrArg Lasting.recycler h
  have hoff : u.office = o := congrArg Lasting.office h
  have hst : u.count.stations = s.count.stations.map (startStation keep) := congrArg Lasting.stations h
  have hmod : ∀ m, u.module m = (startRecycler s).module m := fun m => by
    rw [State.module, hrec, State.module]
  refine ⟨?_, fun m => ?_, fun m => ?_, ?_, ?_, ?_, fun n => offerable_of_absent ?_⟩
  · rw [hrec]; exact live_started _
  · obtain ⟨st, e, h1, h2⟩ := startRecycler_module s m
    rw [State.inService, hmod, e]
    simp [h1, h2]
  · obtain ⟨st, e, -⟩ := startRecycler_module s m
    rw [hmod, e]
    nofun
  · cases hb : s.office.safe.sensorOpen with
    | true => simp [State.grantsOpen, hoff, hsensor, hb]
    | false => simp [State.grantsOpen, allModules, hmod, startRecycler_starting hb]
  · rw [hoff, hsafe]
  · rw [hoff, hmode, startedMode]
    split
    · nofun
    · assumption
  · rw [State.station, hst]
    exact startStation_absent ..

/-! ### The first notice -/

theorem startFrom_notices (restart good : Bool) (left : Nat → ModState) (s : State) :
    ∃ l, startFrom restart good left s = transmit (settle (notifyAll
      (.started restart good (started s).office.mode (started s).clock :: l) (started s))) := by
  unfold startFrom started
  dsimp only
  exact ⟨_, rfl⟩

/-- The first notice of a link started anew takes number 1 (R206). -/
theorem started_notify (b : NoticeBody) (s : State) :
    (notify b (started s)).link.notices = [⟨1, (started s).clock, b⟩] := rfl

theorem transmit_notice {n : Notice} (h1 : s.link.onLine = none) (h2 : s.link.inHand = none) (h3 : s.link.owed = [])
    (h4 : s.link.notices.head? = some n) :
    transmit s = { s with link := { s.link with onLine := some (.notice n) } } := by
  rw [transmit, h1]
  dsimp only
  rw [nextFrame, h2]
  dsimp only
  rw [h3]
  dsimp only
  rw [h4]
  rfl

theorem head_of_prefix {α : Type} {a : α} {l : List α} (h : [a] <+: l) : l.head? = some a := by
  obtain ⟨l', rfl⟩ := h
  rfl

theorem lasting_onLine (s : State) (x : Option Frame) :
    ({ s with link := { s.link with onLine := x } } : State).lasting = { s.lasting with onLine := x } := rfl

/-- What a start leaves of what lasts, with STARTED as the first notice and being sent (R209). -/
theorem startFrom_lasting (restart good : Bool) (left : Nat → ModState) (s : State) : ∃ d o keep n,
    n = (⟨1, s.clock, .started restart good (startedMode s) s.clock⟩ : Notice) ∧
    (startFrom restart good left s).lasting = { s.lasting with
      powered := true, stations := s.count.stations.map (startStation keep), recycler := (startRecycler s).recycler
      account := 0, doors := d, office := o, receiver := .hunting, inHand := none, owed := []
      onLine := some (.notice n), stopping := false } ∧
    s.book.queue <+: (startFrom restart good left s).book.queue ∧ d.office.locked = true ∧ d.courier.locked = true ∧
    o.clock = s.office.clock ∧
    (startFrom restart good left s).link.notices.head? = some n := by
  obtain ⟨d, o, keep, h, hq, hd1, hd2, hmode, hsame, -, -⟩ := started_lasting s
  obtain ⟨l, e⟩ := startFrom_notices restart good left s
  have hrest := started_atRest s
  have hnote := fun b => started_notify b s
  rw [e]
  generalize started s = u at h hq hrest hnote ⊢
  have hoff : u.office = o := congrArg Lasting.office h
  have hclock : u.clock = s.clock := by rw [State.clock, hoff, hsame, State.clock]
  have hmode : u.office.mode = startedMode s := by rw [hoff, hmode]
  rw [hclock, hmode]
  have hw : Lasts u (settle (notifyAll (.started restart good (startedMode s) s.clock :: l) u)) :=
    (Lasts.refl _).notifyAll.settle hrest
  have hv : Lasts (notify (.started restart good (startedMode s) s.clock) u)
      (settle (notifyAll (.started restart good (startedMode s) s.clock :: l) u)) :=
    Lasts.settle (hrest.lasting (Lasts.refl _).notify.same) (Lasts.refl _).notifyAll
  generalize settle _ = w at hw hv ⊢
  have hfirst := hv.notices
  rw [hnote, hclock] at hfirst
  have hwl := hw.same.trans h
  have ht := transmit_notice (congrArg Lasting.onLine hwl) (congrArg Lasting.inHand hwl) (congrArg Lasting.owed hwl)
    (head_of_prefix hfirst)
  rw [ht]
  refine ⟨d, o, keep, _, rfl, ?_, hq.trans hw.queue, hd1, hd2, hsame, head_of_prefix hfirst⟩
  rw [lasting_onLine, hwl]

theorem counts_posRec (s : State) (p : Nat) :
    (s.posRec p).counts = (s.lasting.counts[p]?).getD PosRec.fixed.counts := by
  simp only [State.lasting, List.getElem?_map, State.posRec, Tab.get, List.getD_eq_getElem?_getD]
  cases s.book.positions.list[p]? <;> rfl

/-! ### RESTART, R210 -/

/-- RESTART is taken in HOLD with the run record IDLE and no purge cycle. -/
theorem doRestart_taken (hmode : s.office.mode = .hold) (hrun : s.recycler.run.state = .idle)
    (hpurge : s.recycler.purge = none) : doRestart () s = (okReply [], s) := by
  rw [doRestart, State.restartBarred, if_neg (not_not_intro hmode), if_neg (by simp [hrun, hpurge])]

theorem frameSent_done {f : Frame} (hp : s.powered = true) (hf : s.link.onLine = some f) :
    exec .frameSent s = .next (transmit (frameDone f s)) := by
  show execFrameSent s = _
  rw [execFrameSent, event_on _ _ hp, hf]

/-- The OK reply of a RESTART that takes no postings out of the queue makes the link stop. -/
theorem frameDone_restart {tag : Nat} {x : Reply} (hok : x.status = .ok)
    (hfetch : ∀ h, s.link.inHand = some h → h.fetched = none) : frameDone (.reply 113 tag x) s = stopLink { s with
      link := { s.link with inHand := none, onLine := none, lastSent := [.reply 113 tag x], stopping := true } } := by
  have hreply : replySent { s with link := { s.link with onLine := none, lastSent := [.reply 113 tag x] } } = { s with
      link := { s.link with inHand := none, onLine := none, lastSent := [.reply 113 tag x] } } := by
    unfold replySent
    dsimp only
    split
    · next h hh => rw [hfetch h hh]
    · rfl
  rw [frameDone, hreply, restartSent, if_pos ⟨rfl, hok⟩]

theorem stopLink_stops (hs : s.link.stopping = true) (ho : s.link.owed = []) :
    stopLink s = startFrom true true (fun m => (s.module m).state) s := if_pos ⟨hs, ho⟩

theorem stopLink_waits (ho : s.link.owed ≠ []) : stopLink s = s := if_neg fun h => ho h.2

theorem frameDone_busy (b g : Nat) : frameDone (.busy b g) s = stopLink { s with link := { s.link with
    onLine := none, lastSent := [.busy b g], owed := s.link.owed.tail
    inHand := s.link.inHand.map fun h => { h with busyAhead := h.busyAhead - 1 } } } := by
  rw [frameDone, busySent]

theorem powerUp_good (s : State) : powerUp true s = startFrom false true (fun _ => .offline) s := by
  rw [powerUp, if_pos rfl]

/-- A started controller has STARTED on its line. -/
theorem transmit_startFrom (restart good : Bool) (left : Nat → ModState) (s : State) :
    transmit (startFrom restart good left s) = startFrom restart good left s := by
  obtain ⟨d, o, keep, n, -, h, -⟩ := startFrom_lasting restart good left s
  generalize startFrom restart good left s = t at h ⊢
  exact transmit_busy t _ (congrArg Lasting.onLine h)

/-- The commands of a start start the controller from what stands then but for its link. -/
theorem start_cases {restart : Bool} {c : Instr} (h : restart = false ∧ s.powered = false ∧ c = .powerOn true ∨
      restart = true ∧ s.powered = true ∧ c = .frameSent ∧
        ((∃ tag r, s.link.onLine = some (.reply 113 tag r) ∧ r.status = .ok ∧ s.link.owed = [] ∧
            ∀ h, s.link.inHand = some h → h.fetched = none) ∨
          (∃ b g, s.link.onLine = some (.busy b g) ∧ s.link.stopping = true ∧ s.link.owed.tail = []))) :
    ∃ left l, l.lastSent = (if restart then s.link.onLine.toList else s.link.lastSent) ∧
      exec c s = .next (startFrom restart true left { s with link := l }) := by
  obtain ⟨rfl, hp, rfl⟩ | ⟨rfl, hp, rfl, ⟨tag, x, hf, hok, howed, hfetch⟩ | ⟨b, g, hf, hstop, howed⟩⟩ := h
  · refine ⟨fun _ => .offline, s.link, rfl, ?_⟩
    show execPowerOn true s = .next (startFrom false true (fun _ => .offline) s)
    rw [execPowerOn, hp]
    exact congrArg _ (powerUp_good s)
  · refine ⟨fun m => (s.module m).state, { s.link with
      inHand := none, onLine := none, lastSent := [.reply 113 tag x], stopping := true }, by rw [hf]; rfl, ?_⟩
    rw [frameSent_done hp hf, frameDone_restart hok hfetch, stopLink_stops, transmit_startFrom]
    · rfl
    · rfl
    · exact howed
  · refine ⟨fun m => (s.module m).state, { s.link with
      onLine := none, lastSent := [.busy b g], owed := s.link.owed.tail
      inHand := s.link.inHand.map fun h => { h with busyAhead := h.busyAhead - 1 } }, by rw [hf]; rfl, ?_⟩
    rw [frameSent_done hp hf, frameDone_busy, stopLink_stops, transmit_startFrom]
    · rfl
    · exact hstop
    · exact howed

end Sys2Proof.Machine

open Sys2Proof Sys2Proof.Machine

/-- Settles O52: a start ends at rest, so that what lasts through its stages lasts through the settling, and its first notice is
STARTED. -/
theorem startAnnouncesItself : Obligations.StartAnnouncesItself := by
  refine ⟨fun tag s hs hmode hrun hpurge => ?_, fun tag x s hp hf hok hfetch howed => ?_, fun restart c s hstart => ?_⟩
  · exact exec_ready hs rfl (doRestart_taken (s := heard s) hmode hrun hpurge)
  · rw [frameSent_done hp hf, frameDone_restart hok hfetch, stopLink_waits]
    exact howed
  · obtain ⟨left, l, hsent, hexec⟩ := start_cases hstart
    obtain ⟨d, o, keep, n, rfl, h, hq, hoffice, hcourier, hclock, hhead⟩ := startFrom_lasting restart true left { s with link := l }
    have hset := ((Faithful.refl ({ s with link := l } : State)).startFrom (a := restart) (b := true) (f := left)).1
    refine ⟨_, hexec, ?_⟩
    generalize startFrom restart true left { s with link := l } = t at h hq hhead hset ⊢
    have lasts {β : Type} (f : Lasting → β) := congrArg f h
    have sets {β : Type} (f : Settings → β) := congrArg f hset
    have hcounts : ∀ p < 177, (t.posRec p).counts = (s.posRec p).counts := fun p _ => by
      rw [counts_posRec, lasts (·.counts), counts_posRec]
      rfl
    have hdoors : t.doors = d := lasts (·.doors)
    have hoff : t.office = o := lasts (·.office)
    refine ⟨lasts (·.powered), lasts (·.pending), lasts (·.receiver), lasts (·.inHand), lasts (·.owed), lasts (·.stopping),
      lasts (·.onLine), ?_, (lasts (·.lastSent)).trans hsent, hdoors ▸ hoffice, hdoors ▸ hcourier, lasts (·.account),
      lasts (·.recycler.purge), lasts (·.recycler.run), sets (·.denoms), hcounts, lasts (·.totals), lasts (·.moveCounter),
      hq, lasts (·.opening), lasts (·.tills), sets (·.templates), sets (·.line), lasts (·.lotCounter), sets (·.coinLimit),
      lasts (·.recycler.cassettes), lasts (·.recycler.routes), sets (·.arbiter), sets (·.threshold), sets (·.leakNotes),
      sets (·.enables), sets (·.doorLimit), sets (·.roster), sets (·.relockTime), hoff ▸ hclock⟩
    rw [hhead]
    exact (lasts (·.onLine)).symm

end
